-- ==== Sys2Proof/Word.lean ====
section
/-! DEFINITION. The word types of the model. -/
namespace Sys2Proof

/-- A 64-bit engine word (spec/02, general registers). -/
abbrev Word := BitVec 64
/-- A 32-bit control-space word (R8). -/
abbrev RegWord := BitVec 32
/-- A byte. -/
abbrev Byte := BitVec 8

end Sys2Proof
end

