-- ==== Sys2Proof/Config.lean ====
section
/-! DEFINITION. Constants of the device and the values the spec leaves open: each an opaque constant with no body, so that
nothing can be proved of its value (log entries in notes/assumptions). -/
namespace Sys2Proof.Config

/-- A free value: the k-th use of an undefined or unstated value (log 3). -/
opaque freeVal : Nat → BitVec 64

/-- The DRAM channel (true: channel 1) that holds an offset where two are fitted (log 31). -/
opaque dramChannel : Nat → Bool

/-- AES-GCM decryption (log 40): AES-256 or AES-128, key, nonce, additional data, ciphertext with its 16-byte tag; nothing where the
tag does not match. -/
opaque gcmOpen : Bool → List Byte → List Byte → List Byte → List Byte → Option (List Byte)

/-- AES-GCM encryption (log 40): ciphertext and tag. -/
opaque gcmSeal : Bool → List Byte → List Byte → List Byte → List Byte → List Byte

/-- The record-number mask of DTLS 1.3 (log 40): AES of the first ciphertext block under the record-number key. -/
opaque recordMask : Bool → List Byte → List Byte → List Byte

/-- SHA-256 (log 40). -/
opaque sha256 : List Byte → List Byte

/-- HMAC-SHA-256 (log 40): key, message. -/
opaque hmac : List Byte → List Byte → List Byte

/-- ECDSA P-256 verification (log 40): public key X then Y, SHA-256 of the message, signature r then s. -/
opaque ecdsaVerify : List Byte → List Byte → List Byte → Bool

/-- The 64 bytes of groom frame `k` on port `p`, without its FCS: the patterns are distinct, and the spec gives none (log 152). -/
opaque groomByte : Nat → Nat → Nat → BitVec 8

/-- Does a 1 on HB_TX rise in the middle of its bit (log 153)? -/
opaque hbOneRises : Bool

end Sys2Proof.Config
end

