-- ==== Sys2Proof/Machine/Bits.lean ====
section
/-! DEFINITION. Bit fields, byte lists, saturating and signed arithmetic, and the sparse maps the state is made of. -/
namespace Sys2Proof.Machine

/-- Bits `hi` to `lo` of a number. -/
def bits (n hi lo : Nat) : Nat := (n >>> lo) % 2 ^ (hi + 1 - lo)

/-- One bit of a number. -/
def bit (n i : Nat) : Bool := n.testBit i

/-- A number with bits `hi` to `lo` replaced by the low bits of `v`. -/
def setBits (n hi lo v : Nat) : Nat :=
  n - (bits n hi lo <<< lo) + ((v % 2 ^ (hi + 1 - lo)) <<< lo)

/-- A Bool as a bit. -/
def b2n (b : Bool) : Nat := if b then 1 else 0

/-- Add with saturation at `2^w - 1`. -/
def satAdd (w a b : Nat) : Nat := min (a + b) (2 ^ w - 1)

/-- The signed reading of the low `w` bits. -/
def sgn (w n : Nat) : Int :=
  let m := n % 2 ^ w
  if m < 2 ^ (w - 1) then (m : Int) else (m : Int) - (2 ^ w : Nat)

/-- The low `w` bits of an integer, as a number. -/
def wrap (w : Nat) (i : Int) : Nat := (i % (2 ^ w : Nat)).toNat

/-- `a ÷ b` rounded up; 0 for `b = 0`. -/
def ceilDiv (a b : Nat) : Nat := if b = 0 then 0 else (a + b - 1) / b

/-- Little-endian bytes: `n` bytes of a number, the low byte first. -/
def leBytes : Nat → Nat → List Byte
  | 0, _ => []
  | k + 1, n => BitVec.ofNat 8 n :: leBytes k (n / 256)

/-- The number that little-endian bytes spell. -/
def leNat : List Byte → Nat
  | [] => 0
  | b :: bs => b.toNat + 256 * leNat bs

/-- The number that big-endian (network order) bytes spell. -/
def beNat (l : List Byte) : Nat := leNat l.reverse

/-- Big-endian bytes of a number. -/
def beBytes (k n : Nat) : List Byte := (leBytes k n).reverse

/-- `n` bytes of a list from offset `o`, missing bytes read as zero. -/
def sliceB (l : List Byte) (o n : Nat) : List Byte :=
  let t := (l.drop o).take n
  t ++ List.replicate (n - t.length) 0

/-- A list with the bytes at offset `o` replaced. -/
def patchB (l : List Byte) (o : Nat) (p : List Byte) : List Byte :=
  l.take o ++ p ++ l.drop (o + p.length)

/-- Replace element `i` of a list (nothing outside it). -/
def setAt {α : Type} : List α → Nat → α → List α
  | [], _, _ => []
  | _ :: xs, 0, v => v :: xs
  | x :: xs, i + 1, v => x :: setAt xs i v

/-- The least of the `n` numbers from `i` on that satisfies a test. -/
def firstFrom (p : Nat → Bool) (i : Nat) : Nat → Option Nat
  | 0 => none
  | n + 1 => if p i then some i else firstFrom p (i + 1) n

/-- The least number below a bound that satisfies a test. -/
def firstIdx (p : Nat → Bool) (n : Nat) : Option Nat := firstFrom p 0 n

/-- How many numbers below a bound satisfy a test. -/
def countIdx (p : Nat → Bool) : Nat → Nat
  | 0 => 0
  | n + 1 => countIdx p n + b2n (p n)

/-! ### Sparse maps

A map is a list of (key, value) pairs. Its canonical form (`SMap.wf`): keys strictly rising, and no value equal to
what an unlisted key reads as (`d`), so that equal maps are equal lists. -/

abbrev SMap (α : Type) := List (Nat × α)

namespace SMap
variable {α : Type}

/-- The value at a key: the first pair with that key, else what the default gives. -/
def get (d : Nat → α) : SMap α → Nat → α
  | [], k => d k
  | (a, v) :: r, k => if a = k then v else get d r k

/-- The map without a key. -/
def erase : SMap α → Nat → SMap α
  | [], _ => []
  | (a, v) :: r, k => if a = k then erase r k else (a, v) :: erase r k

/-- Put a pair before the first larger key. -/
def ins : SMap α → Nat → α → SMap α
  | [], k, v => [(k, v)]
  | (a, w) :: r, k, v => if k < a then (k, v) :: (a, w) :: r else (a, w) :: ins r k v

/-- Set a key; a value equal to the default is not listed. -/
def set [DecidableEq α] (d : Nat → α) (m : SMap α) (k : Nat) (v : α) : SMap α :=
  if v = d k then erase m k else ins (erase m k) k v

/-- Every key from `lo` to below `hi` back to its default. -/
def clearRange (m : SMap α) (lo hi : Nat) : SMap α := m.filter (fun p => !(lo ≤ p.1 && p.1 < hi))

/-- Keys strictly above a bound and rising, no default listed. -/
def wfFrom [DecidableEq α] (d : Nat → α) : Option Nat → SMap α → Bool
  | _, [] => true
  | lo, (a, v) :: r =>
    (match lo with | none => true | some b => decide (b < a)) && !decide (v = d a) && wfFrom d (some a) r

/-- The canonical form. -/
def wf [DecidableEq α] (d : Nat → α) (m : SMap α) : Bool := wfFrom d none m

/-- The listed keys. -/
def keys (m : SMap α) : List Nat := m.map (·.1)

end SMap
end Sys2Proof.Machine
end

