-- ==== Sys2Proof/Machine/RegTable.lean ====
section
/-! DEFINITION. The register table: every register of the spec's register tables (files 00 to 19 of spec/),
one row each: name, BAR0 offset, array dimensions, fields with their R11 access code, and reset value.
Field reset values the spec gives as fused, retained or "by rail" are 0 here and are given where they are read. -/
namespace Sys2Proof.Machine

/-- The R11 access codes of a field (`RA` exists in the BAR2 recorder window only). -/
inductive Acc where
  | rw | ro | wo | w1c | w1s | rwl | rws
  deriving DecidableEq, Repr

/-- A field: register offset, high and low bit. -/
structure Fld where
  reg : Nat
  hi : Nat
  lo : Nat
  deriving DecidableEq, Repr

/-- One field of a row of the table. -/
structure FD where
  hi : Nat
  lo : Nat
  acc : Acc
  deriving DecidableEq, Repr

/-- The register names of the spec. -/
inductive RegName where
  | GCTL_ID | GCTL_GRADE | BRN_CTL | BRN_STAT | BRN_ECC_CNT | BRN_ECC_ADDR | BRN_ENG_DIS | BRN_THR_CTL | BRN_THR_PC | BRN_THR_STAT 
  | BRN_CS_ADDR | BRN_CS_DATA | BRN_CS_CTL | BRN_HOST_BASE | BRN_PAD_CTL | BRN_PAD_GCTL | BRN_PAD_MODE | BRN_PAD_LEN | BRN_PAD_PHASE 
  | BRN_PAD_STAT | BRN_PAD_BUD | BRN_PAD_LEFT | BRN_PAD_EXH | TBU_CTL | TBU_LEAD | TBU_JUMP_LIMIT | TBU_SLEW_RATE | TBU_ACT_STAT 
  | TBU_ACT_CNT | TBU_SNAP_VAL | TBU_PHY_DLY | TBU_PORT_TS | TBU_DOM_CTL | TBU_DOM_STAT | TBU_DOM_INCR_LO | TBU_DOM_INCR_HI 
  | TBU_DOM_STEP_S | TBU_DOM_STEP_NS | TBU_DOM_CMD | TBU_COORD_CFG | TBU_COORD_PMIN | TBU_COORD_PMAX | TBU_COORD_ENC | TBU_COORD_SYN 
  | TBU_COORD_ERR | TBU_COORD_CNT | TBU_CAP_CTL | TBU_CAP_Q | TBU_CAP_STAT | TBU_CAP_HEAD | TBU_CAP_W | TBU_CAP_POP | TBU_TOUT_CTL 
  | TBU_TOUT_PER | TBU_TOUT_PHASE | TBU_TOUT_WID | LFT_CTL | LFT_STAT | LFT_CFG | LFT_LOFT_BASE | LFT_AUX_BASE | LFT_SEAL_CFG | LFT_LEASE 
  | LFT_EPOCH_LO | LFT_EPOCH_HI | LFT_SEAL_LAG | LFT_OCC | LFT_HOLD_STAT | LFT_CNT_COMMIT | LFT_CNT_CONFLICT | LFT_CNT_BROKEN 
  | LFT_CNT_ABORT | LFT_MAP_STAT | LFT_SWP_CTL | LFT_SWP_Q | LFT_SWP_STAT | LFT_SWP_EPOCH_LO | LFT_SWP_EPOCH_HI | LFT_SWP_CURSOR 
  | LFT_SWP_PUSHED | LFT_SWP_EMITTED | LFT_HVIEW_BASE | LFT_HVIEW_CTL | LFT_HVIEW_STAT | LFT_HVIEW_EPOCH_LO | LFT_HVIEW_EPOCH_HI 
  | LFT_HVIEW_LEFT | LFT_MAP_CTL | LFT_MAP_PAD | ETH_GCTL | ETH_CTL | ETH_MODE | ETH_STAT | ETH_MAXLEN | ETH_ERR_DST | ETH_FC_CFG 
  | ETH_FC_WM | ETH_PFC_WM | ETH_FC_STAT | ETH_MAC_LO | ETH_MAC_HI | ETH_PRE_CFG | ETH_PRE_STAT | ETH_TSQ_CFG | ETH_TSQ_STAT | ETH_INT_STAT 
  | ETH_INT_EN | ETH_HALF_STAT | ETH_HALF_EN | ETH_CNT_LO | ETH_CNT_HI | YRD_CTL | YRD_STAT | YRD_POOL | YRD_FREE | YRD_HASH_SEED 
  | YRD_FT_STAT | YRD_FT_KEY | YRD_FT_ACT | YRD_FT_ACT2 | YRD_FT_CMD | YRD_FT_RES | YRD_FT_IDX | YRD_PIN_HOLD | YRD_PORT_CFG | YRD_PORT_OCC 
  | YRD_QLIM | YRD_QOCC | YRD_AGE | YRD_PGRP | YRD_AGG | YRD_SMP | YRD_SMP_DST | YRD_PIN | YRD_MCG | YRD_CNT_MISS | YRD_CNT_DROP 
  | YRD_CNT_QFULL | YRD_CNT_AGED | YRD_CNT_FLUSH | YRD_CNT_SMP_DROP | YRD_CNT_NOTOKEN | YRD_CNT_P8_FULL | YRD_CNT_RESET_DROP 
  | YRD_CNT_LINK_ERR | SCH_CTL | SCH_STAT | SCH_FQ_SEL | SCH_FQ_INFO | SCH_FQ_DEF | SCH_SHP_SEL | SCH_SHP_CB | SCH_SHP_EB | SCH_PORT_CFG 
  | SCH_PORT_GB | SCH_GCL_CTL | SCH_GCL_STAT | SCH_GCL_ADM_CFG | SCH_GCL_OPR_CFG | SCH_GCL_ADM_BASE_LO | SCH_GCL_ADM_BASE_HI 
  | SCH_GCL_OPR_BASE_LO | SCH_GCL_OPR_BASE_HI | SCH_GCL_ADM_CYCLE | SCH_GCL_OPR_CYCLE | SCH_GATE_STAT | SCH_CNT_OVERRUN | SCH_CNT_TOOBIG 
  | SCH_CNT_FQ_MISMATCH | SCH_CLS_CFG | SCH_CLS_STAT | SCH_SHP_CIR | SCH_SHP_EIR | SCH_SHP_BURST | SCH_SHP_CTL | SCH_GCL_ENTRY 
  | SCH_GCL_IVL | SCH_FQ_CFG | RED_CTL | RED_TWIN_CFG | RED_ROLE | RED_HB_CFG | RED_MIR_CFG | RED_GROOM_CFG | RED_GROOM_SIG | RED_GROOM_Q 
  | RED_GROOM_KRES | RED_GROOM_STAT | RED_SID_CFG | RED_CNT_HB_BAD | RED_CNT_MIR_TMO | RED_CNT_UNMATCHED | RED_CNT_ORPHAN | RED_CNT_SURPLUS 
  | RED_CNT_NOCLK | RED_CNT_EDGE | RED_CNT_DIG_MISMATCH | RED_CNT_DIG_MISSING | RED_CNT_DIVERGED | RED_CNT_PROMOTE | RED_CLK_CFG 
  | RED_CLK_ANCHOR_LO | RED_CLK_ANCHOR_HI | RED_CLK_CYCLE | RED_HEALTH | RED_SEL | RED_SEL_GEN | RED_SEL_REC | RED_SEL_CNT | RED_SMAC_LO 
  | RED_SMAC_HI | RED_SMAC_STR | RED_GEN_CFG | RED_REC_CFG | VOX_CTL | VOX_RING_CFG | VOX_Q_CFG | VOX_REPL_STAT | VOX_LINK_STAT 
  | VOX_CNT_RETRY | VOX_CNT_CRC | VOX_CNT_DROP | ZTT_CTL | ZTT_CFG | ZTT_STAT | ZTT_CYCLE | ZTT_TRIM | ZTT_BIT | ZTT_REF_CFG | ZTT_REF_W 
  | ZTT_Q_CFG | ZTT_Q_EN | ZTT_INT_STAT | ZTT_INT_EN | ZTT_PRESENT | ZTT_POLL_GRP_LO | ZTT_POLL_GRP_HI | ZTT_POLL_TX | ZTT_MODE 
  | ZTT_MODE_LEN | ZTT_CNT | ZTT_CNT_G | ZTT_NODE_MISS | ZTT_MB_CFG | ZTT_MB_STAT | ZTT_MB_CMD | ZTT_MB_INFO | ZTT_MB_DATA | ZTT_WIN_TIME 
  | ZTT_WIN_CTL | QM_CTL | QM_STAT | QM_PCIE_STAT | QM_PCIE_SUBSYS | QM_INT_CFG | QM_INT_STAT | QM_INT_EN | QM_ADM_DB | QM_QP_DB 
  | QM_QSPI_CFG | QM_CMD_W | QM_CMD_GO | QM_CMD_RES | QM_CMD_RES_W | QM_IRQ_MAP | QM_P9_MAP | QM_CNT_RX_DROP | QM_CNT_RX_NOBUF 
  | QM_CNT_BAD_DB | QM_CNT_CHAIN_LOOP | QM_CNT_HOST_TMO | QM_CNT_HOST_ERR | QM_CNT_HW_DROP | QM_CNT_BAD_ENTRY | SAX_CTL | SAX_STAT 
  | SAX_INT_EN | SAX_CFG | SAX_TBL_BASE | SAX_KA_Q | SAX_OCC | SAX_HIGH_WM | SAX_SEL | SAX_SEL_STATE | SAX_SEL_CB | SAX_SEL_EB 
  | SAX_SEL_CNT | SAX_CNT_RX_OK | SAX_CNT_AUTH_FAIL | SAX_CNT_REPLAY | SAX_CNT_POLICED | SAX_CNT_TX_OK | SAX_CNT_KA_DROP 
  | SAX_CNT_REPL_DROP | FCU_CTL | FCU_STAT | FCU_CFG | FCU_Q | FCU_ERR_CTL | FCU_FIRST | FCU_FIRST_DET | FCU_FW_RAISE | FCU_FW_DET 
  | FCU_CNT_CASCADE | FCU_CNT_INJ | FCU_FENCE | FCU_FENCE_SET | FCU_SRC_STAT | FCU_SRC_FORCE | FCU_SRC_CNT | FCU_RCT | FCU_CASCADE_MASK 
  | EVR_CTL | EVR_STAT | EVR_CFG | EVR_HEAD_LO | EVR_HEAD_HI | EVR_TAIL_LO | EVR_TAIL_HI | EVR_SPILL_CTL | EVR_SPILL_BASE | EVR_CNT_WRITTEN 
  | EVR_CNT_RATE_SUPP | EVR_CNT_EVLOG_RANGE | EVR_CNT_EVLOG_BUDGET | EVR_CNT_HW_LOST | EVR_CNT_SPILL_MISSING | EVR_RET_STAT | EVR_RET_W 
  | EVR_CUR_CTL | EVR_CUR_STAT | EVR_CUR_POS_LO | EVR_CUR_POS_HI | EVR_CUR_W | EVR_RATE | PWR_CTL | PWR_STAT | PWR_VIN | PWR_SH_THR 
  | PWR_LTR | PWR_WAKE | PWR_RAIL_STAT | PWR_TEMP | PWR_TJ_LIMIT | PWR_CNT_SH | PWR_PS_TIME | GCTL_RST_CTL | GCTL_RST_CAUSE | GCTL_STAT 
  | GCTL_BOOT_STAT | GCTL_BOOT_CMD | GCTL_IMG_BASE | GCTL_IMG_LEN | GCTL_IMG_VER | GCTL_TWIN_CFG | SEC_CTL | SEC_STAT | SEC_DBG_CMD 
  | SEC_DBG_RES | SEC_DBG_DATA | SEC_DBG_NONCE | SEC_DBG_FAIL | SEC_SERIAL_LO | SEC_SERIAL_HI | SEC_FUSE_STAT | SEC_FUSE_CMD | SEC_FUSE_RES 
  | DMC_CTL | DMC_STAT | DMC_SIZE | DMC_ECC_CNT | DMC_ECC_ADDR 
  deriving DecidableEq, Repr

/-- One row: a register or an array of registers. `dims` lists (stride, count) per index; `hole` says that value 8
of the first index has no register (the internal port P8 of arrays over ports P0 to P7 and P9). -/
structure RegDesc where
  name : RegName
  base : Nat
  dims : List (Nat × Nat)
  hole : Bool
  rst : Nat
  flds : List FD
  deriving DecidableEq, Repr

/-! ### Register offsets -/
namespace R
def GCTL_ID : Nat := 0x0
def GCTL_GRADE : Nat := 0x4
def BRN_CTL (b : Nat) : Nat := 0x200000 + b * 0x10000
def BRN_STAT (b : Nat) : Nat := 0x200004 + b * 0x10000
def BRN_ECC_CNT (b : Nat) : Nat := 0x200008 + b * 0x10000
def BRN_ECC_ADDR (b : Nat) : Nat := 0x20000c + b * 0x10000
def BRN_ENG_DIS (b : Nat) : Nat := 0x200010 + b * 0x10000
def BRN_THR_CTL (b : Nat) (e : Nat) (t : Nat) : Nat := 0x200100 + b * 0x10000 + e * 0x10 + t * 0x4
def BRN_THR_PC (b : Nat) (e : Nat) (t : Nat) : Nat := 0x200200 + b * 0x10000 + e * 0x10 + t * 0x4
def BRN_THR_STAT (b : Nat) (e : Nat) (t : Nat) : Nat := 0x200300 + b * 0x10000 + e * 0x10 + t * 0x4
def BRN_CS_ADDR : Nat := 0x280000
def BRN_CS_DATA : Nat := 0x280004
def BRN_CS_CTL : Nat := 0x280008
def BRN_HOST_BASE : Nat := 0x280010
def BRN_PAD_CTL (p : Nat) : Nat := 0x280100 + p * 0x4
def BRN_PAD_GCTL : Nat := 0x280014
def BRN_PAD_MODE (p : Nat) : Nat := 0x280200 + p * 0x4
def BRN_PAD_LEN (p : Nat) : Nat := 0x280280 + p * 0x4
def BRN_PAD_PHASE (p : Nat) : Nat := 0x280300 + p * 0x4
def BRN_PAD_STAT (p : Nat) : Nat := 0x280380 + p * 0x4
def BRN_PAD_BUD (p : Nat) (k : Nat) : Nat := 0x280400 + p * 0x20 + k * 0x4
def BRN_PAD_LEFT (p : Nat) (k : Nat) : Nat := 0x280800 + p * 0x20 + k * 0x4
def BRN_PAD_EXH (p : Nat) (k : Nat) : Nat := 0x280c00 + p * 0x20 + k * 0x4
def TBU_CTL : Nat := 0x50000
def TBU_LEAD : Nat := 0x50004
def TBU_JUMP_LIMIT : Nat := 0x50008
def TBU_SLEW_RATE : Nat := 0x5000c
def TBU_ACT_STAT : Nat := 0x50010
def TBU_ACT_CNT : Nat := 0x50014
def TBU_SNAP_VAL (n : Nat) (w : Nat) : Nat := 0x50100 + n * 0x20 + w * 0x4
def TBU_PHY_DLY (p : Nat) : Nat := 0x50800 + p * 0x4
def TBU_PORT_TS (p : Nat) : Nat := 0x50820 + p * 0x4
def TBU_DOM_CTL (n : Nat) : Nat := 0x51000 + n * 0x100
def TBU_DOM_STAT (n : Nat) : Nat := 0x51004 + n * 0x100
def TBU_DOM_INCR_LO (n : Nat) : Nat := 0x51008 + n * 0x100
def TBU_DOM_INCR_HI (n : Nat) : Nat := 0x5100c + n * 0x100
def TBU_DOM_STEP_S (n : Nat) : Nat := 0x51010 + n * 0x100
def TBU_DOM_STEP_NS (n : Nat) : Nat := 0x51014 + n * 0x100
def TBU_DOM_CMD (n : Nat) : Nat := 0x51018 + n * 0x100
def TBU_COORD_CFG (n : Nat) : Nat := 0x51020 + n * 0x100
def TBU_COORD_PMIN (n : Nat) : Nat := 0x51024 + n * 0x100
def TBU_COORD_PMAX (n : Nat) : Nat := 0x51028 + n * 0x100
def TBU_COORD_ENC (n : Nat) : Nat := 0x5102c + n * 0x100
def TBU_COORD_SYN (n : Nat) : Nat := 0x51030 + n * 0x100
def TBU_COORD_ERR (n : Nat) : Nat := 0x51034 + n * 0x100
def TBU_COORD_CNT (n : Nat) : Nat := 0x51038 + n * 0x100
def TBU_CAP_CTL (i : Nat) : Nat := 0x52000 + i * 0x40
def TBU_CAP_Q (i : Nat) : Nat := 0x52004 + i * 0x40
def TBU_CAP_STAT (i : Nat) : Nat := 0x52008 + i * 0x40
def TBU_CAP_HEAD (i : Nat) : Nat := 0x5200c + i * 0x40
def TBU_CAP_W (i : Nat) (w : Nat) : Nat := 0x52010 + i * 0x40 + w * 0x4
def TBU_CAP_POP (i : Nat) : Nat := 0x52030 + i * 0x40
def TBU_TOUT_CTL (j : Nat) : Nat := 0x53000 + j * 0x20
def TBU_TOUT_PER (j : Nat) : Nat := 0x53004 + j * 0x20
def TBU_TOUT_PHASE (j : Nat) : Nat := 0x53008 + j * 0x20
def TBU_TOUT_WID (j : Nat) : Nat := 0x5300c + j * 0x20
def LFT_CTL : Nat := 0x180000
def LFT_STAT : Nat := 0x180004
def LFT_CFG : Nat := 0x180008
def LFT_LOFT_BASE : Nat := 0x18000c
def LFT_AUX_BASE : Nat := 0x180010
def LFT_SEAL_CFG : Nat := 0x180014
def LFT_LEASE : Nat := 0x180018
def LFT_EPOCH_LO : Nat := 0x18001c
def LFT_EPOCH_HI : Nat := 0x180020
def LFT_SEAL_LAG : Nat := 0x180024
def LFT_OCC : Nat := 0x180028
def LFT_HOLD_STAT : Nat := 0x18002c
def LFT_CNT_COMMIT : Nat := 0x180030
def LFT_CNT_CONFLICT : Nat := 0x180034
def LFT_CNT_BROKEN : Nat := 0x180038
def LFT_CNT_ABORT : Nat := 0x18003c
def LFT_MAP_STAT : Nat := 0x180040
def LFT_SWP_CTL (c : Nat) : Nat := 0x180100 + c * 0x40
def LFT_SWP_Q (c : Nat) : Nat := 0x180104 + c * 0x40
def LFT_SWP_STAT (c : Nat) : Nat := 0x180108 + c * 0x40
def LFT_SWP_EPOCH_LO (c : Nat) : Nat := 0x18010c + c * 0x40
def LFT_SWP_EPOCH_HI (c : Nat) : Nat := 0x180110 + c * 0x40
def LFT_SWP_CURSOR (c : Nat) : Nat := 0x180114 + c * 0x40
def LFT_SWP_PUSHED (c : Nat) : Nat := 0x180118 + c * 0x40
def LFT_SWP_EMITTED (c : Nat) : Nat := 0x18011c + c * 0x40
def LFT_HVIEW_BASE (h : Nat) : Nat := 0x180400 + h * 0x20
def LFT_HVIEW_CTL (h : Nat) : Nat := 0x180404 + h * 0x20
def LFT_HVIEW_STAT (h : Nat) : Nat := 0x180408 + h * 0x20
def LFT_HVIEW_EPOCH_LO (h : Nat) : Nat := 0x18040c + h * 0x20
def LFT_HVIEW_EPOCH_HI (h : Nat) : Nat := 0x180410 + h * 0x20
def LFT_HVIEW_LEFT (h : Nat) : Nat := 0x180414 + h * 0x20
def LFT_MAP_CTL (m : Nat) : Nat := 0x181000 + m * 0x8
def LFT_MAP_PAD (m : Nat) : Nat := 0x181004 + m * 0x8
def ETH_GCTL : Nat := 0x90000
def ETH_CTL (p : Nat) : Nat := 0x80000 + p * 0x2000
def ETH_MODE (p : Nat) : Nat := 0x80004 + p * 0x2000
def ETH_STAT (p : Nat) : Nat := 0x80008 + p * 0x2000
def ETH_MAXLEN (p : Nat) : Nat := 0x8000c + p * 0x2000
def ETH_ERR_DST (p : Nat) : Nat := 0x80010 + p * 0x2000
def ETH_FC_CFG (p : Nat) : Nat := 0x80014 + p * 0x2000
def ETH_FC_WM (p : Nat) : Nat := 0x80018 + p * 0x2000
def ETH_PFC_WM (p : Nat) (i : Nat) : Nat := 0x80040 + p * 0x2000 + i * 0x4
def ETH_FC_STAT (p : Nat) : Nat := 0x8001c + p * 0x2000
def ETH_MAC_LO (p : Nat) : Nat := 0x80020 + p * 0x2000
def ETH_MAC_HI (p : Nat) : Nat := 0x80024 + p * 0x2000
def ETH_PRE_CFG (p : Nat) : Nat := 0x80028 + p * 0x2000
def ETH_PRE_STAT (p : Nat) : Nat := 0x8002c + p * 0x2000
def ETH_TSQ_CFG (p : Nat) : Nat := 0x80030 + p * 0x2000
def ETH_TSQ_STAT (p : Nat) : Nat := 0x80034 + p * 0x2000
def ETH_INT_STAT (p : Nat) : Nat := 0x80038 + p * 0x2000
def ETH_INT_EN (p : Nat) : Nat := 0x8003c + p * 0x2000
def ETH_HALF_STAT (p : Nat) (w : Nat) : Nat := 0x80060 + p * 0x2000 + w * 0x4
def ETH_HALF_EN (p : Nat) (w : Nat) : Nat := 0x80068 + p * 0x2000 + w * 0x4
def ETH_CNT_LO (p : Nat) (c : Nat) : Nat := 0x80400 + p * 0x2000 + c * 0x8
def ETH_CNT_HI (p : Nat) (c : Nat) : Nat := 0x80404 + p * 0x2000 + c * 0x8
def YRD_CTL : Nat := 0xa0000
def YRD_STAT : Nat := 0xa0004
def YRD_POOL : Nat := 0xa0008
def YRD_FREE : Nat := 0xa000c
def YRD_HASH_SEED : Nat := 0xa0010
def YRD_FT_STAT : Nat := 0xa0014
def YRD_FT_KEY (w : Nat) : Nat := 0xa0020 + w * 0x4
def YRD_FT_ACT : Nat := 0xa0030
def YRD_FT_ACT2 : Nat := 0xa0034
def YRD_FT_CMD : Nat := 0xa0038
def YRD_FT_RES : Nat := 0xa003c
def YRD_FT_IDX : Nat := 0xa0040
def YRD_PIN_HOLD : Nat := 0xa0044
def YRD_PORT_CFG (i : Nat) : Nat := 0xa0100 + i * 0x4
def YRD_PORT_OCC (i : Nat) : Nat := 0xa0140 + i * 0x4
def YRD_QLIM (o : Nat) (c : Nat) : Nat := 0xa0400 + o * 0x20 + c * 0x4
def YRD_QOCC (o : Nat) (c : Nat) : Nat := 0xa0600 + o * 0x20 + c * 0x4
def YRD_AGE (c : Nat) : Nat := 0xa0800 + c * 0x4
def YRD_PGRP (g : Nat) : Nat := 0xa0840 + g * 0x4
def YRD_AGG (a : Nat) : Nat := 0xa0880 + a * 0x4
def YRD_SMP (s : Nat) : Nat := 0xa0900 + s * 0x8
def YRD_SMP_DST (s : Nat) : Nat := 0xa0904 + s * 0x8
def YRD_PIN (k : Nat) : Nat := 0xa1000 + k * 0x4
def YRD_MCG (m : Nat) : Nat := 0xa2000 + m * 0x4
def YRD_CNT_MISS (i : Nat) : Nat := 0xa3000 + i * 0x4
def YRD_CNT_DROP (i : Nat) : Nat := 0xa3040 + i * 0x4
def YRD_CNT_QFULL (i : Nat) : Nat := 0xa3080 + i * 0x4
def YRD_CNT_AGED (i : Nat) : Nat := 0xa30c0 + i * 0x4
def YRD_CNT_FLUSH (i : Nat) : Nat := 0xa3100 + i * 0x4
def YRD_CNT_SMP_DROP (i : Nat) : Nat := 0xa3140 + i * 0x4
def YRD_CNT_NOTOKEN : Nat := 0xa3180
def YRD_CNT_P8_FULL : Nat := 0xa3184
def YRD_CNT_RESET_DROP : Nat := 0xa3188
def YRD_CNT_LINK_ERR : Nat := 0xa318c
def SCH_CTL : Nat := 0xc0000
def SCH_STAT : Nat := 0xc0004
def SCH_FQ_SEL : Nat := 0xc0010
def SCH_FQ_INFO : Nat := 0xc0014
def SCH_FQ_DEF : Nat := 0xc0018
def SCH_SHP_SEL : Nat := 0xc001c
def SCH_SHP_CB : Nat := 0xc0020
def SCH_SHP_EB : Nat := 0xc0024
def SCH_PORT_CFG (o : Nat) : Nat := 0xc0100 + o * 0x40
def SCH_PORT_GB (o : Nat) : Nat := 0xc0104 + o * 0x40
def SCH_GCL_CTL (o : Nat) : Nat := 0xc0108 + o * 0x40
def SCH_GCL_STAT (o : Nat) : Nat := 0xc010c + o * 0x40
def SCH_GCL_ADM_CFG (o : Nat) : Nat := 0xc0110 + o * 0x40
def SCH_GCL_OPR_CFG (o : Nat) : Nat := 0xc0120 + o * 0x40
def SCH_GCL_ADM_BASE_LO (o : Nat) : Nat := 0xc0114 + o * 0x40
def SCH_GCL_ADM_BASE_HI (o : Nat) : Nat := 0xc0118 + o * 0x40
def SCH_GCL_OPR_BASE_LO (o : Nat) : Nat := 0xc0124 + o * 0x40
def SCH_GCL_OPR_BASE_HI (o : Nat) : Nat := 0xc0128 + o * 0x40
def SCH_GCL_ADM_CYCLE (o : Nat) : Nat := 0xc011c + o * 0x40
def SCH_GCL_OPR_CYCLE (o : Nat) : Nat := 0xc012c + o * 0x40
def SCH_GATE_STAT (o : Nat) : Nat := 0xc0130 + o * 0x40
def SCH_CNT_OVERRUN (o : Nat) : Nat := 0xc0134 + o * 0x40
def SCH_CNT_TOOBIG (o : Nat) : Nat := 0xc0138 + o * 0x40
def SCH_CNT_FQ_MISMATCH (o : Nat) : Nat := 0xc013c + o * 0x40
def SCH_CLS_CFG (o : Nat) (c : Nat) : Nat := 0xc1000 + o * 0x40 + c * 0x4
def SCH_CLS_STAT (o : Nat) (c : Nat) : Nat := 0xc1020 + o * 0x40 + c * 0x4
def SCH_SHP_CIR (s : Nat) : Nat := 0xc8000 + s * 0x10
def SCH_SHP_EIR (s : Nat) : Nat := 0xc8004 + s * 0x10
def SCH_SHP_BURST (s : Nat) : Nat := 0xc8008 + s * 0x10
def SCH_SHP_CTL (s : Nat) : Nat := 0xc800c + s * 0x10
def SCH_GCL_ENTRY (p : Nat) (k : Nat) : Nat := 0xd0000 + p * 0x4000 + k * 0x8
def SCH_GCL_IVL (p : Nat) (k : Nat) : Nat := 0xd0004 + p * 0x4000 + k * 0x8
def SCH_FQ_CFG (f : Nat) : Nat := 0xf0000 + f * 0x4
def RED_CTL : Nat := 0x100000
def RED_TWIN_CFG : Nat := 0x100004
def RED_ROLE : Nat := 0x100008
def RED_HB_CFG : Nat := 0x10000c
def RED_MIR_CFG : Nat := 0x100010
def RED_GROOM_CFG : Nat := 0x100014
def RED_GROOM_SIG : Nat := 0x100018
def RED_GROOM_Q : Nat := 0x10001c
def RED_GROOM_KRES : Nat := 0x100020
def RED_GROOM_STAT : Nat := 0x100024
def RED_SID_CFG : Nat := 0x100028
def RED_CNT_HB_BAD : Nat := 0x100040
def RED_CNT_MIR_TMO : Nat := 0x100044
def RED_CNT_UNMATCHED : Nat := 0x100048
def RED_CNT_ORPHAN : Nat := 0x10004c
def RED_CNT_SURPLUS : Nat := 0x100050
def RED_CNT_NOCLK : Nat := 0x100054
def RED_CNT_EDGE : Nat := 0x100058
def RED_CNT_DIG_MISMATCH : Nat := 0x10005c
def RED_CNT_DIG_MISSING : Nat := 0x100060
def RED_CNT_DIVERGED : Nat := 0x100064
def RED_CNT_PROMOTE : Nat := 0x100068
def RED_CLK_CFG (x : Nat) : Nat := 0x100100 + x * 0x10
def RED_CLK_ANCHOR_LO (x : Nat) : Nat := 0x100104 + x * 0x10
def RED_CLK_ANCHOR_HI (x : Nat) : Nat := 0x100108 + x * 0x10
def RED_CLK_CYCLE (x : Nat) : Nat := 0x10010c + x * 0x10
def RED_HEALTH (w : Nat) : Nat := 0x100200 + w * 0x4
def RED_SEL : Nat := 0x100300
def RED_SEL_GEN : Nat := 0x100304
def RED_SEL_REC : Nat := 0x100308
def RED_SEL_CNT (w : Nat) : Nat := 0x100310 + w * 0x4
def RED_SMAC_LO (x : Nat) : Nat := 0x101000 + x * 0x10
def RED_SMAC_HI (x : Nat) : Nat := 0x101004 + x * 0x10
def RED_SMAC_STR (x : Nat) : Nat := 0x101008 + x * 0x10
def RED_GEN_CFG (s : Nat) : Nat := 0x104000 + s * 0x4
def RED_REC_CFG (s : Nat) : Nat := 0x108000 + s * 0x4
def VOX_CTL : Nat := 0x110000
def VOX_RING_CFG : Nat := 0x110004
def VOX_Q_CFG : Nat := 0x110008
def VOX_REPL_STAT : Nat := 0x11000c
def VOX_LINK_STAT (l : Nat) : Nat := 0x110010 + l * 0x10
def VOX_CNT_RETRY (l : Nat) : Nat := 0x110014 + l * 0x10
def VOX_CNT_CRC (l : Nat) : Nat := 0x110018 + l * 0x10
def VOX_CNT_DROP (l : Nat) : Nat := 0x11001c + l * 0x10
def ZTT_CTL : Nat := 0x120000
def ZTT_CFG : Nat := 0x120004
def ZTT_STAT : Nat := 0x120008
def ZTT_CYCLE : Nat := 0x12000c
def ZTT_TRIM : Nat := 0x120010
def ZTT_BIT : Nat := 0x120014
def ZTT_REF_CFG : Nat := 0x120018
def ZTT_REF_W (w : Nat) : Nat := 0x120020 + w * 0x4
def ZTT_Q_CFG : Nat := 0x120040
def ZTT_Q_EN : Nat := 0x120044
def ZTT_INT_STAT : Nat := 0x120048
def ZTT_INT_EN : Nat := 0x12004c
def ZTT_PRESENT (w : Nat) : Nat := 0x120050 + w * 0x4
def ZTT_POLL_GRP_LO (g : Nat) : Nat := 0x120080 + g * 0x8
def ZTT_POLL_GRP_HI (g : Nat) : Nat := 0x120084 + g * 0x8
def ZTT_POLL_TX (g : Nat) : Nat := 0x1200c0 + g * 0x4
def ZTT_MODE (i : Nat) : Nat := 0x120100 + i * 0x8
def ZTT_MODE_LEN (i : Nat) : Nat := 0x120104 + i * 0x8
def ZTT_CNT (c : Nat) (k : Nat) : Nat := 0x120200 + c * 0x20 + k * 0x4
def ZTT_CNT_G (k : Nat) : Nat := 0x120240 + k * 0x4
def ZTT_NODE_MISS (n : Nat) : Nat := 0x120400 + n * 0x4
def ZTT_MB_CFG (m : Nat) : Nat := 0x121000 + m * 0x10
def ZTT_MB_STAT (m : Nat) : Nat := 0x121004 + m * 0x10
def ZTT_MB_CMD (m : Nat) : Nat := 0x121008 + m * 0x10
def ZTT_MB_INFO (m : Nat) : Nat := 0x12100c + m * 0x10
def ZTT_MB_DATA (m : Nat) (w : Nat) : Nat := 0x128000 + m * 0x40 + w * 0x4
def ZTT_WIN_TIME (k : Nat) : Nat := 0x130000 + k * 0x8
def ZTT_WIN_CTL (k : Nat) : Nat := 0x130004 + k * 0x8
def QM_CTL : Nat := 0x140000
def QM_STAT : Nat := 0x140004
def QM_PCIE_STAT : Nat := 0x140008
def QM_PCIE_SUBSYS : Nat := 0x14000c
def QM_INT_CFG : Nat := 0x140010
def QM_INT_STAT (w : Nat) : Nat := 0x140014 + w * 0x4
def QM_INT_EN (w : Nat) : Nat := 0x14001c + w * 0x4
def QM_ADM_DB : Nat := 0x140030
def QM_QP_DB (i : Nat) : Nat := 0x150000 + i * 0x4
def QM_QSPI_CFG : Nat := 0x140034
def QM_CMD_W (w : Nat) : Nat := 0x140040 + w * 0x4
def QM_CMD_GO : Nat := 0x140080
def QM_CMD_RES : Nat := 0x140084
def QM_CMD_RES_W (w : Nat) : Nat := 0x140088 + w * 0x4
def QM_IRQ_MAP (k : Nat) : Nat := 0x140100 + k * 0x4
def QM_P9_MAP (c : Nat) : Nat := 0x140200 + c * 0x4
def QM_CNT_RX_DROP : Nat := 0x140300
def QM_CNT_RX_NOBUF : Nat := 0x140304
def QM_CNT_BAD_DB : Nat := 0x140308
def QM_CNT_CHAIN_LOOP : Nat := 0x14030c
def QM_CNT_HOST_TMO : Nat := 0x140310
def QM_CNT_HOST_ERR : Nat := 0x140314
def QM_CNT_HW_DROP : Nat := 0x140318
def QM_CNT_BAD_ENTRY : Nat := 0x14031c
def SAX_CTL : Nat := 0x1c0000
def SAX_STAT : Nat := 0x1c0004
def SAX_INT_EN : Nat := 0x1c0008
def SAX_CFG : Nat := 0x1c000c
def SAX_TBL_BASE : Nat := 0x1c0010
def SAX_KA_Q : Nat := 0x1c0014
def SAX_OCC : Nat := 0x1c0018
def SAX_HIGH_WM : Nat := 0x1c001c
def SAX_SEL : Nat := 0x1c0020
def SAX_SEL_STATE : Nat := 0x1c0024
def SAX_SEL_CB : Nat := 0x1c0028
def SAX_SEL_EB : Nat := 0x1c002c
def SAX_SEL_CNT (w : Nat) : Nat := 0x1c0030 + w * 0x4
def SAX_CNT_RX_OK : Nat := 0x1c0100
def SAX_CNT_AUTH_FAIL : Nat := 0x1c0104
def SAX_CNT_REPLAY : Nat := 0x1c0108
def SAX_CNT_POLICED : Nat := 0x1c010c
def SAX_CNT_TX_OK : Nat := 0x1c0110
def SAX_CNT_KA_DROP : Nat := 0x1c0114
def SAX_CNT_REPL_DROP : Nat := 0x1c0118
def FCU_CTL : Nat := 0x20000
def FCU_STAT : Nat := 0x20004
def FCU_CFG : Nat := 0x20008
def FCU_Q : Nat := 0x2000c
def FCU_ERR_CTL : Nat := 0x20010
def FCU_FIRST : Nat := 0x20014
def FCU_FIRST_DET (w : Nat) : Nat := 0x20018 + w * 0x4
def FCU_FW_RAISE : Nat := 0x20020
def FCU_FW_DET : Nat := 0x20024
def FCU_CNT_CASCADE : Nat := 0x20028
def FCU_CNT_INJ : Nat := 0x2002c
def FCU_FENCE (w : Nat) : Nat := 0x20030 + w * 0x4
def FCU_FENCE_SET (w : Nat) : Nat := 0x20038 + w * 0x4
def FCU_SRC_STAT (s : Nat) : Nat := 0x20100 + s * 0x4
def FCU_SRC_FORCE (s : Nat) : Nat := 0x20200 + s * 0x4
def FCU_SRC_CNT (s : Nat) : Nat := 0x20300 + s * 0x4
def FCU_RCT (s : Nat) (w : Nat) : Nat := 0x20400 + s * 0x10 + w * 0x4
def FCU_CASCADE_MASK (s : Nat) (w : Nat) : Nat := 0x20800 + s * 0x8 + w * 0x4
def EVR_CTL : Nat := 0x30000
def EVR_STAT : Nat := 0x30004
def EVR_CFG : Nat := 0x30008
def EVR_HEAD_LO : Nat := 0x3000c
def EVR_HEAD_HI : Nat := 0x30010
def EVR_TAIL_LO : Nat := 0x30014
def EVR_TAIL_HI : Nat := 0x30018
def EVR_SPILL_CTL : Nat := 0x3001c
def EVR_SPILL_BASE : Nat := 0x30020
def EVR_CNT_WRITTEN : Nat := 0x30040
def EVR_CNT_RATE_SUPP : Nat := 0x30044
def EVR_CNT_EVLOG_RANGE : Nat := 0x30048
def EVR_CNT_EVLOG_BUDGET : Nat := 0x3004c
def EVR_CNT_HW_LOST : Nat := 0x30050
def EVR_CNT_SPILL_MISSING : Nat := 0x30054
def EVR_RET_STAT : Nat := 0x30060
def EVR_RET_W (r : Nat) (w : Nat) : Nat := 0x30080 + r * 0x20 + w * 0x4
def EVR_CUR_CTL (c : Nat) : Nat := 0x30100 + c * 0x40
def EVR_CUR_STAT (c : Nat) : Nat := 0x30104 + c * 0x40
def EVR_CUR_POS_LO (c : Nat) : Nat := 0x30108 + c * 0x40
def EVR_CUR_POS_HI (c : Nat) : Nat := 0x3010c + c * 0x40
def EVR_CUR_W (c : Nat) (w : Nat) : Nat := 0x30120 + c * 0x40 + w * 0x4
def EVR_RATE (i : Nat) : Nat := 0x31000 + i * 0x4
def PWR_CTL : Nat := 0x10000
def PWR_STAT : Nat := 0x10004
def PWR_VIN : Nat := 0x10008
def PWR_SH_THR (k : Nat) : Nat := 0x10010 + k * 0x4
def PWR_LTR (k : Nat) : Nat := 0x10020 + k * 0x4
def PWR_WAKE : Nat := 0x10040
def PWR_RAIL_STAT : Nat := 0x10044
def PWR_TEMP : Nat := 0x10048
def PWR_TJ_LIMIT : Nat := 0x1004c
def PWR_CNT_SH : Nat := 0x10050
def PWR_PS_TIME (k : Nat) : Nat := 0x10060 + k * 0x4
def GCTL_RST_CTL : Nat := 0x8
def GCTL_RST_CAUSE : Nat := 0xc
def GCTL_STAT : Nat := 0x10
def GCTL_BOOT_STAT : Nat := 0x14
def GCTL_BOOT_CMD : Nat := 0x18
def GCTL_IMG_BASE : Nat := 0x1c
def GCTL_IMG_LEN : Nat := 0x20
def GCTL_IMG_VER : Nat := 0x24
def GCTL_TWIN_CFG : Nat := 0x28
def SEC_CTL : Nat := 0x40000
def SEC_STAT : Nat := 0x40004
def SEC_DBG_CMD : Nat := 0x40008
def SEC_DBG_RES : Nat := 0x4000c
def SEC_DBG_DATA (w : Nat) : Nat := 0x40010 + w * 0x4
def SEC_DBG_NONCE (w : Nat) : Nat := 0x40020 + w * 0x4
def SEC_DBG_FAIL : Nat := 0x40030
def SEC_SERIAL_LO : Nat := 0x40040
def SEC_SERIAL_HI : Nat := 0x40044
def SEC_FUSE_STAT : Nat := 0x40048
def SEC_FUSE_CMD : Nat := 0x4004c
def SEC_FUSE_RES : Nat := 0x40050
def DMC_CTL : Nat := 0x300000
def DMC_STAT : Nat := 0x300004
def DMC_SIZE : Nat := 0x300008
def DMC_ECC_CNT (c : Nat) : Nat := 0x300010 + c * 0x8
def DMC_ECC_ADDR (c : Nat) : Nat := 0x300014 + c * 0x8
end R

/-! ### Fields -/
namespace F
def GCTL_ID_VENDOR : Fld := ⟨R.GCTL_ID, 31, 20⟩
def GCTL_ID_PART : Fld := ⟨R.GCTL_ID, 19, 4⟩
def GCTL_ID_STEPPING : Fld := ⟨R.GCTL_ID, 3, 0⟩
def GCTL_GRADE_GRADE : Fld := ⟨R.GCTL_GRADE, 1, 0⟩
def BRN_CTL_LOCK (b : Nat) : Fld := ⟨R.BRN_CTL b, 31, 31⟩
def BRN_CTL_RST (b : Nat) : Fld := ⟨R.BRN_CTL b, 1, 1⟩
def BRN_CTL_EN (b : Nat) : Fld := ⟨R.BRN_CTL b, 0, 0⟩
def BRN_STAT_ACTIVE (b : Nat) : Fld := ⟨R.BRN_STAT b, 22, 16⟩
def BRN_STAT_ECC_UE (b : Nat) : Fld := ⟨R.BRN_STAT b, 10, 10⟩
def BRN_STAT_ECC_CE (b : Nat) : Fld := ⟨R.BRN_STAT b, 9, 9⟩
def BRN_STAT_CFG_REJ (b : Nat) : Fld := ⟨R.BRN_STAT b, 8, 8⟩
def BRN_STAT_PGATED (b : Nat) : Fld := ⟨R.BRN_STAT b, 1, 1⟩
def BRN_STAT_RST_BUSY (b : Nat) : Fld := ⟨R.BRN_STAT b, 0, 0⟩
def BRN_ECC_CNT_UE (b : Nat) : Fld := ⟨R.BRN_ECC_CNT b, 31, 16⟩
def BRN_ECC_CNT_CE (b : Nat) : Fld := ⟨R.BRN_ECC_CNT b, 15, 0⟩
def BRN_ECC_ADDR_VALID (b : Nat) : Fld := ⟨R.BRN_ECC_ADDR b, 31, 31⟩
def BRN_ECC_ADDR_CODE (b : Nat) : Fld := ⟨R.BRN_ECC_ADDR b, 25, 25⟩
def BRN_ECC_ADDR_TACK (b : Nat) : Fld := ⟨R.BRN_ECC_ADDR b, 24, 24⟩
def BRN_ECC_ADDR_ENGINE (b : Nat) : Fld := ⟨R.BRN_ECC_ADDR b, 23, 20⟩
def BRN_ECC_ADDR_OFFSET (b : Nat) : Fld := ⟨R.BRN_ECC_ADDR b, 18, 0⟩
def BRN_ENG_DIS_DIS (b : Nat) : Fld := ⟨R.BRN_ENG_DIS b, 15, 0⟩
def BRN_THR_CTL_PADDOCK (b : Nat) (e : Nat) (t : Nat) : Fld := ⟨R.BRN_THR_CTL b e t, 12, 8⟩
def BRN_THR_CTL_RUN (b : Nat) (e : Nat) (t : Nat) : Fld := ⟨R.BRN_THR_CTL b e t, 0, 0⟩
def BRN_THR_PC_PC (b : Nat) (e : Nat) (t : Nat) : Fld := ⟨R.BRN_THR_PC b e t, 20, 2⟩
def BRN_THR_STAT_CAUSE (b : Nat) (e : Nat) (t : Nat) : Fld := ⟨R.BRN_THR_STAT b e t, 19, 16⟩
def BRN_THR_STAT_SLOTS (b : Nat) (e : Nat) (t : Nat) : Fld := ⟨R.BRN_THR_STAT b e t, 8, 4⟩
def BRN_THR_STAT_IN_TRAP (b : Nat) (e : Nat) (t : Nat) : Fld := ⟨R.BRN_THR_STAT b e t, 3, 3⟩
def BRN_THR_STAT_STATE (b : Nat) (e : Nat) (t : Nat) : Fld := ⟨R.BRN_THR_STAT b e t, 2, 0⟩
def BRN_CS_ADDR_ADDR : Fld := ⟨R.BRN_CS_ADDR, 20, 2⟩
def BRN_CS_DATA_DATA : Fld := ⟨R.BRN_CS_DATA, 31, 0⟩
def BRN_CS_CTL_LOCK : Fld := ⟨R.BRN_CS_CTL, 31, 31⟩
def BRN_CS_CTL_ICINV_BUSY : Fld := ⟨R.BRN_CS_CTL, 2, 2⟩
def BRN_CS_CTL_ICINV : Fld := ⟨R.BRN_CS_CTL, 1, 1⟩
def BRN_CS_CTL_WR_EN : Fld := ⟨R.BRN_CS_CTL, 0, 0⟩
def BRN_HOST_BASE_BASE : Fld := ⟨R.BRN_HOST_BASE, 25, 0⟩
def BRN_PAD_CTL_VEC_BASE (p : Nat) : Fld := ⟨R.BRN_PAD_CTL p, 20, 8⟩
def BRN_PAD_CTL_HOST_EN (p : Nat) : Fld := ⟨R.BRN_PAD_CTL p, 1, 1⟩
def BRN_PAD_CTL_CTL_WR (p : Nat) : Fld := ⟨R.BRN_PAD_CTL p, 0, 0⟩
def BRN_PAD_GCTL_FALLBACK_LEN : Fld := ⟨R.BRN_PAD_GCTL, 31, 16⟩
def BRN_PAD_GCTL_PRIV_WAIT_MAX : Fld := ⟨R.BRN_PAD_GCTL, 15, 0⟩
def BRN_PAD_MODE_WEIGHT (p : Nat) : Fld := ⟨R.BRN_PAD_MODE p, 23, 20⟩
def BRN_PAD_MODE_DOMAIN (p : Nat) : Fld := ⟨R.BRN_PAD_MODE p, 10, 8⟩
def BRN_PAD_MODE_BE (p : Nat) : Fld := ⟨R.BRN_PAD_MODE p, 2, 2⟩
def BRN_PAD_MODE_PRIV (p : Nat) : Fld := ⟨R.BRN_PAD_MODE p, 1, 1⟩
def BRN_PAD_MODE_PER_EN (p : Nat) : Fld := ⟨R.BRN_PAD_MODE p, 0, 0⟩
def BRN_PAD_LEN_LEN (p : Nat) : Fld := ⟨R.BRN_PAD_LEN p, 31, 0⟩
def BRN_PAD_PHASE_PHASE (p : Nat) : Fld := ⟨R.BRN_PAD_PHASE p, 31, 0⟩
def BRN_PAD_STAT_CFG_REJ (p : Nat) : Fld := ⟨R.BRN_PAD_STAT p, 31, 31⟩
def BRN_PAD_STAT_EXH (p : Nat) : Fld := ⟨R.BRN_PAD_STAT p, 20, 16⟩
def BRN_PAD_STAT_PRIV_LATE (p : Nat) : Fld := ⟨R.BRN_PAD_STAT p, 10, 10⟩
def BRN_PAD_STAT_FALLBACK (p : Nat) : Fld := ⟨R.BRN_PAD_STAT p, 3, 3⟩
def BRN_PAD_STAT_SHED (p : Nat) : Fld := ⟨R.BRN_PAD_STAT p, 2, 2⟩
def BRN_PAD_BUD_BUDGET (p : Nat) (k : Nat) : Fld := ⟨R.BRN_PAD_BUD p k, 31, 0⟩
def BRN_PAD_LEFT_LEFT (p : Nat) (k : Nat) : Fld := ⟨R.BRN_PAD_LEFT p k, 31, 0⟩
def BRN_PAD_EXH_COUNT (p : Nat) (k : Nat) : Fld := ⟨R.BRN_PAD_EXH p k, 31, 0⟩
def TBU_CTL_LOCK : Fld := ⟨R.TBU_CTL, 31, 31⟩
def TBU_CTL_SNAP_TAG : Fld := ⟨R.TBU_CTL, 15, 8⟩
def TBU_CTL_SNAP_VALID : Fld := ⟨R.TBU_CTL, 1, 1⟩
def TBU_CTL_SNAP : Fld := ⟨R.TBU_CTL, 0, 0⟩
def TBU_LEAD_LEAD : Fld := ⟨R.TBU_LEAD, 9, 0⟩
def TBU_JUMP_LIMIT_LIMIT : Fld := ⟨R.TBU_JUMP_LIMIT, 31, 0⟩
def TBU_SLEW_RATE_RATE : Fld := ⟨R.TBU_SLEW_RATE, 31, 0⟩
def TBU_ACT_STAT_DEFER : Fld := ⟨R.TBU_ACT_STAT, 17, 17⟩
def TBU_ACT_STAT_FULL : Fld := ⟨R.TBU_ACT_STAT, 16, 16⟩
def TBU_ACT_STAT_PENDING : Fld := ⟨R.TBU_ACT_STAT, 11, 0⟩
def TBU_ACT_CNT_LATE : Fld := ⟨R.TBU_ACT_CNT, 31, 16⟩
def TBU_ACT_CNT_DISC : Fld := ⟨R.TBU_ACT_CNT, 15, 0⟩
def TBU_SNAP_VAL_WORD (n : Nat) (w : Nat) : Fld := ⟨R.TBU_SNAP_VAL n w, 31, 0⟩
def TBU_PHY_DLY_TX (p : Nat) : Fld := ⟨R.TBU_PHY_DLY p, 31, 16⟩
def TBU_PHY_DLY_RX (p : Nat) : Fld := ⟨R.TBU_PHY_DLY p, 15, 0⟩
def TBU_PORT_TS_TX_DOM (p : Nat) : Fld := ⟨R.TBU_PORT_TS p, 2, 0⟩
def TBU_DOM_CTL_EDGE (n : Nat) : Fld := ⟨R.TBU_DOM_CTL n, 12, 12⟩
def TBU_DOM_CTL_SYN_SRC (n : Nat) : Fld := ⟨R.TBU_DOM_CTL n, 10, 8⟩
def TBU_DOM_CTL_SRC (n : Nat) : Fld := ⟨R.TBU_DOM_CTL n, 6, 4⟩
def TBU_DOM_CTL_LATE_POLICY (n : Nat) : Fld := ⟨R.TBU_DOM_CTL n, 1, 1⟩
def TBU_DOM_CTL_EN (n : Nat) : Fld := ⟨R.TBU_DOM_CTL n, 0, 0⟩
def TBU_DOM_STAT_ERA (n : Nat) : Fld := ⟨R.TBU_DOM_STAT n, 31, 16⟩
def TBU_DOM_STAT_CFG_REJ (n : Nat) : Fld := ⟨R.TBU_DOM_STAT n, 15, 15⟩
def TBU_DOM_STAT_ACT_DISCARD (n : Nat) : Fld := ⟨R.TBU_DOM_STAT n, 14, 14⟩
def TBU_DOM_STAT_LATE (n : Nat) : Fld := ⟨R.TBU_DOM_STAT n, 13, 13⟩
def TBU_DOM_STAT_RATE_REFUSED (n : Nat) : Fld := ⟨R.TBU_DOM_STAT n, 12, 12⟩
def TBU_DOM_STAT_STEP_BUSY (n : Nat) : Fld := ⟨R.TBU_DOM_STAT n, 11, 11⟩
def TBU_DOM_STAT_STEP_REFUSED (n : Nat) : Fld := ⟨R.TBU_DOM_STAT n, 10, 10⟩
def TBU_DOM_STAT_SLEWING (n : Nat) : Fld := ⟨R.TBU_DOM_STAT n, 4, 4⟩
def TBU_DOM_STAT_FORCED (n : Nat) : Fld := ⟨R.TBU_DOM_STAT n, 3, 3⟩
def TBU_DOM_STAT_STATE (n : Nat) : Fld := ⟨R.TBU_DOM_STAT n, 2, 0⟩
def TBU_DOM_INCR_LO_LO (n : Nat) : Fld := ⟨R.TBU_DOM_INCR_LO n, 31, 0⟩
def TBU_DOM_INCR_HI_HI (n : Nat) : Fld := ⟨R.TBU_DOM_INCR_HI n, 7, 0⟩
def TBU_DOM_STEP_S_S (n : Nat) : Fld := ⟨R.TBU_DOM_STEP_S n, 31, 0⟩
def TBU_DOM_STEP_NS_NS (n : Nat) : Fld := ⟨R.TBU_DOM_STEP_NS n, 31, 0⟩
def TBU_DOM_CMD_REACQ (n : Nat) : Fld := ⟨R.TBU_DOM_CMD n, 1, 1⟩
def TBU_DOM_CMD_STEP (n : Nat) : Fld := ⟨R.TBU_DOM_CMD n, 0, 0⟩
def TBU_COORD_CFG_HOLD_MAX (n : Nat) : Fld := ⟨R.TBU_COORD_CFG n, 27, 20⟩
def TBU_COORD_CFG_PGAIN (n : Nat) : Fld := ⟨R.TBU_COORD_CFG n, 19, 16⟩
def TBU_COORD_CFG_RGAIN (n : Nat) : Fld := ⟨R.TBU_COORD_CFG n, 15, 12⟩
def TBU_COORD_CFG_HOLD_CYC (n : Nat) : Fld := ⟨R.TBU_COORD_CFG n, 11, 8⟩
def TBU_COORD_CFG_FILT (n : Nat) : Fld := ⟨R.TBU_COORD_CFG n, 7, 0⟩
def TBU_COORD_PMIN_PMIN (n : Nat) : Fld := ⟨R.TBU_COORD_PMIN n, 31, 0⟩
def TBU_COORD_PMAX_PMAX (n : Nat) : Fld := ⟨R.TBU_COORD_PMAX n, 31, 0⟩
def TBU_COORD_ENC_DIR (n : Nat) : Fld := ⟨R.TBU_COORD_ENC n, 16, 16⟩
def TBU_COORD_ENC_PPR (n : Nat) : Fld := ⟨R.TBU_COORD_ENC n, 15, 0⟩
def TBU_COORD_SYN_DIV (n : Nat) : Fld := ⟨R.TBU_COORD_SYN n, 31, 16⟩
def TBU_COORD_SYN_MUL (n : Nat) : Fld := ⟨R.TBU_COORD_SYN n, 15, 0⟩
def TBU_COORD_ERR_ERR (n : Nat) : Fld := ⟨R.TBU_COORD_ERR n, 31, 0⟩
def TBU_COORD_CNT_REVERSE (n : Nat) : Fld := ⟨R.TBU_COORD_CNT n, 31, 16⟩
def TBU_COORD_CNT_REJECT (n : Nat) : Fld := ⟨R.TBU_COORD_CNT n, 15, 0⟩
def TBU_CAP_CTL_QEN (i : Nat) : Fld := ⟨R.TBU_CAP_CTL i, 16, 16⟩
def TBU_CAP_CTL_FILT (i : Nat) : Fld := ⟨R.TBU_CAP_CTL i, 15, 8⟩
def TBU_CAP_CTL_DOM (i : Nat) : Fld := ⟨R.TBU_CAP_CTL i, 6, 4⟩
def TBU_CAP_CTL_EDGE (i : Nat) : Fld := ⟨R.TBU_CAP_CTL i, 2, 1⟩
def TBU_CAP_CTL_EN (i : Nat) : Fld := ⟨R.TBU_CAP_CTL i, 0, 0⟩
def TBU_CAP_Q_QUEUE (i : Nat) : Fld := ⟨R.TBU_CAP_Q i, 15, 0⟩
def TBU_CAP_STAT_OVF_CNT (i : Nat) : Fld := ⟨R.TBU_CAP_STAT i, 31, 16⟩
def TBU_CAP_STAT_OVF (i : Nat) : Fld := ⟨R.TBU_CAP_STAT i, 8, 8⟩
def TBU_CAP_STAT_LEVEL (i : Nat) : Fld := ⟨R.TBU_CAP_STAT i, 4, 0⟩
def TBU_CAP_HEAD_VALID (i : Nat) : Fld := ⟨R.TBU_CAP_HEAD i, 31, 31⟩
def TBU_CAP_HEAD_TAG (i : Nat) : Fld := ⟨R.TBU_CAP_HEAD i, 7, 0⟩
def TBU_CAP_W_WORD (i : Nat) (w : Nat) : Fld := ⟨R.TBU_CAP_W i w, 31, 0⟩
def TBU_CAP_POP_TAG (i : Nat) : Fld := ⟨R.TBU_CAP_POP i, 7, 0⟩
def TBU_TOUT_CTL_LEVEL (j : Nat) : Fld := ⟨R.TBU_TOUT_CTL j, 9, 9⟩
def TBU_TOUT_CTL_IDLE (j : Nat) : Fld := ⟨R.TBU_TOUT_CTL j, 8, 8⟩
def TBU_TOUT_CTL_DOM (j : Nat) : Fld := ⟨R.TBU_TOUT_CTL j, 6, 4⟩
def TBU_TOUT_CTL_MODE (j : Nat) : Fld := ⟨R.TBU_TOUT_CTL j, 1, 0⟩
def TBU_TOUT_PER_PER (j : Nat) : Fld := ⟨R.TBU_TOUT_PER j, 31, 0⟩
def TBU_TOUT_PHASE_PHASE (j : Nat) : Fld := ⟨R.TBU_TOUT_PHASE j, 31, 0⟩
def TBU_TOUT_WID_WID (j : Nat) : Fld := ⟨R.TBU_TOUT_WID j, 31, 0⟩
def LFT_CTL_LOCK : Fld := ⟨R.LFT_CTL, 31, 31⟩
def LFT_CTL_RESUME : Fld := ⟨R.LFT_CTL, 4, 4⟩
def LFT_CTL_REPLICA : Fld := ⟨R.LFT_CTL, 3, 3⟩
def LFT_CTL_RST : Fld := ⟨R.LFT_CTL, 2, 2⟩
def LFT_CTL_SEAL : Fld := ⟨R.LFT_CTL, 1, 1⟩
def LFT_CTL_EN : Fld := ⟨R.LFT_CTL, 0, 0⟩
def LFT_STAT_CFG_REJ : Fld := ⟨R.LFT_STAT, 31, 31⟩
def LFT_STAT_HOLD_FULL : Fld := ⟨R.LFT_STAT, 30, 30⟩
def LFT_STAT_SEAL_LATE : Fld := ⟨R.LFT_STAT, 29, 29⟩
def LFT_STAT_MEM_UE : Fld := ⟨R.LFT_STAT, 28, 28⟩
def LFT_STAT_RST_BUSY : Fld := ⟨R.LFT_STAT, 7, 7⟩
def LFT_STAT_RESUMED : Fld := ⟨R.LFT_STAT, 6, 6⟩
def LFT_STAT_EXHAUSTED : Fld := ⟨R.LFT_STAT, 5, 5⟩
def LFT_STAT_FENCED : Fld := ⟨R.LFT_STAT, 4, 4⟩
def LFT_STAT_SHED_SEALED : Fld := ⟨R.LFT_STAT, 3, 3⟩
def LFT_STAT_SHED : Fld := ⟨R.LFT_STAT, 2, 2⟩
def LFT_STAT_FORMATTING : Fld := ⟨R.LFT_STAT, 1, 1⟩
def LFT_STAT_READY : Fld := ⟨R.LFT_STAT, 0, 0⟩
def LFT_CFG_SIZE_LOG2 : Fld := ⟨R.LFT_CFG, 4, 0⟩
def LFT_LOFT_BASE_BASE : Fld := ⟨R.LFT_LOFT_BASE, 31, 26⟩
def LFT_AUX_BASE_BASE : Fld := ⟨R.LFT_AUX_BASE, 31, 27⟩
def LFT_SEAL_CFG_INTERVAL : Fld := ⟨R.LFT_SEAL_CFG, 23, 0⟩
def LFT_LEASE_LEASE : Fld := ⟨R.LFT_LEASE, 15, 0⟩
def LFT_EPOCH_LO_EPOCH : Fld := ⟨R.LFT_EPOCH_LO, 31, 0⟩
def LFT_EPOCH_HI_EPOCH : Fld := ⟨R.LFT_EPOCH_HI, 7, 0⟩
def LFT_SEAL_LAG_MAX : Fld := ⟨R.LFT_SEAL_LAG, 31, 16⟩
def LFT_SEAL_LAG_LAST : Fld := ⟨R.LFT_SEAL_LAG, 15, 0⟩
def LFT_OCC_PINS : Fld := ⟨R.LFT_OCC, 26, 16⟩
def LFT_OCC_TXNS : Fld := ⟨R.LFT_OCC, 12, 0⟩
def LFT_HOLD_STAT_USED : Fld := ⟨R.LFT_HOLD_STAT, 19, 0⟩
def LFT_CNT_COMMIT_COUNT : Fld := ⟨R.LFT_CNT_COMMIT, 31, 0⟩
def LFT_CNT_CONFLICT_COUNT : Fld := ⟨R.LFT_CNT_CONFLICT, 31, 0⟩
def LFT_CNT_BROKEN_COUNT : Fld := ⟨R.LFT_CNT_BROKEN, 31, 0⟩
def LFT_CNT_ABORT_COUNT : Fld := ⟨R.LFT_CNT_ABORT, 31, 0⟩
def LFT_MAP_STAT_GEN : Fld := ⟨R.LFT_MAP_STAT, 31, 16⟩
def LFT_MAP_STAT_SETTLED : Fld := ⟨R.LFT_MAP_STAT, 0, 0⟩
def LFT_SWP_CTL_ABORT (c : Nat) : Fld := ⟨R.LFT_SWP_CTL c, 1, 1⟩
def LFT_SWP_CTL_START (c : Nat) : Fld := ⟨R.LFT_SWP_CTL c, 0, 0⟩
def LFT_SWP_Q_QUEUE (c : Nat) : Fld := ⟨R.LFT_SWP_Q c, 15, 0⟩
def LFT_SWP_STAT_VALID (c : Nat) : Fld := ⟨R.LFT_SWP_STAT c, 31, 31⟩
def LFT_SWP_STAT_TAG (c : Nat) : Fld := ⟨R.LFT_SWP_STAT c, 23, 16⟩
def LFT_SWP_STAT_RESULT (c : Nat) : Fld := ⟨R.LFT_SWP_STAT c, 15, 8⟩
def LFT_SWP_STAT_STATE (c : Nat) : Fld := ⟨R.LFT_SWP_STAT c, 1, 0⟩
def LFT_SWP_EPOCH_LO_EPOCH (c : Nat) : Fld := ⟨R.LFT_SWP_EPOCH_LO c, 31, 0⟩
def LFT_SWP_EPOCH_HI_EPOCH (c : Nat) : Fld := ⟨R.LFT_SWP_EPOCH_HI c, 7, 0⟩
def LFT_SWP_CURSOR_CURSOR (c : Nat) : Fld := ⟨R.LFT_SWP_CURSOR c, 25, 0⟩
def LFT_SWP_PUSHED_COUNT (c : Nat) : Fld := ⟨R.LFT_SWP_PUSHED c, 31, 0⟩
def LFT_SWP_EMITTED_COUNT (c : Nat) : Fld := ⟨R.LFT_SWP_EMITTED c, 31, 0⟩
def LFT_HVIEW_BASE_BASE (h : Nat) : Fld := ⟨R.LFT_HVIEW_BASE h, 9, 0⟩
def LFT_HVIEW_CTL_UNPIN (h : Nat) : Fld := ⟨R.LFT_HVIEW_CTL h, 1, 1⟩
def LFT_HVIEW_CTL_PIN (h : Nat) : Fld := ⟨R.LFT_HVIEW_CTL h, 0, 0⟩
def LFT_HVIEW_STAT_VALID (h : Nat) : Fld := ⟨R.LFT_HVIEW_STAT h, 31, 31⟩
def LFT_HVIEW_STAT_LOST (h : Nat) : Fld := ⟨R.LFT_HVIEW_STAT h, 30, 30⟩
def LFT_HVIEW_STAT_TAG (h : Nat) : Fld := ⟨R.LFT_HVIEW_STAT h, 7, 0⟩
def LFT_HVIEW_EPOCH_LO_EPOCH (h : Nat) : Fld := ⟨R.LFT_HVIEW_EPOCH_LO h, 31, 0⟩
def LFT_HVIEW_EPOCH_HI_EPOCH (h : Nat) : Fld := ⟨R.LFT_HVIEW_EPOCH_HI h, 7, 0⟩
def LFT_HVIEW_LEFT_LEFT (h : Nat) : Fld := ⟨R.LFT_HVIEW_LEFT h, 15, 0⟩
def LFT_MAP_CTL_VER (m : Nat) : Fld := ⟨R.LFT_MAP_CTL m, 15, 8⟩
def LFT_MAP_CTL_SWEEP (m : Nat) : Fld := ⟨R.LFT_MAP_CTL m, 2, 2⟩
def LFT_MAP_CTL_REPL (m : Nat) : Fld := ⟨R.LFT_MAP_CTL m, 1, 1⟩
def LFT_MAP_CTL_WR (m : Nat) : Fld := ⟨R.LFT_MAP_CTL m, 0, 0⟩
def LFT_MAP_PAD_PADMASK (m : Nat) : Fld := ⟨R.LFT_MAP_PAD m, 31, 0⟩
def ETH_GCTL_LOCK : Fld := ⟨R.ETH_GCTL, 31, 31⟩
def ETH_CTL_SVC (p : Nat) : Fld := ⟨R.ETH_CTL p, 9, 8⟩
def ETH_CTL_NONCRIT (p : Nat) : Fld := ⟨R.ETH_CTL p, 7, 7⟩
def ETH_CTL_LINK_FORCE (p : Nat) : Fld := ⟨R.ETH_CTL p, 6, 6⟩
def ETH_CTL_LOOP (p : Nat) : Fld := ⟨R.ETH_CTL p, 5, 5⟩
def ETH_CTL_CNT_CLR (p : Nat) : Fld := ⟨R.ETH_CTL p, 4, 4⟩
def ETH_CTL_RST (p : Nat) : Fld := ⟨R.ETH_CTL p, 3, 3⟩
def ETH_CTL_RX_EN (p : Nat) : Fld := ⟨R.ETH_CTL p, 2, 2⟩
def ETH_CTL_TX_EN (p : Nat) : Fld := ⟨R.ETH_CTL p, 1, 1⟩
def ETH_CTL_EN (p : Nat) : Fld := ⟨R.ETH_CTL p, 0, 0⟩
def ETH_MODE_RGMII_RXDLY (p : Nat) : Fld := ⟨R.ETH_MODE p, 11, 11⟩
def ETH_MODE_RGMII_TXDLY (p : Nat) : Fld := ⟨R.ETH_MODE p, 10, 10⟩
def ETH_MODE_INBAND (p : Nat) : Fld := ⟨R.ETH_MODE p, 9, 9⟩
def ETH_MODE_AN_EN (p : Nat) : Fld := ⟨R.ETH_MODE p, 8, 8⟩
def ETH_MODE_SHED_MODE (p : Nat) : Fld := ⟨R.ETH_MODE p, 6, 4⟩
def ETH_MODE_MODE (p : Nat) : Fld := ⟨R.ETH_MODE p, 2, 0⟩
def ETH_STAT_CFG_REJ (p : Nat) : Fld := ⟨R.ETH_STAT p, 31, 31⟩
def ETH_STAT_FENCED (p : Nat) : Fld := ⟨R.ETH_STAT p, 11, 11⟩
def ETH_STAT_SHED (p : Nat) : Fld := ⟨R.ETH_STAT p, 10, 10⟩
def ETH_STAT_REMOTE_FAULT (p : Nat) : Fld := ⟨R.ETH_STAT p, 9, 9⟩
def ETH_STAT_LOCAL_FAULT (p : Nat) : Fld := ⟨R.ETH_STAT p, 8, 8⟩
def ETH_STAT_AN_DONE (p : Nat) : Fld := ⟨R.ETH_STAT p, 7, 7⟩
def ETH_STAT_ACT_MODE (p : Nat) : Fld := ⟨R.ETH_STAT p, 6, 4⟩
def ETH_STAT_PCS_LOCK (p : Nat) : Fld := ⟨R.ETH_STAT p, 3, 3⟩
def ETH_STAT_LINK (p : Nat) : Fld := ⟨R.ETH_STAT p, 0, 0⟩
def ETH_MAXLEN_MAXLEN (p : Nat) : Fld := ⟨R.ETH_MAXLEN p, 13, 0⟩
def ETH_ERR_DST_ERR_FWD (p : Nat) : Fld := ⟨R.ETH_ERR_DST p, 31, 31⟩
def ETH_ERR_DST_THREAD (p : Nat) : Fld := ⟨R.ETH_ERR_DST p, 8, 0⟩
def ETH_FC_CFG_PAUSE_TIME (p : Nat) : Fld := ⟨R.ETH_FC_CFG p, 31, 16⟩
def ETH_FC_CFG_DEF_PRI (p : Nat) : Fld := ⟨R.ETH_FC_CFG p, 10, 8⟩
def ETH_FC_CFG_RX_EN (p : Nat) : Fld := ⟨R.ETH_FC_CFG p, 2, 2⟩
def ETH_FC_CFG_FC_MODE (p : Nat) : Fld := ⟨R.ETH_FC_CFG p, 1, 0⟩
def ETH_FC_WM_XOFF (p : Nat) : Fld := ⟨R.ETH_FC_WM p, 31, 16⟩
def ETH_FC_WM_XON (p : Nat) : Fld := ⟨R.ETH_FC_WM p, 15, 0⟩
def ETH_PFC_WM_XOFF (p : Nat) (i : Nat) : Fld := ⟨R.ETH_PFC_WM p i, 31, 16⟩
def ETH_PFC_WM_XON (p : Nat) (i : Nat) : Fld := ⟨R.ETH_PFC_WM p i, 15, 0⟩
def ETH_FC_STAT_PFC_TX_XOFF (p : Nat) : Fld := ⟨R.ETH_FC_STAT p, 31, 24⟩
def ETH_FC_STAT_PFC_RX_HELD (p : Nat) : Fld := ⟨R.ETH_FC_STAT p, 23, 16⟩
def ETH_FC_STAT_TX_XOFF (p : Nat) : Fld := ⟨R.ETH_FC_STAT p, 1, 1⟩
def ETH_FC_STAT_RX_PAUSED (p : Nat) : Fld := ⟨R.ETH_FC_STAT p, 0, 0⟩
def ETH_MAC_LO_ADDR (p : Nat) : Fld := ⟨R.ETH_MAC_LO p, 31, 0⟩
def ETH_MAC_HI_ADDR (p : Nat) : Fld := ⟨R.ETH_MAC_HI p, 15, 0⟩
def ETH_PRE_CFG_PMASK (p : Nat) : Fld := ⟨R.ETH_PRE_CFG p, 31, 24⟩
def ETH_PRE_CFG_VERIFY_TIME (p : Nat) : Fld := ⟨R.ETH_PRE_CFG p, 23, 16⟩
def ETH_PRE_CFG_ADD_FRAG (p : Nat) : Fld := ⟨R.ETH_PRE_CFG p, 5, 4⟩
def ETH_PRE_CFG_VERIFY_DIS (p : Nat) : Fld := ⟨R.ETH_PRE_CFG p, 1, 1⟩
def ETH_PRE_CFG_PRE_EN (p : Nat) : Fld := ⟨R.ETH_PRE_CFG p, 0, 0⟩
def ETH_PRE_STAT_ATTEMPTS (p : Nat) : Fld := ⟨R.ETH_PRE_STAT p, 9, 8⟩
def ETH_PRE_STAT_HOLD (p : Nat) : Fld := ⟨R.ETH_PRE_STAT p, 6, 6⟩
def ETH_PRE_STAT_ACTIVE (p : Nat) : Fld := ⟨R.ETH_PRE_STAT p, 5, 5⟩
def ETH_PRE_STAT_VSTATE (p : Nat) : Fld := ⟨R.ETH_PRE_STAT p, 2, 0⟩
def ETH_TSQ_CFG_HOLD_MS (p : Nat) : Fld := ⟨R.ETH_TSQ_CFG p, 15, 0⟩
def ETH_TSQ_STAT_LEVEL (p : Nat) : Fld := ⟨R.ETH_TSQ_STAT p, 22, 16⟩
def ETH_TSQ_STAT_NEXT_TAG (p : Nat) : Fld := ⟨R.ETH_TSQ_STAT p, 15, 0⟩
def ETH_INT_STAT_HALF (p : Nat) : Fld := ⟨R.ETH_INT_STAT p, 5, 5⟩
def ETH_INT_STAT_TSQ_EXPIRE (p : Nat) : Fld := ⟨R.ETH_INT_STAT p, 4, 4⟩
def ETH_INT_STAT_TSQ_OVF (p : Nat) : Fld := ⟨R.ETH_INT_STAT p, 3, 3⟩
def ETH_INT_STAT_VERIFY_FAIL (p : Nat) : Fld := ⟨R.ETH_INT_STAT p, 2, 2⟩
def ETH_INT_STAT_MODE_MISMATCH (p : Nat) : Fld := ⟨R.ETH_INT_STAT p, 1, 1⟩
def ETH_INT_STAT_LINK_CHG (p : Nat) : Fld := ⟨R.ETH_INT_STAT p, 0, 0⟩
def ETH_INT_EN_HALF (p : Nat) : Fld := ⟨R.ETH_INT_EN p, 5, 5⟩
def ETH_INT_EN_TSQ_EXPIRE (p : Nat) : Fld := ⟨R.ETH_INT_EN p, 4, 4⟩
def ETH_INT_EN_TSQ_OVF (p : Nat) : Fld := ⟨R.ETH_INT_EN p, 3, 3⟩
def ETH_INT_EN_VERIFY_FAIL (p : Nat) : Fld := ⟨R.ETH_INT_EN p, 2, 2⟩
def ETH_INT_EN_MODE_MISMATCH (p : Nat) : Fld := ⟨R.ETH_INT_EN p, 1, 1⟩
def ETH_INT_EN_LINK_CHG (p : Nat) : Fld := ⟨R.ETH_INT_EN p, 0, 0⟩
def ETH_HALF_STAT_BITS (p : Nat) (w : Nat) : Fld := ⟨R.ETH_HALF_STAT p w, 31, 0⟩
def ETH_HALF_EN_BITS (p : Nat) (w : Nat) : Fld := ⟨R.ETH_HALF_EN p w, 31, 0⟩
def ETH_CNT_LO_COUNT (p : Nat) (c : Nat) : Fld := ⟨R.ETH_CNT_LO p c, 31, 0⟩
def ETH_CNT_HI_COUNT (p : Nat) (c : Nat) : Fld := ⟨R.ETH_CNT_HI p c, 7, 0⟩
def YRD_CTL_LOCK : Fld := ⟨R.YRD_CTL, 31, 31⟩
def YRD_CTL_RST : Fld := ⟨R.YRD_CTL, 1, 1⟩
def YRD_CTL_EN : Fld := ⟨R.YRD_CTL, 0, 0⟩
def YRD_STAT_CFG_REJ : Fld := ⟨R.YRD_STAT, 31, 31⟩
def YRD_STAT_MEM_UE : Fld := ⟨R.YRD_STAT, 30, 30⟩
def YRD_STAT_INIT_BUSY : Fld := ⟨R.YRD_STAT, 17, 17⟩
def YRD_STAT_FENCED : Fld := ⟨R.YRD_STAT, 16, 16⟩
def YRD_STAT_RETIRED : Fld := ⟨R.YRD_STAT, 15, 0⟩
def YRD_POOL_P8_MAX : Fld := ⟨R.YRD_POOL, 31, 24⟩
def YRD_POOL_PRIV_RSV : Fld := ⟨R.YRD_POOL, 15, 0⟩
def YRD_FREE_MIN : Fld := ⟨R.YRD_FREE, 31, 16⟩
def YRD_FREE_SHARED : Fld := ⟨R.YRD_FREE, 15, 0⟩
def YRD_HASH_SEED_SEED : Fld := ⟨R.YRD_HASH_SEED, 31, 0⟩
def YRD_FT_STAT_GEN : Fld := ⟨R.YRD_FT_STAT, 31, 16⟩
def YRD_FT_STAT_PIN_GEN : Fld := ⟨R.YRD_FT_STAT, 15, 8⟩
def YRD_FT_STAT_PIN_SETTLED : Fld := ⟨R.YRD_FT_STAT, 1, 1⟩
def YRD_FT_STAT_SETTLED : Fld := ⟨R.YRD_FT_STAT, 0, 0⟩
def YRD_FT_KEY_KEY (w : Nat) : Fld := ⟨R.YRD_FT_KEY w, 31, 0⟩
def YRD_FT_ACT_VALID : Fld := ⟨R.YRD_FT_ACT, 31, 31⟩
def YRD_FT_ACT_ACTION : Fld := ⟨R.YRD_FT_ACT, 30, 28⟩
def YRD_FT_ACT_OUT : Fld := ⟨R.YRD_FT_ACT, 27, 24⟩
def YRD_FT_ACT_MCG : Fld := ⟨R.YRD_FT_ACT, 23, 16⟩
def YRD_FT_ACT_TC_OVR : Fld := ⟨R.YRD_FT_ACT, 15, 15⟩
def YRD_FT_ACT_TC : Fld := ⟨R.YRD_FT_ACT, 14, 12⟩
def YRD_FT_ACT_SMP : Fld := ⟨R.YRD_FT_ACT, 11, 8⟩
def YRD_FT_ACT_SMP_EN : Fld := ⟨R.YRD_FT_ACT, 7, 7⟩
def YRD_FT_ACT2_FQ_EN : Fld := ⟨R.YRD_FT_ACT2, 31, 31⟩
def YRD_FT_ACT2_FLOWQ : Fld := ⟨R.YRD_FT_ACT2, 29, 16⟩
def YRD_FT_ACT2_REC_EN : Fld := ⟨R.YRD_FT_ACT2, 15, 15⟩
def YRD_FT_ACT2_STREAM : Fld := ⟨R.YRD_FT_ACT2, 11, 0⟩
def YRD_FT_CMD_OP : Fld := ⟨R.YRD_FT_CMD, 31, 30⟩
def YRD_FT_CMD_BUSY : Fld := ⟨R.YRD_FT_CMD, 29, 29⟩
def YRD_FT_CMD_INDEX : Fld := ⟨R.YRD_FT_CMD, 15, 0⟩
def YRD_FT_RES_VALID : Fld := ⟨R.YRD_FT_RES, 31, 31⟩
def YRD_FT_RES_STATUS : Fld := ⟨R.YRD_FT_RES, 30, 28⟩
def YRD_FT_RES_TAG : Fld := ⟨R.YRD_FT_RES, 23, 16⟩
def YRD_FT_RES_VER : Fld := ⟨R.YRD_FT_RES, 15, 0⟩
def YRD_FT_IDX_INDEX : Fld := ⟨R.YRD_FT_IDX, 15, 0⟩
def YRD_PIN_HOLD_COUNT : Fld := ⟨R.YRD_PIN_HOLD, 15, 0⟩
def YRD_PORT_CFG_RSV (i : Nat) : Fld := ⟨R.YRD_PORT_CFG i, 31, 16⟩
def YRD_PORT_CFG_PGRP (i : Nat) : Fld := ⟨R.YRD_PORT_CFG i, 15, 12⟩
def YRD_PORT_CFG_MISS (i : Nat) : Fld := ⟨R.YRD_PORT_CFG i, 11, 10⟩
def YRD_PORT_CFG_KEYSEL (i : Nat) : Fld := ⟨R.YRD_PORT_CFG i, 9, 8⟩
def YRD_PORT_CFG_CLS_EN (i : Nat) : Fld := ⟨R.YRD_PORT_CFG i, 7, 7⟩
def YRD_PORT_CFG_DEF_TC (i : Nat) : Fld := ⟨R.YRD_PORT_CFG i, 6, 4⟩
def YRD_PORT_OCC_CELLS (i : Nat) : Fld := ⟨R.YRD_PORT_OCC i, 15, 0⟩
def YRD_QLIM_CELLS (o : Nat) (c : Nat) : Fld := ⟨R.YRD_QLIM o c, 15, 0⟩
def YRD_QOCC_CELLS (o : Nat) (c : Nat) : Fld := ⟨R.YRD_QOCC o c, 15, 0⟩
def YRD_AGE_LIMIT (c : Nat) : Fld := ⟨R.YRD_AGE c, 23, 0⟩
def YRD_PGRP_SIZE (g : Nat) : Fld := ⟨R.YRD_PGRP g, 19, 16⟩
def YRD_PGRP_BASE (g : Nat) : Fld := ⟨R.YRD_PGRP g, 9, 0⟩
def YRD_AGG_MEMBERS (a : Nat) : Fld := ⟨R.YRD_AGG a, 7, 0⟩
def YRD_SMP_N (s : Nat) : Fld := ⟨R.YRD_SMP s, 31, 16⟩
def YRD_SMP_TRUNC (s : Nat) : Fld := ⟨R.YRD_SMP s, 15, 8⟩
def YRD_SMP_DST_THREAD (s : Nat) : Fld := ⟨R.YRD_SMP_DST s, 8, 0⟩
def YRD_PIN_THREAD (k : Nat) : Fld := ⟨R.YRD_PIN k, 8, 0⟩
def YRD_MCG_OUTS (m : Nat) : Fld := ⟨R.YRD_MCG m, 9, 0⟩
def YRD_CNT_MISS_COUNT (i : Nat) : Fld := ⟨R.YRD_CNT_MISS i, 31, 0⟩
def YRD_CNT_DROP_COUNT (i : Nat) : Fld := ⟨R.YRD_CNT_DROP i, 31, 0⟩
def YRD_CNT_QFULL_COUNT (i : Nat) : Fld := ⟨R.YRD_CNT_QFULL i, 31, 0⟩
def YRD_CNT_AGED_COUNT (i : Nat) : Fld := ⟨R.YRD_CNT_AGED i, 31, 0⟩
def YRD_CNT_FLUSH_COUNT (i : Nat) : Fld := ⟨R.YRD_CNT_FLUSH i, 31, 0⟩
def YRD_CNT_SMP_DROP_COUNT (i : Nat) : Fld := ⟨R.YRD_CNT_SMP_DROP i, 31, 0⟩
def YRD_CNT_NOTOKEN_COUNT : Fld := ⟨R.YRD_CNT_NOTOKEN, 31, 0⟩
def YRD_CNT_P8_FULL_COUNT : Fld := ⟨R.YRD_CNT_P8_FULL, 31, 0⟩
def YRD_CNT_RESET_DROP_COUNT : Fld := ⟨R.YRD_CNT_RESET_DROP, 31, 0⟩
def YRD_CNT_LINK_ERR_COUNT : Fld := ⟨R.YRD_CNT_LINK_ERR, 31, 0⟩
def SCH_CTL_LOCK : Fld := ⟨R.SCH_CTL, 31, 31⟩
def SCH_CTL_RST : Fld := ⟨R.SCH_CTL, 1, 1⟩
def SCH_CTL_EN : Fld := ⟨R.SCH_CTL, 0, 0⟩
def SCH_STAT_CFG_REJ : Fld := ⟨R.SCH_STAT, 31, 31⟩
def SCH_STAT_MEM_UE : Fld := ⟨R.SCH_STAT, 30, 30⟩
def SCH_STAT_FENCED : Fld := ⟨R.SCH_STAT, 0, 0⟩
def SCH_FQ_SEL_VALID : Fld := ⟨R.SCH_FQ_SEL, 31, 31⟩
def SCH_FQ_SEL_FLOWQ : Fld := ⟨R.SCH_FQ_SEL, 13, 0⟩
def SCH_FQ_INFO_ACTIVE : Fld := ⟨R.SCH_FQ_INFO, 31, 31⟩
def SCH_FQ_INFO_DEBT : Fld := ⟨R.SCH_FQ_INFO, 30, 30⟩
def SCH_FQ_INFO_FRAMES : Fld := ⟨R.SCH_FQ_INFO, 15, 0⟩
def SCH_FQ_DEF_DEF : Fld := ⟨R.SCH_FQ_DEF, 19, 0⟩
def SCH_SHP_SEL_VALID : Fld := ⟨R.SCH_SHP_SEL, 31, 31⟩
def SCH_SHP_SEL_SHAPER : Fld := ⟨R.SCH_SHP_SEL, 10, 0⟩
def SCH_SHP_CB_BYTES : Fld := ⟨R.SCH_SHP_CB, 31, 0⟩
def SCH_SHP_EB_BYTES : Fld := ⟨R.SCH_SHP_EB, 31, 0⟩
def SCH_PORT_CFG_PRIV (o : Nat) : Fld := ⟨R.SCH_PORT_CFG o, 8, 8⟩
def SCH_PORT_CFG_STRICT_MIN (o : Nat) : Fld := ⟨R.SCH_PORT_CFG o, 6, 4⟩
def SCH_PORT_CFG_STRICT (o : Nat) : Fld := ⟨R.SCH_PORT_CFG o, 0, 0⟩
def SCH_PORT_GB_HOLD_ADV (o : Nat) : Fld := ⟨R.SCH_PORT_GB o, 31, 16⟩
def SCH_PORT_GB_ADM_MARGIN (o : Nat) : Fld := ⟨R.SCH_PORT_GB o, 15, 0⟩
def SCH_GCL_CTL_SWAP (o : Nat) : Fld := ⟨R.SCH_GCL_CTL o, 31, 31⟩
def SCH_GCL_CTL_CANCEL (o : Nat) : Fld := ⟨R.SCH_GCL_CTL o, 30, 30⟩
def SCH_GCL_CTL_IDLE_GATES (o : Nat) : Fld := ⟨R.SCH_GCL_CTL o, 15, 8⟩
def SCH_GCL_CTL_EN (o : Nat) : Fld := ⟨R.SCH_GCL_CTL o, 0, 0⟩
def SCH_GCL_STAT_RES_VALID (o : Nat) : Fld := ⟨R.SCH_GCL_STAT o, 31, 31⟩
def SCH_GCL_STAT_RES (o : Nat) : Fld := ⟨R.SCH_GCL_STAT o, 30, 28⟩
def SCH_GCL_STAT_RES_TAG (o : Nat) : Fld := ⟨R.SCH_GCL_STAT o, 23, 16⟩
def SCH_GCL_STAT_SWAP_PEND (o : Nat) : Fld := ⟨R.SCH_GCL_STAT o, 15, 15⟩
def SCH_GCL_STAT_OPER_VALID (o : Nat) : Fld := ⟨R.SCH_GCL_STAT o, 14, 14⟩
def SCH_GCL_STAT_FALLBACK (o : Nat) : Fld := ⟨R.SCH_GCL_STAT o, 13, 13⟩
def SCH_GCL_STAT_OVERRUN (o : Nat) : Fld := ⟨R.SCH_GCL_STAT o, 12, 12⟩
def SCH_GCL_STAT_HOLD (o : Nat) : Fld := ⟨R.SCH_GCL_STAT o, 11, 11⟩
def SCH_GCL_STAT_OPER_BANK (o : Nat) : Fld := ⟨R.SCH_GCL_STAT o, 10, 10⟩
def SCH_GCL_STAT_OPER_IDX (o : Nat) : Fld := ⟨R.SCH_GCL_STAT o, 9, 0⟩
def SCH_GCL_ADM_CFG_DOM (o : Nat) : Fld := ⟨R.SCH_GCL_ADM_CFG o, 18, 16⟩
def SCH_GCL_ADM_CFG_LEN (o : Nat) : Fld := ⟨R.SCH_GCL_ADM_CFG o, 10, 0⟩
def SCH_GCL_OPR_CFG_DOM (o : Nat) : Fld := ⟨R.SCH_GCL_OPR_CFG o, 18, 16⟩
def SCH_GCL_OPR_CFG_LEN (o : Nat) : Fld := ⟨R.SCH_GCL_OPR_CFG o, 10, 0⟩
def SCH_GCL_ADM_BASE_LO_BASE (o : Nat) : Fld := ⟨R.SCH_GCL_ADM_BASE_LO o, 31, 0⟩
def SCH_GCL_ADM_BASE_HI_BASE (o : Nat) : Fld := ⟨R.SCH_GCL_ADM_BASE_HI o, 31, 0⟩
def SCH_GCL_OPR_BASE_LO_BASE (o : Nat) : Fld := ⟨R.SCH_GCL_OPR_BASE_LO o, 31, 0⟩
def SCH_GCL_OPR_BASE_HI_BASE (o : Nat) : Fld := ⟨R.SCH_GCL_OPR_BASE_HI o, 31, 0⟩
def SCH_GCL_ADM_CYCLE_CYCLE (o : Nat) : Fld := ⟨R.SCH_GCL_ADM_CYCLE o, 31, 0⟩
def SCH_GCL_OPR_CYCLE_CYCLE (o : Nat) : Fld := ⟨R.SCH_GCL_OPR_CYCLE o, 31, 0⟩
def SCH_GATE_STAT_PFC_HELD (o : Nat) : Fld := ⟨R.SCH_GATE_STAT o, 15, 8⟩
def SCH_GATE_STAT_GATES (o : Nat) : Fld := ⟨R.SCH_GATE_STAT o, 7, 0⟩
def SCH_CNT_OVERRUN_COUNT (o : Nat) : Fld := ⟨R.SCH_CNT_OVERRUN o, 31, 0⟩
def SCH_CNT_TOOBIG_COUNT (o : Nat) : Fld := ⟨R.SCH_CNT_TOOBIG o, 31, 0⟩
def SCH_CNT_FQ_MISMATCH_COUNT (o : Nat) : Fld := ⟨R.SCH_CNT_FQ_MISMATCH o, 31, 0⟩
def SCH_CLS_CFG_MULT (o : Nat) (c : Nat) : Fld := ⟨R.SCH_CLS_CFG o c, 31, 28⟩
def SCH_CLS_CFG_SHP_EN (o : Nat) (c : Nat) : Fld := ⟨R.SCH_CLS_CFG o c, 27, 27⟩
def SCH_CLS_CFG_SHAPER (o : Nat) (c : Nat) : Fld := ⟨R.SCH_CLS_CFG o c, 26, 16⟩
def SCH_CLS_CFG_VOQ_QUANTUM (o : Nat) (c : Nat) : Fld := ⟨R.SCH_CLS_CFG o c, 15, 0⟩
def SCH_CLS_STAT_LEAVES (o : Nat) (c : Nat) : Fld := ⟨R.SCH_CLS_STAT o c, 30, 16⟩
def SCH_SHP_CIR_RATE (s : Nat) : Fld := ⟨R.SCH_SHP_CIR s, 31, 0⟩
def SCH_SHP_EIR_RATE (s : Nat) : Fld := ⟨R.SCH_SHP_EIR s, 31, 0⟩
def SCH_SHP_BURST_EBS (s : Nat) : Fld := ⟨R.SCH_SHP_BURST s, 31, 16⟩
def SCH_SHP_BURST_CBS (s : Nat) : Fld := ⟨R.SCH_SHP_BURST s, 15, 0⟩
def SCH_SHP_CTL_APPLY (s : Nat) : Fld := ⟨R.SCH_SHP_CTL s, 31, 31⟩
def SCH_SHP_CTL_RESET_FILL (s : Nat) : Fld := ⟨R.SCH_SHP_CTL s, 30, 30⟩
def SCH_SHP_CTL_MODE (s : Nat) : Fld := ⟨R.SCH_SHP_CTL s, 29, 28⟩
def SCH_GCL_ENTRY_OP (p : Nat) (k : Nat) : Fld := ⟨R.SCH_GCL_ENTRY p k, 9, 8⟩
def SCH_GCL_ENTRY_GATES (p : Nat) (k : Nat) : Fld := ⟨R.SCH_GCL_ENTRY p k, 7, 0⟩
def SCH_GCL_IVL_INTERVAL (p : Nat) (k : Nat) : Fld := ⟨R.SCH_GCL_IVL p k, 31, 0⟩
def SCH_FQ_CFG_EN (f : Nat) : Fld := ⟨R.SCH_FQ_CFG f, 31, 31⟩
def SCH_FQ_CFG_OUT (f : Nat) : Fld := ⟨R.SCH_FQ_CFG f, 30, 27⟩
def SCH_FQ_CFG_TC (f : Nat) : Fld := ⟨R.SCH_FQ_CFG f, 26, 24⟩
def SCH_FQ_CFG_SHP_EN (f : Nat) : Fld := ⟨R.SCH_FQ_CFG f, 23, 23⟩
def SCH_FQ_CFG_SHAPER (f : Nat) : Fld := ⟨R.SCH_FQ_CFG f, 22, 12⟩
def SCH_FQ_CFG_QUANTUM (f : Nat) : Fld := ⟨R.SCH_FQ_CFG f, 11, 0⟩
def RED_CTL_LOCK : Fld := ⟨R.RED_CTL, 31, 31⟩
def RED_CTL_STEPDOWN : Fld := ⟨R.RED_CTL, 4, 4⟩
def RED_CTL_PROMOTE : Fld := ⟨R.RED_CTL, 3, 3⟩
def RED_CTL_RST : Fld := ⟨R.RED_CTL, 1, 1⟩
def RED_CTL_EN : Fld := ⟨R.RED_CTL, 0, 0⟩
def RED_TWIN_CFG_SHED_SWAP : Fld := ⟨R.RED_TWIN_CFG, 10, 10⟩
def RED_TWIN_CFG_DIG_CLK : Fld := ⟨R.RED_TWIN_CFG, 9, 8⟩
def RED_TWIN_CFG_DIV_THRESH : Fld := ⟨R.RED_TWIN_CFG, 7, 4⟩
def RED_TWIN_CFG_AUTO_LOFT : Fld := ⟨R.RED_TWIN_CFG, 3, 3⟩
def RED_TWIN_CFG_SUPV : Fld := ⟨R.RED_TWIN_CFG, 2, 1⟩
def RED_TWIN_CFG_TWIN_EN : Fld := ⟨R.RED_TWIN_CFG, 0, 0⟩
def RED_ROLE_CFG_REJ : Fld := ⟨R.RED_ROLE, 31, 31⟩
def RED_ROLE_HANDOVER : Fld := ⟨R.RED_ROLE, 17, 17⟩
def RED_ROLE_PATH_FAULT : Fld := ⟨R.RED_ROLE, 16, 16⟩
def RED_ROLE_FENCED : Fld := ⟨R.RED_ROLE, 14, 14⟩
def RED_ROLE_VERDICT_BUSY : Fld := ⟨R.RED_ROLE, 13, 13⟩
def RED_ROLE_DIVERGED : Fld := ⟨R.RED_ROLE, 12, 12⟩
def RED_ROLE_SUSPECT : Fld := ⟨R.RED_ROLE, 11, 11⟩
def RED_ROLE_PATH_VOX : Fld := ⟨R.RED_ROLE, 10, 10⟩
def RED_ROLE_PATH_WIRE : Fld := ⟨R.RED_ROLE, 9, 9⟩
def RED_ROLE_PARTNER_LOST : Fld := ⟨R.RED_ROLE, 8, 8⟩
def RED_ROLE_PARTNER_ROLE : Fld := ⟨R.RED_ROLE, 6, 4⟩
def RED_ROLE_ROLE : Fld := ⟨R.RED_ROLE, 2, 0⟩
def RED_HB_CFG_VOX_EN : Fld := ⟨R.RED_HB_CFG, 17, 17⟩
def RED_HB_CFG_WIRE_EN : Fld := ⟨R.RED_HB_CFG, 16, 16⟩
def RED_HB_CFG_PERIOD : Fld := ⟨R.RED_HB_CFG, 13, 0⟩
def RED_MIR_CFG_WAIT : Fld := ⟨R.RED_MIR_CFG, 31, 16⟩
def RED_MIR_CFG_ACK_TMO : Fld := ⟨R.RED_MIR_CFG, 15, 0⟩
def RED_GROOM_CFG_VERDICT_MS : Fld := ⟨R.RED_GROOM_CFG, 31, 24⟩
def RED_GROOM_CFG_PERIOD : Fld := ⟨R.RED_GROOM_CFG, 23, 16⟩
def RED_GROOM_CFG_LOOP_PORTS : Fld := ⟨R.RED_GROOM_CFG, 15, 8⟩
def RED_GROOM_CFG_PADDOCK : Fld := ⟨R.RED_GROOM_CFG, 4, 0⟩
def RED_GROOM_SIG_VALUE : Fld := ⟨R.RED_GROOM_SIG, 31, 0⟩
def RED_GROOM_Q_QUEUE : Fld := ⟨R.RED_GROOM_Q, 15, 0⟩
def RED_GROOM_KRES_VALUE : Fld := ⟨R.RED_GROOM_KRES, 31, 0⟩
def RED_GROOM_STAT_ROUND : Fld := ⟨R.RED_GROOM_STAT, 31, 16⟩
def RED_GROOM_STAT_BUSY : Fld := ⟨R.RED_GROOM_STAT, 4, 4⟩
def RED_GROOM_STAT_PASS : Fld := ⟨R.RED_GROOM_STAT, 3, 3⟩
def RED_GROOM_STAT_LOOP_OK : Fld := ⟨R.RED_GROOM_STAT, 2, 2⟩
def RED_GROOM_STAT_SCRUB_OK : Fld := ⟨R.RED_GROOM_STAT, 1, 1⟩
def RED_GROOM_STAT_KERNEL_OK : Fld := ⟨R.RED_GROOM_STAT, 0, 0⟩
def RED_SID_CFG_PORTS : Fld := ⟨R.RED_SID_CFG, 7, 0⟩
def RED_CNT_HB_BAD_COUNT : Fld := ⟨R.RED_CNT_HB_BAD, 31, 0⟩
def RED_CNT_MIR_TMO_COUNT : Fld := ⟨R.RED_CNT_MIR_TMO, 31, 0⟩
def RED_CNT_UNMATCHED_COUNT : Fld := ⟨R.RED_CNT_UNMATCHED, 31, 0⟩
def RED_CNT_ORPHAN_COUNT : Fld := ⟨R.RED_CNT_ORPHAN, 31, 0⟩
def RED_CNT_SURPLUS_COUNT : Fld := ⟨R.RED_CNT_SURPLUS, 31, 0⟩
def RED_CNT_NOCLK_COUNT : Fld := ⟨R.RED_CNT_NOCLK, 31, 0⟩
def RED_CNT_EDGE_COUNT : Fld := ⟨R.RED_CNT_EDGE, 31, 0⟩
def RED_CNT_DIG_MISMATCH_COUNT : Fld := ⟨R.RED_CNT_DIG_MISMATCH, 31, 0⟩
def RED_CNT_DIG_MISSING_COUNT : Fld := ⟨R.RED_CNT_DIG_MISSING, 31, 0⟩
def RED_CNT_DIVERGED_COUNT : Fld := ⟨R.RED_CNT_DIVERGED, 31, 0⟩
def RED_CNT_PROMOTE_COUNT : Fld := ⟨R.RED_CNT_PROMOTE, 31, 0⟩
def RED_CLK_CFG_EN (x : Nat) : Fld := ⟨R.RED_CLK_CFG x, 31, 31⟩
def RED_CLK_CFG_GUARD (x : Nat) : Fld := ⟨R.RED_CLK_CFG x, 27, 8⟩
def RED_CLK_CFG_DOM (x : Nat) : Fld := ⟨R.RED_CLK_CFG x, 2, 0⟩
def RED_CLK_ANCHOR_LO_VALUE (x : Nat) : Fld := ⟨R.RED_CLK_ANCHOR_LO x, 31, 0⟩
def RED_CLK_ANCHOR_HI_VALUE (x : Nat) : Fld := ⟨R.RED_CLK_ANCHOR_HI x, 31, 0⟩
def RED_CLK_CYCLE_VALUE (x : Nat) : Fld := ⟨R.RED_CLK_CYCLE x, 31, 0⟩
def RED_HEALTH_WORD (w : Nat) : Fld := ⟨R.RED_HEALTH w, 31, 0⟩
def RED_SEL_VALID : Fld := ⟨R.RED_SEL, 31, 31⟩
def RED_SEL_STREAM : Fld := ⟨R.RED_SEL, 11, 0⟩
def RED_SEL_GEN_J : Fld := ⟨R.RED_SEL_GEN, 27, 16⟩
def RED_SEL_GEN_NEXT : Fld := ⟨R.RED_SEL_GEN, 15, 0⟩
def RED_SEL_REC_TAKE_ANY : Fld := ⟨R.RED_SEL_REC, 31, 31⟩
def RED_SEL_REC_RECOV : Fld := ⟨R.RED_SEL_REC, 15, 0⟩
def RED_SEL_CNT_VALUE (w : Nat) : Fld := ⟨R.RED_SEL_CNT w, 31, 0⟩
def RED_SMAC_LO_VALUE (x : Nat) : Fld := ⟨R.RED_SMAC_LO x, 31, 0⟩
def RED_SMAC_HI_VALID (x : Nat) : Fld := ⟨R.RED_SMAC_HI x, 31, 31⟩
def RED_SMAC_HI_ANY_VID (x : Nat) : Fld := ⟨R.RED_SMAC_HI x, 28, 28⟩
def RED_SMAC_HI_VID (x : Nat) : Fld := ⟨R.RED_SMAC_HI x, 27, 16⟩
def RED_SMAC_HI_ADDR (x : Nat) : Fld := ⟨R.RED_SMAC_HI x, 15, 0⟩
def RED_SMAC_STR_STREAM (x : Nat) : Fld := ⟨R.RED_SMAC_STR x, 11, 0⟩
def RED_GEN_CFG_EN (s : Nat) : Fld := ⟨R.RED_GEN_CFG s, 31, 31⟩
def RED_GEN_CFG_KIND (s : Nat) : Fld := ⟨R.RED_GEN_CFG s, 30, 30⟩
def RED_GEN_CFG_CLK (s : Nat) : Fld := ⟨R.RED_GEN_CFG s, 29, 28⟩
def RED_GEN_CFG_DIV (s : Nat) : Fld := ⟨R.RED_GEN_CFG s, 27, 20⟩
def RED_GEN_CFG_K (s : Nat) : Fld := ⟨R.RED_GEN_CFG s, 19, 8⟩
def RED_GEN_CFG_DIGEST (s : Nat) : Fld := ⟨R.RED_GEN_CFG s, 0, 0⟩
def RED_REC_CFG_EN (s : Nat) : Fld := ⟨R.RED_REC_CFG s, 31, 31⟩
def RED_REC_CFG_WIN (s : Nat) : Fld := ⟨R.RED_REC_CFG s, 23, 16⟩
def RED_REC_CFG_RESET_MS (s : Nat) : Fld := ⟨R.RED_REC_CFG s, 15, 0⟩
def VOX_CTL_LOCK : Fld := ⟨R.VOX_CTL, 31, 31⟩
def VOX_CTL_RST : Fld := ⟨R.VOX_CTL, 2, 2⟩
def VOX_CTL_EN : Fld := ⟨R.VOX_CTL, 1, 0⟩
def VOX_RING_CFG_SIZE : Fld := ⟨R.VOX_RING_CFG, 5, 4⟩
def VOX_RING_CFG_RING_EN : Fld := ⟨R.VOX_RING_CFG, 2, 2⟩
def VOX_RING_CFG_DEV_ID : Fld := ⟨R.VOX_RING_CFG, 1, 0⟩
def VOX_Q_CFG_RSYNC_Q : Fld := ⟨R.VOX_Q_CFG, 31, 16⟩
def VOX_Q_CFG_PEER_TX_Q : Fld := ⟨R.VOX_Q_CFG, 15, 0⟩
def VOX_REPL_STAT_BROKEN : Fld := ⟨R.VOX_REPL_STAT, 31, 31⟩
def VOX_REPL_STAT_RSYNC : Fld := ⟨R.VOX_REPL_STAT, 30, 30⟩
def VOX_REPL_STAT_BACKLOG : Fld := ⟨R.VOX_REPL_STAT, 16, 0⟩
def VOX_LINK_STAT_DOWN_EV (l : Nat) : Fld := ⟨R.VOX_LINK_STAT l, 31, 31⟩
def VOX_LINK_STAT_PEER_ID (l : Nat) : Fld := ⟨R.VOX_LINK_STAT l, 9, 8⟩
def VOX_LINK_STAT_DEGRADED (l : Nat) : Fld := ⟨R.VOX_LINK_STAT l, 3, 3⟩
def VOX_LINK_STAT_LANES_UP (l : Nat) : Fld := ⟨R.VOX_LINK_STAT l, 2, 1⟩
def VOX_LINK_STAT_UP (l : Nat) : Fld := ⟨R.VOX_LINK_STAT l, 0, 0⟩
def VOX_CNT_RETRY_COUNT (l : Nat) : Fld := ⟨R.VOX_CNT_RETRY l, 31, 0⟩
def VOX_CNT_CRC_COUNT (l : Nat) : Fld := ⟨R.VOX_CNT_CRC l, 31, 0⟩
def VOX_CNT_DROP_COUNT (l : Nat) : Fld := ⟨R.VOX_CNT_DROP l, 31, 0⟩
def ZTT_CTL_LOCK : Fld := ⟨R.ZTT_CTL, 31, 31⟩
def ZTT_CTL_START_MODE : Fld := ⟨R.ZTT_CTL, 14, 12⟩
def ZTT_CTL_NEXT_MODE : Fld := ⟨R.ZTT_CTL, 10, 8⟩
def ZTT_CTL_SWITCH : Fld := ⟨R.ZTT_CTL, 4, 4⟩
def ZTT_CTL_RST : Fld := ⟨R.ZTT_CTL, 1, 1⟩
def ZTT_CTL_EN : Fld := ⟨R.ZTT_CTL, 0, 0⟩
def ZTT_CFG_NODE : Fld := ⟨R.ZTT_CFG, 31, 26⟩
def ZTT_CFG_COLD_EN : Fld := ⟨R.ZTT_CFG, 25, 25⟩
def ZTT_CFG_MASTER_EN : Fld := ⟨R.ZTT_CFG, 24, 24⟩
def ZTT_CFG_PRIO : Fld := ⟨R.ZTT_CFG, 23, 21⟩
def ZTT_CFG_OUT_QUIET : Fld := ⟨R.ZTT_CFG, 20, 20⟩
def ZTT_CFG_CHAN : Fld := ⟨R.ZTT_CFG, 19, 18⟩
def ZTT_CFG_RATE : Fld := ⟨R.ZTT_CFG, 17, 15⟩
def ZTT_CFG_GUARD : Fld := ⟨R.ZTT_CFG, 11, 4⟩
def ZTT_CFG_REF_MISS_MAX : Fld := ⟨R.ZTT_CFG, 3, 0⟩
def ZTT_STAT_CFG_REJ : Fld := ⟨R.ZTT_STAT, 31, 31⟩
def ZTT_STAT_MEM_UE : Fld := ⟨R.ZTT_STAT, 30, 30⟩
def ZTT_STAT_FENCED : Fld := ⟨R.ZTT_STAT, 15, 15⟩
def ZTT_STAT_MASTER : Fld := ⟨R.ZTT_STAT, 14, 14⟩
def ZTT_STAT_MODE : Fld := ⟨R.ZTT_STAT, 13, 11⟩
def ZTT_STAT_ANN_MODE : Fld := ⟨R.ZTT_STAT, 10, 8⟩
def ZTT_STAT_SWITCH_PEND : Fld := ⟨R.ZTT_STAT, 7, 7⟩
def ZTT_STAT_STATE : Fld := ⟨R.ZTT_STAT, 2, 0⟩
def ZTT_CYCLE_MCOUNT : Fld := ⟨R.ZTT_CYCLE, 31, 16⟩
def ZTT_CYCLE_WINDOW : Fld := ⟨R.ZTT_CYCLE, 14, 8⟩
def ZTT_CYCLE_CYCLE : Fld := ⟨R.ZTT_CYCLE, 5, 0⟩
def ZTT_TRIM_TRIM : Fld := ⟨R.ZTT_TRIM, 15, 0⟩
def ZTT_BIT_B : Fld := ⟨R.ZTT_BIT, 31, 0⟩
def ZTT_REF_CFG_RB_MAX : Fld := ⟨R.ZTT_REF_CFG, 11, 8⟩
def ZTT_REF_CFG_REF_DOM : Fld := ⟨R.ZTT_REF_CFG, 2, 0⟩
def ZTT_REF_W_WORD (w : Nat) : Fld := ⟨R.ZTT_REF_W w, 31, 0⟩
def ZTT_Q_CFG_RX_Q : Fld := ⟨R.ZTT_Q_CFG, 31, 16⟩
def ZTT_Q_CFG_CYC_Q : Fld := ⟨R.ZTT_Q_CFG, 15, 0⟩
def ZTT_Q_EN_CYC_QEN : Fld := ⟨R.ZTT_Q_EN, 0, 0⟩
def ZTT_INT_STAT_PRESENT_CHG : Fld := ⟨R.ZTT_INT_STAT, 6, 6⟩
def ZTT_INT_STAT_BAD_WIN : Fld := ⟨R.ZTT_INT_STAT, 5, 5⟩
def ZTT_INT_STAT_RB_ERR : Fld := ⟨R.ZTT_INT_STAT, 4, 4⟩
def ZTT_INT_STAT_EDGE : Fld := ⟨R.ZTT_INT_STAT, 3, 3⟩
def ZTT_INT_STAT_REF_MISS : Fld := ⟨R.ZTT_INT_STAT, 2, 2⟩
def ZTT_INT_STAT_MODE_CHG : Fld := ⟨R.ZTT_INT_STAT, 1, 1⟩
def ZTT_INT_STAT_STATE_CHG : Fld := ⟨R.ZTT_INT_STAT, 0, 0⟩
def ZTT_INT_EN_PRESENT_CHG : Fld := ⟨R.ZTT_INT_EN, 6, 6⟩
def ZTT_INT_EN_BAD_WIN : Fld := ⟨R.ZTT_INT_EN, 5, 5⟩
def ZTT_INT_EN_RB_ERR : Fld := ⟨R.ZTT_INT_EN, 4, 4⟩
def ZTT_INT_EN_EDGE : Fld := ⟨R.ZTT_INT_EN, 3, 3⟩
def ZTT_INT_EN_REF_MISS : Fld := ⟨R.ZTT_INT_EN, 2, 2⟩
def ZTT_INT_EN_MODE_CHG : Fld := ⟨R.ZTT_INT_EN, 1, 1⟩
def ZTT_INT_EN_STATE_CHG : Fld := ⟨R.ZTT_INT_EN, 0, 0⟩
def ZTT_PRESENT_BITS (w : Nat) : Fld := ⟨R.ZTT_PRESENT w, 31, 0⟩
def ZTT_POLL_GRP_LO_NODES (g : Nat) : Fld := ⟨R.ZTT_POLL_GRP_LO g, 31, 0⟩
def ZTT_POLL_GRP_HI_NODES (g : Nat) : Fld := ⟨R.ZTT_POLL_GRP_HI g, 31, 0⟩
def ZTT_POLL_TX_EN (g : Nat) : Fld := ⟨R.ZTT_POLL_TX g, 31, 31⟩
def ZTT_POLL_TX_BUF (g : Nat) : Fld := ⟨R.ZTT_POLL_TX g, 8, 0⟩
def ZTT_MODE_NCYC (i : Nat) : Fld := ⟨R.ZTT_MODE i, 29, 24⟩
def ZTT_MODE_NWIN (i : Nat) : Fld := ⟨R.ZTT_MODE i, 22, 16⟩
def ZTT_MODE_BASE (i : Nat) : Fld := ⟨R.ZTT_MODE i, 12, 0⟩
def ZTT_MODE_LEN_CYC_BT (i : Nat) : Fld := ⟨R.ZTT_MODE_LEN i, 15, 0⟩
def ZTT_CNT_COUNT (c : Nat) (k : Nat) : Fld := ⟨R.ZTT_CNT c k, 31, 0⟩
def ZTT_CNT_G_COUNT (k : Nat) : Fld := ⟨R.ZTT_CNT_G k, 31, 0⟩
def ZTT_NODE_MISS_MISS_B (n : Nat) : Fld := ⟨R.ZTT_NODE_MISS n, 31, 16⟩
def ZTT_NODE_MISS_MISS_A (n : Nat) : Fld := ⟨R.ZTT_NODE_MISS n, 15, 0⟩
def ZTT_MB_CFG_EN (m : Nat) : Fld := ⟨R.ZTT_MB_CFG m, 31, 31⟩
def ZTT_MB_CFG_DIR (m : Nat) : Fld := ⟨R.ZTT_MB_CFG m, 30, 30⟩
def ZTT_MB_CFG_FIRST (m : Nat) : Fld := ⟨R.ZTT_MB_CFG m, 29, 29⟩
def ZTT_MB_CFG_QEN (m : Nat) : Fld := ⟨R.ZTT_MB_CFG m, 28, 28⟩
def ZTT_MB_CFG_AGE_MAX (m : Nat) : Fld := ⟨R.ZTT_MB_CFG m, 27, 20⟩
def ZTT_MB_STAT_VALID (m : Nat) : Fld := ⟨R.ZTT_MB_STAT m, 31, 31⟩
def ZTT_MB_STAT_NULL (m : Nat) : Fld := ⟨R.ZTT_MB_STAT m, 30, 30⟩
def ZTT_MB_STAT_CHAN (m : Nat) : Fld := ⟨R.ZTT_MB_STAT m, 29, 29⟩
def ZTT_MB_STAT_UPD (m : Nat) : Fld := ⟨R.ZTT_MB_STAT m, 28, 28⟩
def ZTT_MB_STAT_NODE (m : Nat) : Fld := ⟨R.ZTT_MB_STAT m, 27, 22⟩
def ZTT_MB_STAT_CYCLE (m : Nat) : Fld := ⟨R.ZTT_MB_STAT m, 21, 16⟩
def ZTT_MB_STAT_SEQ (m : Nat) : Fld := ⟨R.ZTT_MB_STAT m, 15, 8⟩
def ZTT_MB_STAT_LEN (m : Nat) : Fld := ⟨R.ZTT_MB_STAT m, 6, 0⟩
def ZTT_MB_CMD_COMMIT (m : Nat) : Fld := ⟨R.ZTT_MB_CMD m, 31, 31⟩
def ZTT_MB_CMD_CLEAR (m : Nat) : Fld := ⟨R.ZTT_MB_CMD m, 30, 30⟩
def ZTT_MB_CMD_LEN (m : Nat) : Fld := ⟨R.ZTT_MB_CMD m, 6, 0⟩
def ZTT_MB_INFO_MCOUNT (m : Nat) : Fld := ⟨R.ZTT_MB_INFO m, 31, 16⟩
def ZTT_MB_INFO_DUP (m : Nat) : Fld := ⟨R.ZTT_MB_INFO m, 15, 0⟩
def ZTT_MB_DATA_DATA (m : Nat) (w : Nat) : Fld := ⟨R.ZTT_MB_DATA m w, 31, 0⟩
def ZTT_WIN_TIME_LEN (k : Nat) : Fld := ⟨R.ZTT_WIN_TIME k, 31, 16⟩
def ZTT_WIN_TIME_START (k : Nat) : Fld := ⟨R.ZTT_WIN_TIME k, 15, 0⟩
def ZTT_WIN_CTL_KIND (k : Nat) : Fld := ⟨R.ZTT_WIN_CTL k, 31, 30⟩
def ZTT_WIN_CTL_EN_A (k : Nat) : Fld := ⟨R.ZTT_WIN_CTL k, 29, 29⟩
def ZTT_WIN_CTL_EN_B (k : Nat) : Fld := ⟨R.ZTT_WIN_CTL k, 28, 28⟩
def ZTT_WIN_CTL_OWNER (k : Nat) : Fld := ⟨R.ZTT_WIN_CTL k, 27, 22⟩
def ZTT_WIN_CTL_BUF_B (k : Nat) : Fld := ⟨R.ZTT_WIN_CTL k, 19, 10⟩
def ZTT_WIN_CTL_BUF_A (k : Nat) : Fld := ⟨R.ZTT_WIN_CTL k, 9, 0⟩
def QM_CTL_LOCK : Fld := ⟨R.QM_CTL, 31, 31⟩
def QM_CTL_RST : Fld := ⟨R.QM_CTL, 1, 1⟩
def QM_CTL_EN : Fld := ⟨R.QM_CTL, 0, 0⟩
def QM_STAT_CFG_REJ : Fld := ⟨R.QM_STAT, 31, 31⟩
def QM_STAT_MEM_UE : Fld := ⟨R.QM_STAT, 30, 30⟩
def QM_STAT_RST_BUSY : Fld := ⟨R.QM_STAT, 1, 1⟩
def QM_STAT_FENCED : Fld := ⟨R.QM_STAT, 0, 0⟩
def QM_PCIE_STAT_FLR_EV : Fld := ⟨R.QM_PCIE_STAT, 31, 31⟩
def QM_PCIE_STAT_SPEED : Fld := ⟨R.QM_PCIE_STAT, 19, 16⟩
def QM_PCIE_STAT_WIDTH : Fld := ⟨R.QM_PCIE_STAT, 13, 8⟩
def QM_PCIE_STAT_BME : Fld := ⟨R.QM_PCIE_STAT, 2, 2⟩
def QM_PCIE_STAT_MSIX_EN : Fld := ⟨R.QM_PCIE_STAT, 1, 1⟩
def QM_PCIE_STAT_LINK_UP : Fld := ⟨R.QM_PCIE_STAT, 0, 0⟩
def QM_PCIE_SUBSYS_SSID : Fld := ⟨R.QM_PCIE_SUBSYS, 31, 16⟩
def QM_PCIE_SUBSYS_SSVID : Fld := ⟨R.QM_PCIE_SUBSYS, 15, 0⟩
def QM_INT_CFG_PIN : Fld := ⟨R.QM_INT_CFG, 0, 0⟩
def QM_INT_STAT_BITS (w : Nat) : Fld := ⟨R.QM_INT_STAT w, 31, 0⟩
def QM_INT_EN_BITS (w : Nat) : Fld := ⟨R.QM_INT_EN w, 31, 0⟩
def QM_ADM_DB_STATE : Fld := ⟨R.QM_ADM_DB, 31, 29⟩
def QM_ADM_DB_ERR : Fld := ⟨R.QM_ADM_DB, 27, 20⟩
def QM_ADM_DB_GEN : Fld := ⟨R.QM_ADM_DB, 15, 8⟩
def QM_QP_DB_STATE (i : Nat) : Fld := ⟨R.QM_QP_DB i, 31, 29⟩
def QM_QP_DB_ERR (i : Nat) : Fld := ⟨R.QM_QP_DB i, 27, 20⟩
def QM_QP_DB_GEN (i : Nat) : Fld := ⟨R.QM_QP_DB i, 15, 8⟩
def QM_QSPI_CFG_MGMT_EN : Fld := ⟨R.QM_QSPI_CFG, 0, 0⟩
def QM_CMD_W_VALUE (w : Nat) : Fld := ⟨R.QM_CMD_W w, 31, 0⟩
def QM_CMD_GO_GO : Fld := ⟨R.QM_CMD_GO, 0, 0⟩
def QM_CMD_RES_VALID : Fld := ⟨R.QM_CMD_RES, 31, 31⟩
def QM_CMD_RES_TAG : Fld := ⟨R.QM_CMD_RES, 23, 16⟩
def QM_CMD_RES_STATUS : Fld := ⟨R.QM_CMD_RES, 7, 0⟩
def QM_CMD_RES_W_WORD (w : Nat) : Fld := ⟨R.QM_CMD_RES_W w, 31, 0⟩
def QM_IRQ_MAP_EN (k : Nat) : Fld := ⟨R.QM_IRQ_MAP k, 31, 31⟩
def QM_IRQ_MAP_VECTOR (k : Nat) : Fld := ⟨R.QM_IRQ_MAP k, 5, 0⟩
def QM_P9_MAP_EN (c : Nat) : Fld := ⟨R.QM_P9_MAP c, 31, 31⟩
def QM_P9_MAP_SIZE (c : Nat) : Fld := ⟨R.QM_P9_MAP c, 19, 16⟩
def QM_P9_MAP_BASE (c : Nat) : Fld := ⟨R.QM_P9_MAP c, 11, 0⟩
def QM_CNT_RX_DROP_COUNT : Fld := ⟨R.QM_CNT_RX_DROP, 31, 0⟩
def QM_CNT_RX_NOBUF_COUNT : Fld := ⟨R.QM_CNT_RX_NOBUF, 31, 0⟩
def QM_CNT_BAD_DB_COUNT : Fld := ⟨R.QM_CNT_BAD_DB, 31, 0⟩
def QM_CNT_CHAIN_LOOP_COUNT : Fld := ⟨R.QM_CNT_CHAIN_LOOP, 31, 0⟩
def QM_CNT_HOST_TMO_COUNT : Fld := ⟨R.QM_CNT_HOST_TMO, 31, 0⟩
def QM_CNT_HOST_ERR_COUNT : Fld := ⟨R.QM_CNT_HOST_ERR, 31, 0⟩
def QM_CNT_HW_DROP_COUNT : Fld := ⟨R.QM_CNT_HW_DROP, 31, 0⟩
def QM_CNT_BAD_ENTRY_COUNT : Fld := ⟨R.QM_CNT_BAD_ENTRY, 31, 0⟩
def SAX_CTL_LOCK : Fld := ⟨R.SAX_CTL, 31, 31⟩
def SAX_CTL_RESYNC : Fld := ⟨R.SAX_CTL, 2, 2⟩
def SAX_CTL_RST : Fld := ⟨R.SAX_CTL, 1, 1⟩
def SAX_CTL_EN : Fld := ⟨R.SAX_CTL, 0, 0⟩
def SAX_STAT_CFG_REJ : Fld := ⟨R.SAX_STAT, 31, 31⟩
def SAX_STAT_MEM_UE : Fld := ⟨R.SAX_STAT, 30, 30⟩
def SAX_STAT_KA_LATE : Fld := ⟨R.SAX_STAT, 29, 29⟩
def SAX_STAT_LOST : Fld := ⟨R.SAX_STAT, 28, 28⟩
def SAX_STAT_HIGH : Fld := ⟨R.SAX_STAT, 27, 27⟩
def SAX_STAT_RESYNC_BUSY : Fld := ⟨R.SAX_STAT, 3, 3⟩
def SAX_STAT_SHED : Fld := ⟨R.SAX_STAT, 2, 2⟩
def SAX_STAT_FENCED : Fld := ⟨R.SAX_STAT, 1, 1⟩
def SAX_STAT_READY : Fld := ⟨R.SAX_STAT, 0, 0⟩
def SAX_INT_EN_CFG_REJ : Fld := ⟨R.SAX_INT_EN, 31, 31⟩
def SAX_INT_EN_MEM_UE : Fld := ⟨R.SAX_INT_EN, 30, 30⟩
def SAX_INT_EN_KA_LATE : Fld := ⟨R.SAX_INT_EN, 29, 29⟩
def SAX_INT_EN_LOST : Fld := ⟨R.SAX_INT_EN, 28, 28⟩
def SAX_INT_EN_HIGH : Fld := ⟨R.SAX_INT_EN, 27, 27⟩
def SAX_CFG_SIZE_LOG2 : Fld := ⟨R.SAX_CFG, 4, 0⟩
def SAX_TBL_BASE_BASE : Fld := ⟨R.SAX_TBL_BASE, 31, 25⟩
def SAX_KA_Q_QUEUE : Fld := ⟨R.SAX_KA_Q, 15, 0⟩
def SAX_OCC_OPEN : Fld := ⟨R.SAX_OCC, 17, 0⟩
def SAX_HIGH_WM_COUNT : Fld := ⟨R.SAX_HIGH_WM, 17, 0⟩
def SAX_SEL_VALID : Fld := ⟨R.SAX_SEL, 31, 31⟩
def SAX_SEL_SESSION : Fld := ⟨R.SAX_SEL, 16, 0⟩
def SAX_SEL_STATE_OPEN : Fld := ⟨R.SAX_SEL_STATE, 31, 31⟩
def SAX_SEL_STATE_RX_KEY : Fld := ⟨R.SAX_SEL_STATE, 30, 30⟩
def SAX_SEL_STATE_TX_KEY : Fld := ⟨R.SAX_SEL_STATE, 29, 29⟩
def SAX_SEL_STATE_OLD_KEY : Fld := ⟨R.SAX_SEL_STATE, 28, 28⟩
def SAX_SEL_STATE_MODE : Fld := ⟨R.SAX_SEL_STATE, 27, 26⟩
def SAX_SEL_STATE_AES256 : Fld := ⟨R.SAX_SEL_STATE, 25, 25⟩
def SAX_SEL_STATE_EPOCH : Fld := ⟨R.SAX_SEL_STATE, 15, 0⟩
def SAX_SEL_CB_BYTES : Fld := ⟨R.SAX_SEL_CB, 19, 0⟩
def SAX_SEL_EB_BYTES : Fld := ⟨R.SAX_SEL_EB, 19, 0⟩
def SAX_SEL_CNT_COUNT (w : Nat) : Fld := ⟨R.SAX_SEL_CNT w, 31, 0⟩
def SAX_CNT_RX_OK_COUNT : Fld := ⟨R.SAX_CNT_RX_OK, 31, 0⟩
def SAX_CNT_AUTH_FAIL_COUNT : Fld := ⟨R.SAX_CNT_AUTH_FAIL, 31, 0⟩
def SAX_CNT_REPLAY_COUNT : Fld := ⟨R.SAX_CNT_REPLAY, 31, 0⟩
def SAX_CNT_POLICED_COUNT : Fld := ⟨R.SAX_CNT_POLICED, 31, 0⟩
def SAX_CNT_TX_OK_COUNT : Fld := ⟨R.SAX_CNT_TX_OK, 31, 0⟩
def SAX_CNT_KA_DROP_COUNT : Fld := ⟨R.SAX_CNT_KA_DROP, 31, 0⟩
def SAX_CNT_REPL_DROP_COUNT : Fld := ⟨R.SAX_CNT_REPL_DROP, 31, 0⟩
def FCU_CTL_LOCK : Fld := ⟨R.FCU_CTL, 31, 31⟩
def FCU_CTL_SAFE : Fld := ⟨R.FCU_CTL, 0, 0⟩
def FCU_STAT_CFG_REJ : Fld := ⟨R.FCU_STAT, 31, 31⟩
def FCU_STAT_PARITY_ERR : Fld := ⟨R.FCU_STAT, 30, 30⟩
def FCU_STAT_INT_REQ : Fld := ⟨R.FCU_STAT, 29, 29⟩
def FCU_STAT_SAFE_CAUSE : Fld := ⟨R.FCU_STAT, 3, 1⟩
def FCU_STAT_SAFE : Fld := ⟨R.FCU_STAT, 0, 0⟩
def FCU_CFG_INJ_REACT : Fld := ⟨R.FCU_CFG, 17, 17⟩
def FCU_CFG_QEN : Fld := ⟨R.FCU_CFG, 16, 16⟩
def FCU_CFG_CASCADE_TAIL : Fld := ⟨R.FCU_CFG, 15, 0⟩
def FCU_Q_QUEUE : Fld := ⟨R.FCU_Q, 15, 0⟩
def FCU_ERR_CTL_HOLD : Fld := ⟨R.FCU_ERR_CTL, 31, 31⟩
def FCU_ERR_CTL_LEVEL : Fld := ⟨R.FCU_ERR_CTL, 30, 30⟩
def FCU_ERR_CTL_PULSE : Fld := ⟨R.FCU_ERR_CTL, 29, 29⟩
def FCU_ERR_CTL_PULSE_MS : Fld := ⟨R.FCU_ERR_CTL, 15, 0⟩
def FCU_FIRST_VALID : Fld := ⟨R.FCU_FIRST, 15, 15⟩
def FCU_FIRST_INJECTED : Fld := ⟨R.FCU_FIRST, 14, 14⟩
def FCU_FIRST_KIND : Fld := ⟨R.FCU_FIRST, 11, 8⟩
def FCU_FIRST_SOURCE : Fld := ⟨R.FCU_FIRST, 7, 0⟩
def FCU_FIRST_DET_DETAIL (w : Nat) : Fld := ⟨R.FCU_FIRST_DET w, 31, 0⟩
def FCU_FW_RAISE_SOURCE : Fld := ⟨R.FCU_FW_RAISE, 7, 0⟩
def FCU_FW_DET_VALUE : Fld := ⟨R.FCU_FW_DET, 31, 0⟩
def FCU_CNT_CASCADE_COUNT : Fld := ⟨R.FCU_CNT_CASCADE, 31, 0⟩
def FCU_CNT_INJ_COUNT : Fld := ⟨R.FCU_CNT_INJ, 31, 0⟩
def FCU_FENCE_BITS (w : Nat) : Fld := ⟨R.FCU_FENCE w, 31, 0⟩
def FCU_FENCE_SET_BITS (w : Nat) : Fld := ⟨R.FCU_FENCE_SET w, 31, 0⟩
def FCU_SRC_STAT_INJECTED (s : Nat) : Fld := ⟨R.FCU_SRC_STAT s, 31, 16⟩
def FCU_SRC_STAT_REAL (s : Nat) : Fld := ⟨R.FCU_SRC_STAT s, 15, 0⟩
def FCU_SRC_FORCE_FORCE (s : Nat) : Fld := ⟨R.FCU_SRC_FORCE s, 15, 0⟩
def FCU_SRC_CNT_CASCADE (s : Nat) : Fld := ⟨R.FCU_SRC_CNT s, 31, 16⟩
def FCU_SRC_CNT_COUNT (s : Nat) : Fld := ⟨R.FCU_SRC_CNT s, 15, 0⟩
def FCU_RCT_REACT (s : Nat) (w : Nat) : Fld := ⟨R.FCU_RCT s w, 31, 0⟩
def FCU_CASCADE_MASK_DEP (s : Nat) (w : Nat) : Fld := ⟨R.FCU_CASCADE_MASK s w, 31, 0⟩
def EVR_CTL_LOCK : Fld := ⟨R.EVR_CTL, 31, 31⟩
def EVR_CTL_RST : Fld := ⟨R.EVR_CTL, 0, 0⟩
def EVR_STAT_CFG_REJ : Fld := ⟨R.EVR_STAT, 31, 31⟩
def EVR_STAT_MEM_UE : Fld := ⟨R.EVR_STAT, 30, 30⟩
def EVR_STAT_SPILL_GAP : Fld := ⟨R.EVR_STAT, 29, 29⟩
def EVR_STAT_RESERVE : Fld := ⟨R.EVR_STAT, 2, 2⟩
def EVR_STAT_SPILL_PAUSED : Fld := ⟨R.EVR_STAT, 1, 1⟩
def EVR_STAT_TEST_BUSY : Fld := ⟨R.EVR_STAT, 0, 0⟩
def EVR_CFG_RATE_MS : Fld := ⟨R.EVR_CFG, 15, 0⟩
def EVR_HEAD_LO_SEQ : Fld := ⟨R.EVR_HEAD_LO, 31, 0⟩
def EVR_HEAD_HI_SEQ : Fld := ⟨R.EVR_HEAD_HI, 7, 0⟩
def EVR_TAIL_LO_SEQ : Fld := ⟨R.EVR_TAIL_LO, 31, 0⟩
def EVR_TAIL_HI_SEQ : Fld := ⟨R.EVR_TAIL_HI, 7, 0⟩
def EVR_SPILL_CTL_EN : Fld := ⟨R.EVR_SPILL_CTL, 31, 31⟩
def EVR_SPILL_CTL_SIZE_LOG2 : Fld := ⟨R.EVR_SPILL_CTL, 4, 0⟩
def EVR_SPILL_BASE_BASE : Fld := ⟨R.EVR_SPILL_BASE, 31, 13⟩
def EVR_CNT_WRITTEN_COUNT : Fld := ⟨R.EVR_CNT_WRITTEN, 31, 0⟩
def EVR_CNT_RATE_SUPP_COUNT : Fld := ⟨R.EVR_CNT_RATE_SUPP, 31, 0⟩
def EVR_CNT_EVLOG_RANGE_COUNT : Fld := ⟨R.EVR_CNT_EVLOG_RANGE, 31, 0⟩
def EVR_CNT_EVLOG_BUDGET_COUNT : Fld := ⟨R.EVR_CNT_EVLOG_BUDGET, 31, 0⟩
def EVR_CNT_HW_LOST_COUNT : Fld := ⟨R.EVR_CNT_HW_LOST, 31, 0⟩
def EVR_CNT_SPILL_MISSING_COUNT : Fld := ⟨R.EVR_CNT_SPILL_MISSING, 31, 0⟩
def EVR_RET_STAT_CLR : Fld := ⟨R.EVR_RET_STAT, 31, 31⟩
def EVR_RET_STAT_COUNT : Fld := ⟨R.EVR_RET_STAT, 2, 0⟩
def EVR_RET_W_WORD (r : Nat) (w : Nat) : Fld := ⟨R.EVR_RET_W r w, 31, 0⟩
def EVR_CUR_CTL_SEEK_HEAD (c : Nat) : Fld := ⟨R.EVR_CUR_CTL c, 2, 2⟩
def EVR_CUR_CTL_SEEK_OLDEST (c : Nat) : Fld := ⟨R.EVR_CUR_CTL c, 1, 1⟩
def EVR_CUR_CTL_ADV (c : Nat) : Fld := ⟨R.EVR_CUR_CTL c, 0, 0⟩
def EVR_CUR_STAT_VALID (c : Nat) : Fld := ⟨R.EVR_CUR_STAT c, 31, 31⟩
def EVR_CUR_STAT_LOST (c : Nat) : Fld := ⟨R.EVR_CUR_STAT c, 15, 0⟩
def EVR_CUR_POS_LO_SEQ (c : Nat) : Fld := ⟨R.EVR_CUR_POS_LO c, 31, 0⟩
def EVR_CUR_POS_HI_SEQ (c : Nat) : Fld := ⟨R.EVR_CUR_POS_HI c, 7, 0⟩
def EVR_CUR_W_WORD (c : Nat) (w : Nat) : Fld := ⟨R.EVR_CUR_W c w, 31, 0⟩
def EVR_RATE_LIMIT (i : Nat) : Fld := ⟨R.EVR_RATE i, 15, 0⟩
def PWR_CTL_LOCK : Fld := ⟨R.PWR_CTL, 31, 31⟩
def PWR_CTL_PS_MAX : Fld := ⟨R.PWR_CTL, 10, 8⟩
def PWR_CTL_THERM_SH1 : Fld := ⟨R.PWR_CTL, 0, 0⟩
def PWR_STAT_CFG_REJ : Fld := ⟨R.PWR_STAT, 31, 31⟩
def PWR_STAT_SH_CHG : Fld := ⟨R.PWR_STAT, 30, 30⟩
def PWR_STAT_PS_CHG : Fld := ⟨R.PWR_STAT, 29, 29⟩
def PWR_STAT_THERMAL : Fld := ⟨R.PWR_STAT, 28, 28⟩
def PWR_STAT_RAIL_FAULT : Fld := ⟨R.PWR_STAT, 27, 27⟩
def PWR_STAT_THERM_SHED : Fld := ⟨R.PWR_STAT, 11, 11⟩
def PWR_STAT_PS : Fld := ⟨R.PWR_STAT, 10, 8⟩
def PWR_STAT_SH : Fld := ⟨R.PWR_STAT, 6, 4⟩
def PWR_STAT_PS_TARGET : Fld := ⟨R.PWR_STAT, 2, 0⟩
def PWR_VIN_MIN : Fld := ⟨R.PWR_VIN, 28, 16⟩
def PWR_VIN_VIN : Fld := ⟨R.PWR_VIN, 12, 0⟩
def PWR_SH_THR_RISE (k : Nat) : Fld := ⟨R.PWR_SH_THR k, 28, 16⟩
def PWR_SH_THR_FALL (k : Nat) : Fld := ⟨R.PWR_SH_THR k, 12, 0⟩
def PWR_LTR_EN (k : Nat) : Fld := ⟨R.PWR_LTR k, 31, 31⟩
def PWR_LTR_TOL (k : Nat) : Fld := ⟨R.PWR_LTR k, 23, 0⟩
def PWR_WAKE_FROM : Fld := ⟨R.PWR_WAKE, 7, 4⟩
def PWR_WAKE_CAUSE : Fld := ⟨R.PWR_WAKE, 3, 0⟩
def PWR_RAIL_STAT_VIO_B_25 : Fld := ⟨R.PWR_RAIL_STAT, 9, 9⟩
def PWR_RAIL_STAT_VIO_A_33 : Fld := ⟨R.PWR_RAIL_STAT, 8, 8⟩
def PWR_RAIL_STAT_GOOD : Fld := ⟨R.PWR_RAIL_STAT, 3, 0⟩
def PWR_TEMP_TJ : Fld := ⟨R.PWR_TEMP, 15, 0⟩
def PWR_TJ_LIMIT_LIMIT : Fld := ⟨R.PWR_TJ_LIMIT, 7, 0⟩
def PWR_CNT_SH_COUNT : Fld := ⟨R.PWR_CNT_SH, 31, 0⟩
def PWR_PS_TIME_MS (k : Nat) : Fld := ⟨R.PWR_PS_TIME k, 31, 0⟩
def GCTL_RST_CTL_KEY : Fld := ⟨R.GCTL_RST_CTL, 31, 24⟩
def GCTL_RST_CTL_COLD : Fld := ⟨R.GCTL_RST_CTL, 1, 1⟩
def GCTL_RST_CTL_WARM : Fld := ⟨R.GCTL_RST_CTL, 0, 0⟩
def GCTL_RST_CAUSE_WARM_CNT : Fld := ⟨R.GCTL_RST_CAUSE, 31, 16⟩
def GCTL_RST_CAUSE_SAFE : Fld := ⟨R.GCTL_RST_CAUSE, 9, 9⟩
def GCTL_RST_CAUSE_FROZE : Fld := ⟨R.GCTL_RST_CAUSE, 8, 8⟩
def GCTL_RST_CAUSE_CAUSE : Fld := ⟨R.GCTL_RST_CAUSE, 7, 0⟩
def GCTL_STAT_CFG_REJ : Fld := ⟨R.GCTL_STAT, 31, 31⟩
def GCTL_STAT_PIN_CLASH : Fld := ⟨R.GCTL_STAT, 30, 30⟩
def GCTL_STAT_LOCK : Fld := ⟨R.GCTL_STAT, 29, 29⟩
def GCTL_BOOT_STAT_DONE : Fld := ⟨R.GCTL_BOOT_STAT, 31, 31⟩
def GCTL_BOOT_STAT_WARM : Fld := ⟨R.GCTL_BOOT_STAT, 30, 30⟩
def GCTL_BOOT_STAT_COPY_B : Fld := ⟨R.GCTL_BOOT_STAT, 29, 29⟩
def GCTL_BOOT_STAT_CODE : Fld := ⟨R.GCTL_BOOT_STAT, 23, 16⟩
def GCTL_BOOT_STAT_BOOT_SEL : Fld := ⟨R.GCTL_BOOT_STAT, 15, 14⟩
def GCTL_BOOT_STAT_TWIN_ROLE : Fld := ⟨R.GCTL_BOOT_STAT, 13, 13⟩
def GCTL_BOOT_STAT_SVN : Fld := ⟨R.GCTL_BOOT_STAT, 5, 0⟩
def GCTL_BOOT_CMD_GO : Fld := ⟨R.GCTL_BOOT_CMD, 31, 31⟩
def GCTL_BOOT_CMD_LEN : Fld := ⟨R.GCTL_BOOT_CMD, 24, 0⟩
def GCTL_IMG_BASE_VALUE : Fld := ⟨R.GCTL_IMG_BASE, 31, 0⟩
def GCTL_IMG_LEN_VALUE : Fld := ⟨R.GCTL_IMG_LEN, 31, 0⟩
def GCTL_IMG_VER_VALUE : Fld := ⟨R.GCTL_IMG_VER, 31, 0⟩
def GCTL_TWIN_CFG_RESOLVE_MS : Fld := ⟨R.GCTL_TWIN_CFG, 15, 0⟩
def SEC_CTL_LOCK : Fld := ⟨R.SEC_CTL, 31, 31⟩
def SEC_STAT_CFG_REJ : Fld := ⟨R.SEC_STAT, 31, 31⟩
def SEC_STAT_BACKOFF : Fld := ⟨R.SEC_STAT, 4, 4⟩
def SEC_STAT_DENY : Fld := ⟨R.SEC_STAT, 3, 3⟩
def SEC_STAT_DBG_FUSE : Fld := ⟨R.SEC_STAT, 2, 2⟩
def SEC_STAT_LEVEL : Fld := ⟨R.SEC_STAT, 1, 0⟩
def SEC_DBG_CMD_OP : Fld := ⟨R.SEC_DBG_CMD, 2, 0⟩
def SEC_DBG_RES_VALID : Fld := ⟨R.SEC_DBG_RES, 31, 31⟩
def SEC_DBG_RES_TAG : Fld := ⟨R.SEC_DBG_RES, 23, 16⟩
def SEC_DBG_RES_RESULT : Fld := ⟨R.SEC_DBG_RES, 7, 0⟩
def SEC_DBG_DATA_VALUE (w : Nat) : Fld := ⟨R.SEC_DBG_DATA w, 31, 0⟩
def SEC_DBG_NONCE_VALUE (w : Nat) : Fld := ⟨R.SEC_DBG_NONCE w, 31, 0⟩
def SEC_DBG_FAIL_WAIT_S : Fld := ⟨R.SEC_DBG_FAIL, 31, 16⟩
def SEC_DBG_FAIL_COUNT : Fld := ⟨R.SEC_DBG_FAIL, 7, 0⟩
def SEC_SERIAL_LO_SERIAL : Fld := ⟨R.SEC_SERIAL_LO, 31, 0⟩
def SEC_SERIAL_HI_SERIAL : Fld := ⟨R.SEC_SERIAL_HI, 31, 0⟩
def SEC_FUSE_STAT_SVN_MIN : Fld := ⟨R.SEC_FUSE_STAT, 13, 8⟩
def SEC_FUSE_STAT_PROG : Fld := ⟨R.SEC_FUSE_STAT, 7, 4⟩
def SEC_FUSE_STAT_REVOKED : Fld := ⟨R.SEC_FUSE_STAT, 3, 0⟩
def SEC_FUSE_CMD_KEY : Fld := ⟨R.SEC_FUSE_CMD, 31, 24⟩
def SEC_FUSE_CMD_REVOKE : Fld := ⟨R.SEC_FUSE_CMD, 23, 20⟩
def SEC_FUSE_CMD_SVN_EN : Fld := ⟨R.SEC_FUSE_CMD, 6, 6⟩
def SEC_FUSE_CMD_SVN : Fld := ⟨R.SEC_FUSE_CMD, 5, 0⟩
def SEC_FUSE_RES_VALID : Fld := ⟨R.SEC_FUSE_RES, 31, 31⟩
def SEC_FUSE_RES_TAG : Fld := ⟨R.SEC_FUSE_RES, 23, 16⟩
def SEC_FUSE_RES_RESULT : Fld := ⟨R.SEC_FUSE_RES, 7, 0⟩
def DMC_CTL_LOCK : Fld := ⟨R.DMC_CTL, 31, 31⟩
def DMC_CTL_SCRUB_EN : Fld := ⟨R.DMC_CTL, 0, 0⟩
def DMC_STAT_MEM_UE : Fld := ⟨R.DMC_STAT, 31, 31⟩
def DMC_STAT_MEM_CE : Fld := ⟨R.DMC_STAT, 30, 30⟩
def DMC_STAT_TRAINED : Fld := ⟨R.DMC_STAT, 5, 4⟩
def DMC_STAT_FITTED : Fld := ⟨R.DMC_STAT, 3, 2⟩
def DMC_STAT_SREF : Fld := ⟨R.DMC_STAT, 1, 1⟩
def DMC_STAT_READY : Fld := ⟨R.DMC_STAT, 0, 0⟩
def DMC_SIZE_USABLE : Fld := ⟨R.DMC_SIZE, 15, 0⟩
def DMC_ECC_CNT_UE (c : Nat) : Fld := ⟨R.DMC_ECC_CNT c, 31, 16⟩
def DMC_ECC_CNT_CE (c : Nat) : Fld := ⟨R.DMC_ECC_CNT c, 15, 0⟩
def DMC_ECC_ADDR_VALID (c : Nat) : Fld := ⟨R.DMC_ECC_ADDR c, 31, 31⟩
def DMC_ECC_ADDR_OFFSET (c : Nat) : Fld := ⟨R.DMC_ECC_ADDR c, 28, 0⟩
end F

/-- Registers of GCTL. -/
def regsGCTL : List RegDesc := [
  ⟨.GCTL_ID, 0x0, [], false, 0x5a771281, [⟨31, 20, .ro⟩, ⟨19, 4, .ro⟩, ⟨3, 0, .ro⟩]⟩,
  ⟨.GCTL_GRADE, 0x4, [], false, 0x0, [⟨1, 0, .ro⟩]⟩,
  ⟨.GCTL_RST_CTL, 0x8, [], false, 0x0, [⟨31, 24, .wo⟩, ⟨1, 1, .wo⟩, ⟨0, 0, .wo⟩]⟩,
  ⟨.GCTL_RST_CAUSE, 0xc, [], false, 0x0, [⟨31, 16, .ro⟩, ⟨9, 9, .ro⟩, ⟨8, 8, .ro⟩, ⟨7, 0, .ro⟩]⟩,
  ⟨.GCTL_STAT, 0x10, [], false, 0x0, [⟨31, 31, .w1c⟩, ⟨30, 30, .ro⟩, ⟨29, 29, .w1s⟩]⟩,
  ⟨.GCTL_BOOT_STAT, 0x14, [], false, 0x0, [⟨31, 31, .ro⟩, ⟨30, 30, .ro⟩, ⟨29, 29, .ro⟩, ⟨23, 16, .ro⟩, ⟨15, 14, .ro⟩, ⟨13, 13, .ro⟩, ⟨5, 0, .ro⟩]⟩,
  ⟨.GCTL_BOOT_CMD, 0x18, [], false, 0x0, [⟨31, 31, .wo⟩, ⟨24, 0, .wo⟩]⟩,
  ⟨.GCTL_IMG_BASE, 0x1c, [], false, 0x0, [⟨31, 0, .ro⟩]⟩,
  ⟨.GCTL_IMG_LEN, 0x20, [], false, 0x0, [⟨31, 0, .ro⟩]⟩,
  ⟨.GCTL_IMG_VER, 0x24, [], false, 0x0, [⟨31, 0, .ro⟩]⟩,
  ⟨.GCTL_TWIN_CFG, 0x28, [], false, 0x1f4, [⟨15, 0, .rwl⟩]⟩]

/-- Registers of BRN. -/
def regsBRN : List RegDesc := [
  ⟨.BRN_CTL, 0x200000, [(0x10000, 8)], false, 0x0, [⟨31, 31, .w1s⟩, ⟨1, 1, .wo⟩, ⟨0, 0, .rwl⟩]⟩,
  ⟨.BRN_STAT, 0x200004, [(0x10000, 8)], false, 0x0, [⟨22, 16, .ro⟩, ⟨10, 10, .w1c⟩, ⟨9, 9, .w1c⟩, ⟨8, 8, .w1c⟩, ⟨1, 1, .ro⟩, ⟨0, 0, .ro⟩]⟩,
  ⟨.BRN_ECC_CNT, 0x200008, [(0x10000, 8)], false, 0x0, [⟨31, 16, .ro⟩, ⟨15, 0, .ro⟩]⟩,
  ⟨.BRN_ECC_ADDR, 0x20000c, [(0x10000, 8)], false, 0x0, [⟨31, 31, .w1c⟩, ⟨25, 25, .ro⟩, ⟨24, 24, .ro⟩, ⟨23, 20, .ro⟩, ⟨18, 0, .ro⟩]⟩,
  ⟨.BRN_ENG_DIS, 0x200010, [(0x10000, 8)], false, 0x0, [⟨15, 0, .rwl⟩]⟩,
  ⟨.BRN_THR_CTL, 0x200100, [(0x10000, 8), (0x10, 16), (0x4, 4)], false, 0x0, [⟨12, 8, .rw⟩, ⟨0, 0, .rw⟩]⟩,
  ⟨.BRN_THR_PC, 0x200200, [(0x10000, 8), (0x10, 16), (0x4, 4)], false, 0x0, [⟨20, 2, .rw⟩]⟩,
  ⟨.BRN_THR_STAT, 0x200300, [(0x10000, 8), (0x10, 16), (0x4, 4)], false, 0x0, [⟨19, 16, .ro⟩, ⟨8, 4, .ro⟩, ⟨3, 3, .ro⟩, ⟨2, 0, .ro⟩]⟩,
  ⟨.BRN_CS_ADDR, 0x280000, [], false, 0x0, [⟨20, 2, .rw⟩]⟩,
  ⟨.BRN_CS_DATA, 0x280004, [], false, 0x0, [⟨31, 0, .rw⟩]⟩,
  ⟨.BRN_CS_CTL, 0x280008, [], false, 0x0, [⟨31, 31, .w1s⟩, ⟨2, 2, .ro⟩, ⟨1, 1, .wo⟩, ⟨0, 0, .rwl⟩]⟩,
  ⟨.BRN_HOST_BASE, 0x280010, [], false, 0x0, [⟨25, 0, .rwl⟩]⟩,
  ⟨.BRN_PAD_CTL, 0x280100, [(0x4, 32)], false, 0x0, [⟨20, 8, .rwl⟩, ⟨1, 1, .rwl⟩, ⟨0, 0, .rwl⟩]⟩,
  ⟨.BRN_PAD_GCTL, 0x280014, [], false, 0x3e800fa, [⟨31, 16, .rwl⟩, ⟨15, 0, .rwl⟩]⟩,
  ⟨.BRN_PAD_MODE, 0x280200, [(0x4, 32)], false, 0x100000, [⟨23, 20, .rwl⟩, ⟨10, 8, .rwl⟩, ⟨2, 2, .rwl⟩, ⟨1, 1, .rwl⟩, ⟨0, 0, .rwl⟩]⟩,
  ⟨.BRN_PAD_LEN, 0x280280, [(0x4, 32)], false, 0xf4240, [⟨31, 0, .rwl⟩]⟩,
  ⟨.BRN_PAD_PHASE, 0x280300, [(0x4, 32)], false, 0x0, [⟨31, 0, .rwl⟩]⟩,
  ⟨.BRN_PAD_STAT, 0x280380, [(0x4, 32)], false, 0x0, [⟨31, 31, .w1c⟩, ⟨20, 16, .w1c⟩, ⟨10, 10, .w1c⟩, ⟨3, 3, .ro⟩, ⟨2, 2, .ro⟩]⟩,
  ⟨.BRN_PAD_BUD, 0x280400, [(0x20, 32), (0x4, 5)], false, 0xffffffff, [⟨31, 0, .rw⟩]⟩,
  ⟨.BRN_PAD_LEFT, 0x280800, [(0x20, 32), (0x4, 5)], false, 0x0, [⟨31, 0, .ro⟩]⟩,
  ⟨.BRN_PAD_EXH, 0x280c00, [(0x20, 32), (0x4, 5)], false, 0x0, [⟨31, 0, .ro⟩]⟩]

/-- Registers of TBU. -/
def regsTBU : List RegDesc := [
  ⟨.TBU_CTL, 0x50000, [], false, 0x0, [⟨31, 31, .w1s⟩, ⟨15, 8, .ro⟩, ⟨1, 1, .ro⟩, ⟨0, 0, .wo⟩]⟩,
  ⟨.TBU_LEAD, 0x50004, [], false, 0x40, [⟨9, 0, .rwl⟩]⟩,
  ⟨.TBU_JUMP_LIMIT, 0x50008, [], false, 0xf4240, [⟨31, 0, .rwl⟩]⟩,
  ⟨.TBU_SLEW_RATE, 0x5000c, [], false, 0x83126f, [⟨31, 0, .rwl⟩]⟩,
  ⟨.TBU_ACT_STAT, 0x50010, [], false, 0x0, [⟨17, 17, .w1c⟩, ⟨16, 16, .w1c⟩, ⟨11, 0, .ro⟩]⟩,
  ⟨.TBU_ACT_CNT, 0x50014, [], false, 0x0, [⟨31, 16, .ro⟩, ⟨15, 0, .ro⟩]⟩,
  ⟨.TBU_SNAP_VAL, 0x50100, [(0x20, 8), (0x4, 5)], false, 0x0, [⟨31, 0, .ro⟩]⟩,
  ⟨.TBU_PHY_DLY, 0x50800, [(0x4, 8)], false, 0x0, [⟨31, 16, .rw⟩, ⟨15, 0, .rw⟩]⟩,
  ⟨.TBU_PORT_TS, 0x50820, [(0x4, 8)], false, 0x0, [⟨2, 0, .rw⟩]⟩,
  ⟨.TBU_DOM_CTL, 0x51000, [(0x100, 8)], false, 0x0, [⟨12, 12, .rwl⟩, ⟨10, 8, .rwl⟩, ⟨6, 4, .rwl⟩, ⟨1, 1, .rwl⟩, ⟨0, 0, .rwl⟩]⟩,
  ⟨.TBU_DOM_STAT, 0x51004, [(0x100, 8)], false, 0x0, [⟨31, 16, .ro⟩, ⟨15, 15, .w1c⟩, ⟨14, 14, .w1c⟩, ⟨13, 13, .w1c⟩, ⟨12, 12, .w1c⟩, ⟨11, 11, .w1c⟩, ⟨10, 10, .w1c⟩, ⟨4, 4, .ro⟩, ⟨3, 3, .ro⟩, ⟨2, 0, .ro⟩]⟩,
  ⟨.TBU_DOM_INCR_LO, 0x51008, [(0x100, 8)], false, 0x0, [⟨31, 0, .rw⟩]⟩,
  ⟨.TBU_DOM_INCR_HI, 0x5100c, [(0x100, 8)], false, 0x0, [⟨7, 0, .rw⟩]⟩,
  ⟨.TBU_DOM_STEP_S, 0x51010, [(0x100, 8)], false, 0x0, [⟨31, 0, .rw⟩]⟩,
  ⟨.TBU_DOM_STEP_NS, 0x51014, [(0x100, 8)], false, 0x0, [⟨31, 0, .rw⟩]⟩,
  ⟨.TBU_DOM_CMD, 0x51018, [(0x100, 8)], false, 0x0, [⟨1, 1, .wo⟩, ⟨0, 0, .wo⟩]⟩,
  ⟨.TBU_COORD_CFG, 0x51020, [(0x100, 8)], false, 0x32123fa, [⟨27, 20, .rwl⟩, ⟨19, 16, .rwl⟩, ⟨15, 12, .rwl⟩, ⟨11, 8, .rwl⟩, ⟨7, 0, .rwl⟩]⟩,
  ⟨.TBU_COORD_PMIN, 0x51024, [(0x100, 8)], false, 0x3ab00a, [⟨31, 0, .rwl⟩]⟩,
  ⟨.TBU_COORD_PMAX, 0x51028, [(0x100, 8)], false, 0x54c564, [⟨31, 0, .rwl⟩]⟩,
  ⟨.TBU_COORD_ENC, 0x5102c, [(0x100, 8)], false, 0x0, [⟨16, 16, .rwl⟩, ⟨15, 0, .rwl⟩]⟩,
  ⟨.TBU_COORD_SYN, 0x51030, [(0x100, 8)], false, 0x10001, [⟨31, 16, .rwl⟩, ⟨15, 0, .rwl⟩]⟩,
  ⟨.TBU_COORD_ERR, 0x51034, [(0x100, 8)], false, 0x0, [⟨31, 0, .ro⟩]⟩,
  ⟨.TBU_COORD_CNT, 0x51038, [(0x100, 8)], false, 0x0, [⟨31, 16, .ro⟩, ⟨15, 0, .ro⟩]⟩,
  ⟨.TBU_CAP_CTL, 0x52000, [(0x40, 8)], false, 0x2, [⟨16, 16, .rw⟩, ⟨15, 8, .rw⟩, ⟨6, 4, .rw⟩, ⟨2, 1, .rw⟩, ⟨0, 0, .rw⟩]⟩,
  ⟨.TBU_CAP_Q, 0x52004, [(0x40, 8)], false, 0x0, [⟨15, 0, .rw⟩]⟩,
  ⟨.TBU_CAP_STAT, 0x52008, [(0x40, 8)], false, 0x0, [⟨31, 16, .ro⟩, ⟨8, 8, .w1c⟩, ⟨4, 0, .ro⟩]⟩,
  ⟨.TBU_CAP_HEAD, 0x5200c, [(0x40, 8)], false, 0x0, [⟨31, 31, .ro⟩, ⟨7, 0, .ro⟩]⟩,
  ⟨.TBU_CAP_W, 0x52010, [(0x40, 8), (0x4, 8)], false, 0x0, [⟨31, 0, .ro⟩]⟩,
  ⟨.TBU_CAP_POP, 0x52030, [(0x40, 8)], false, 0x0, [⟨7, 0, .wo⟩]⟩,
  ⟨.TBU_TOUT_CTL, 0x53000, [(0x20, 8)], false, 0x0, [⟨9, 9, .ro⟩, ⟨8, 8, .rw⟩, ⟨6, 4, .rw⟩, ⟨1, 0, .rw⟩]⟩,
  ⟨.TBU_TOUT_PER, 0x53004, [(0x20, 8)], false, 0x3b9aca00, [⟨31, 0, .rw⟩]⟩,
  ⟨.TBU_TOUT_PHASE, 0x53008, [(0x20, 8)], false, 0x0, [⟨31, 0, .rw⟩]⟩,
  ⟨.TBU_TOUT_WID, 0x5300c, [(0x20, 8)], false, 0x5f5e100, [⟨31, 0, .rw⟩]⟩]

/-- Registers of LFT. -/
def regsLFT : List RegDesc := [
  ⟨.LFT_CTL, 0x180000, [], false, 0x0, [⟨31, 31, .w1s⟩, ⟨4, 4, .rw⟩, ⟨3, 3, .rw⟩, ⟨2, 2, .wo⟩, ⟨1, 1, .wo⟩, ⟨0, 0, .rw⟩]⟩,
  ⟨.LFT_STAT, 0x180004, [], false, 0x0, [⟨31, 31, .w1c⟩, ⟨30, 30, .w1c⟩, ⟨29, 29, .w1c⟩, ⟨28, 28, .w1c⟩, ⟨7, 7, .ro⟩, ⟨6, 6, .ro⟩, ⟨5, 5, .ro⟩, ⟨4, 4, .ro⟩, ⟨3, 3, .ro⟩, ⟨2, 2, .ro⟩, ⟨1, 1, .ro⟩, ⟨0, 0, .ro⟩]⟩,
  ⟨.LFT_CFG, 0x180008, [], false, 0x19, [⟨4, 0, .rwl⟩]⟩,
  ⟨.LFT_LOFT_BASE, 0x18000c, [], false, 0x0, [⟨31, 26, .rwl⟩]⟩,
  ⟨.LFT_AUX_BASE, 0x180010, [], false, 0x80000000, [⟨31, 27, .rwl⟩]⟩,
  ⟨.LFT_SEAL_CFG, 0x180014, [], false, 0x186a0, [⟨23, 0, .rwl⟩]⟩,
  ⟨.LFT_LEASE, 0x180018, [], false, 0xc350, [⟨15, 0, .rwl⟩]⟩,
  ⟨.LFT_EPOCH_LO, 0x18001c, [], false, 0x0, [⟨31, 0, .ro⟩]⟩,
  ⟨.LFT_EPOCH_HI, 0x180020, [], false, 0x0, [⟨7, 0, .ro⟩]⟩,
  ⟨.LFT_SEAL_LAG, 0x180024, [], false, 0x0, [⟨31, 16, .ro⟩, ⟨15, 0, .ro⟩]⟩,
  ⟨.LFT_OCC, 0x180028, [], false, 0x0, [⟨26, 16, .ro⟩, ⟨12, 0, .ro⟩]⟩,
  ⟨.LFT_HOLD_STAT, 0x18002c, [], false, 0x0, [⟨19, 0, .ro⟩]⟩,
  ⟨.LFT_CNT_COMMIT, 0x180030, [], false, 0x0, [⟨31, 0, .ro⟩]⟩,
  ⟨.LFT_CNT_CONFLICT, 0x180034, [], false, 0x0, [⟨31, 0, .ro⟩]⟩,
  ⟨.LFT_CNT_BROKEN, 0x180038, [], false, 0x0, [⟨31, 0, .ro⟩]⟩,
  ⟨.LFT_CNT_ABORT, 0x18003c, [], false, 0x0, [⟨31, 0, .ro⟩]⟩,
  ⟨.LFT_MAP_STAT, 0x180040, [], false, 0x1, [⟨31, 16, .ro⟩, ⟨0, 0, .ro⟩]⟩,
  ⟨.LFT_SWP_CTL, 0x180100, [(0x40, 2)], false, 0x0, [⟨1, 1, .wo⟩, ⟨0, 0, .wo⟩]⟩,
  ⟨.LFT_SWP_Q, 0x180104, [(0x40, 2)], false, 0x0, [⟨15, 0, .rw⟩]⟩,
  ⟨.LFT_SWP_STAT, 0x180108, [(0x40, 2)], false, 0x0, [⟨31, 31, .ro⟩, ⟨23, 16, .ro⟩, ⟨15, 8, .ro⟩, ⟨1, 0, .ro⟩]⟩,
  ⟨.LFT_SWP_EPOCH_LO, 0x18010c, [(0x40, 2)], false, 0x0, [⟨31, 0, .ro⟩]⟩,
  ⟨.LFT_SWP_EPOCH_HI, 0x180110, [(0x40, 2)], false, 0x0, [⟨7, 0, .ro⟩]⟩,
  ⟨.LFT_SWP_CURSOR, 0x180114, [(0x40, 2)], false, 0x0, [⟨25, 0, .ro⟩]⟩,
  ⟨.LFT_SWP_PUSHED, 0x180118, [(0x40, 2)], false, 0x0, [⟨31, 0, .ro⟩]⟩,
  ⟨.LFT_SWP_EMITTED, 0x18011c, [(0x40, 2)], false, 0x0, [⟨31, 0, .ro⟩]⟩,
  ⟨.LFT_HVIEW_BASE, 0x180400, [(0x20, 16)], false, 0x0, [⟨9, 0, .rw⟩]⟩,
  ⟨.LFT_HVIEW_CTL, 0x180404, [(0x20, 16)], false, 0x0, [⟨1, 1, .wo⟩, ⟨0, 0, .wo⟩]⟩,
  ⟨.LFT_HVIEW_STAT, 0x180408, [(0x20, 16)], false, 0x0, [⟨31, 31, .ro⟩, ⟨30, 30, .ro⟩, ⟨7, 0, .ro⟩]⟩,
  ⟨.LFT_HVIEW_EPOCH_LO, 0x18040c, [(0x20, 16)], false, 0x0, [⟨31, 0, .ro⟩]⟩,
  ⟨.LFT_HVIEW_EPOCH_HI, 0x180410, [(0x20, 16)], false, 0x0, [⟨7, 0, .ro⟩]⟩,
  ⟨.LFT_HVIEW_LEFT, 0x180414, [(0x20, 16)], false, 0x0, [⟨15, 0, .ro⟩]⟩,
  ⟨.LFT_MAP_CTL, 0x181000, [(0x8, 1024)], false, 0x5, [⟨15, 8, .ro⟩, ⟨2, 2, .rw⟩, ⟨1, 1, .rw⟩, ⟨0, 0, .rw⟩]⟩,
  ⟨.LFT_MAP_PAD, 0x181004, [(0x8, 1024)], false, 0xffffffff, [⟨31, 0, .rw⟩]⟩]

/-- Registers of ETH. -/
def regsETH : List RegDesc := [
  ⟨.ETH_GCTL, 0x90000, [], false, 0x0, [⟨31, 31, .w1s⟩]⟩,
  ⟨.ETH_CTL, 0x80000, [(0x2000, 8)], false, 0x100, [⟨9, 8, .rw⟩, ⟨7, 7, .rw⟩, ⟨6, 6, .rw⟩, ⟨5, 5, .rw⟩, ⟨4, 4, .wo⟩, ⟨3, 3, .wo⟩, ⟨2, 2, .rw⟩, ⟨1, 1, .rw⟩, ⟨0, 0, .rw⟩]⟩,
  ⟨.ETH_MODE, 0x80004, [(0x2000, 8)], false, 0x100, [⟨11, 11, .rwl⟩, ⟨10, 10, .rwl⟩, ⟨9, 9, .rwl⟩, ⟨8, 8, .rwl⟩, ⟨6, 4, .rwl⟩, ⟨2, 0, .rwl⟩]⟩,
  ⟨.ETH_STAT, 0x80008, [(0x2000, 8)], false, 0x0, [⟨31, 31, .w1c⟩, ⟨11, 11, .ro⟩, ⟨10, 10, .ro⟩, ⟨9, 9, .ro⟩, ⟨8, 8, .ro⟩, ⟨7, 7, .ro⟩, ⟨6, 4, .ro⟩, ⟨3, 3, .ro⟩, ⟨0, 0, .ro⟩]⟩,
  ⟨.ETH_MAXLEN, 0x8000c, [(0x2000, 8)], false, 0x5ee, [⟨13, 0, .rwl⟩]⟩,
  ⟨.ETH_ERR_DST, 0x80010, [(0x2000, 8)], false, 0x0, [⟨31, 31, .rw⟩, ⟨8, 0, .rw⟩]⟩,
  ⟨.ETH_FC_CFG, 0x80014, [(0x2000, 8)], false, 0xffff0000, [⟨31, 16, .rw⟩, ⟨10, 8, .rw⟩, ⟨2, 2, .rw⟩, ⟨1, 0, .rw⟩]⟩,
  ⟨.ETH_FC_WM, 0x80018, [(0x2000, 8)], false, 0x1000080, [⟨31, 16, .rw⟩, ⟨15, 0, .rw⟩]⟩,
  ⟨.ETH_PFC_WM, 0x80040, [(0x2000, 8), (0x4, 8)], false, 0x1000080, [⟨31, 16, .rw⟩, ⟨15, 0, .rw⟩]⟩,
  ⟨.ETH_FC_STAT, 0x8001c, [(0x2000, 8)], false, 0x0, [⟨31, 24, .ro⟩, ⟨23, 16, .ro⟩, ⟨1, 1, .ro⟩, ⟨0, 0, .ro⟩]⟩,
  ⟨.ETH_MAC_LO, 0x80020, [(0x2000, 8)], false, 0x0, [⟨31, 0, .rw⟩]⟩,
  ⟨.ETH_MAC_HI, 0x80024, [(0x2000, 8)], false, 0x0, [⟨15, 0, .rw⟩]⟩,
  ⟨.ETH_PRE_CFG, 0x80028, [(0x2000, 8)], false, 0xa0000, [⟨31, 24, .rw⟩, ⟨23, 16, .rw⟩, ⟨5, 4, .rw⟩, ⟨1, 1, .rw⟩, ⟨0, 0, .rw⟩]⟩,
  ⟨.ETH_PRE_STAT, 0x8002c, [(0x2000, 8)], false, 0x0, [⟨9, 8, .ro⟩, ⟨6, 6, .ro⟩, ⟨5, 5, .ro⟩, ⟨2, 0, .ro⟩]⟩,
  ⟨.ETH_TSQ_CFG, 0x80030, [(0x2000, 8)], false, 0x3e8, [⟨15, 0, .rw⟩]⟩,
  ⟨.ETH_TSQ_STAT, 0x80034, [(0x2000, 8)], false, 0x0, [⟨22, 16, .ro⟩, ⟨15, 0, .ro⟩]⟩,
  ⟨.ETH_INT_STAT, 0x80038, [(0x2000, 8)], false, 0x0, [⟨5, 5, .ro⟩, ⟨4, 4, .w1c⟩, ⟨3, 3, .w1c⟩, ⟨2, 2, .w1c⟩, ⟨1, 1, .w1c⟩, ⟨0, 0, .w1c⟩]⟩,
  ⟨.ETH_INT_EN, 0x8003c, [(0x2000, 8)], false, 0x0, [⟨5, 5, .rw⟩, ⟨4, 4, .rw⟩, ⟨3, 3, .rw⟩, ⟨2, 2, .rw⟩, ⟨1, 1, .rw⟩, ⟨0, 0, .rw⟩]⟩,
  ⟨.ETH_HALF_STAT, 0x80060, [(0x2000, 8), (0x4, 2)], false, 0x0, [⟨31, 0, .w1c⟩]⟩,
  ⟨.ETH_HALF_EN, 0x80068, [(0x2000, 8), (0x4, 2)], false, 0x0, [⟨31, 0, .rw⟩]⟩,
  ⟨.ETH_CNT_LO, 0x80400, [(0x2000, 8), (0x8, 49)], false, 0x0, [⟨31, 0, .ro⟩]⟩,
  ⟨.ETH_CNT_HI, 0x80404, [(0x2000, 8), (0x8, 49)], false, 0x0, [⟨7, 0, .ro⟩]⟩]

/-- Registers of YRD. -/
def regsYRD : List RegDesc := [
  ⟨.YRD_CTL, 0xa0000, [], false, 0x0, [⟨31, 31, .w1s⟩, ⟨1, 1, .wo⟩, ⟨0, 0, .rw⟩]⟩,
  ⟨.YRD_STAT, 0xa0004, [], false, 0x0, [⟨31, 31, .w1c⟩, ⟨30, 30, .w1c⟩, ⟨17, 17, .ro⟩, ⟨16, 16, .ro⟩, ⟨15, 0, .ro⟩]⟩,
  ⟨.YRD_POOL, 0xa0008, [], false, 0x40000400, [⟨31, 24, .rwl⟩, ⟨15, 0, .rwl⟩]⟩,
  ⟨.YRD_FREE, 0xa000c, [], false, 0x73007300, [⟨31, 16, .ro⟩, ⟨15, 0, .ro⟩]⟩,
  ⟨.YRD_HASH_SEED, 0xa0010, [], false, 0xffffffff, [⟨31, 0, .rwl⟩]⟩,
  ⟨.YRD_FT_STAT, 0xa0014, [], false, 0x3, [⟨31, 16, .ro⟩, ⟨15, 8, .ro⟩, ⟨1, 1, .ro⟩, ⟨0, 0, .ro⟩]⟩,
  ⟨.YRD_FT_KEY, 0xa0020, [(0x4, 4)], false, 0x0, [⟨31, 0, .rw⟩]⟩,
  ⟨.YRD_FT_ACT, 0xa0030, [], false, 0x0, [⟨31, 31, .rw⟩, ⟨30, 28, .rw⟩, ⟨27, 24, .rw⟩, ⟨23, 16, .rw⟩, ⟨15, 15, .rw⟩, ⟨14, 12, .rw⟩, ⟨11, 8, .rw⟩, ⟨7, 7, .rw⟩]⟩,
  ⟨.YRD_FT_ACT2, 0xa0034, [], false, 0x0, [⟨31, 31, .rw⟩, ⟨29, 16, .rw⟩, ⟨15, 15, .rw⟩, ⟨11, 0, .rw⟩]⟩,
  ⟨.YRD_FT_CMD, 0xa0038, [], false, 0x0, [⟨31, 30, .wo⟩, ⟨29, 29, .ro⟩, ⟨15, 0, .wo⟩]⟩,
  ⟨.YRD_FT_RES, 0xa003c, [], false, 0x0, [⟨31, 31, .ro⟩, ⟨30, 28, .ro⟩, ⟨23, 16, .ro⟩, ⟨15, 0, .ro⟩]⟩,
  ⟨.YRD_FT_IDX, 0xa0040, [], false, 0x0, [⟨15, 0, .ro⟩]⟩,
  ⟨.YRD_PIN_HOLD, 0xa0044, [], false, 0x0, [⟨15, 0, .ro⟩]⟩,
  ⟨.YRD_PORT_CFG, 0xa0100, [(0x4, 10)], true, 0x1000080, [⟨31, 16, .rwl⟩, ⟨15, 12, .rwl⟩, ⟨11, 10, .rwl⟩, ⟨9, 8, .rwl⟩, ⟨7, 7, .rwl⟩, ⟨6, 4, .rwl⟩]⟩,
  ⟨.YRD_PORT_OCC, 0xa0140, [(0x4, 10)], true, 0x0, [⟨15, 0, .ro⟩]⟩,
  ⟨.YRD_QLIM, 0xa0400, [(0x20, 10), (0x4, 8)], true, 0x1000, [⟨15, 0, .rw⟩]⟩,
  ⟨.YRD_QOCC, 0xa0600, [(0x20, 10), (0x4, 8)], true, 0x0, [⟨15, 0, .ro⟩]⟩,
  ⟨.YRD_AGE, 0xa0800, [(0x4, 8)], false, 0x0, [⟨23, 0, .rw⟩]⟩,
  ⟨.YRD_PGRP, 0xa0840, [(0x4, 16)], false, 0x0, [⟨19, 16, .rw⟩, ⟨9, 0, .rw⟩]⟩,
  ⟨.YRD_AGG, 0xa0880, [(0x4, 4)], false, 0x0, [⟨7, 0, .rw⟩]⟩,
  ⟨.YRD_SMP, 0xa0900, [(0x8, 16)], false, 0x8000, [⟨31, 16, .rw⟩, ⟨15, 8, .rw⟩]⟩,
  ⟨.YRD_SMP_DST, 0xa0904, [(0x8, 16)], false, 0x0, [⟨8, 0, .rw⟩]⟩,
  ⟨.YRD_PIN, 0xa1000, [(0x4, 1024)], false, 0x0, [⟨8, 0, .rw⟩]⟩,
  ⟨.YRD_MCG, 0xa2000, [(0x4, 256)], false, 0x0, [⟨9, 0, .rw⟩]⟩,
  ⟨.YRD_CNT_MISS, 0xa3000, [(0x4, 10)], true, 0x0, [⟨31, 0, .ro⟩]⟩,
  ⟨.YRD_CNT_DROP, 0xa3040, [(0x4, 10)], true, 0x0, [⟨31, 0, .ro⟩]⟩,
  ⟨.YRD_CNT_QFULL, 0xa3080, [(0x4, 10)], true, 0x0, [⟨31, 0, .ro⟩]⟩,
  ⟨.YRD_CNT_AGED, 0xa30c0, [(0x4, 10)], true, 0x0, [⟨31, 0, .ro⟩]⟩,
  ⟨.YRD_CNT_FLUSH, 0xa3100, [(0x4, 10)], true, 0x0, [⟨31, 0, .ro⟩]⟩,
  ⟨.YRD_CNT_SMP_DROP, 0xa3140, [(0x4, 16)], false, 0x0, [⟨31, 0, .ro⟩]⟩,
  ⟨.YRD_CNT_NOTOKEN, 0xa3180, [], false, 0x0, [⟨31, 0, .ro⟩]⟩,
  ⟨.YRD_CNT_P8_FULL, 0xa3184, [], false, 0x0, [⟨31, 0, .ro⟩]⟩,
  ⟨.YRD_CNT_RESET_DROP, 0xa3188, [], false, 0x0, [⟨31, 0, .ro⟩]⟩,
  ⟨.YRD_CNT_LINK_ERR, 0xa318c, [], false, 0x0, [⟨31, 0, .ro⟩]⟩]

/-- Registers of SCH. -/
def regsSCH : List RegDesc := [
  ⟨.SCH_CTL, 0xc0000, [], false, 0x0, [⟨31, 31, .w1s⟩, ⟨1, 1, .wo⟩, ⟨0, 0, .rw⟩]⟩,
  ⟨.SCH_STAT, 0xc0004, [], false, 0x0, [⟨31, 31, .w1c⟩, ⟨30, 30, .w1c⟩, ⟨0, 0, .ro⟩]⟩,
  ⟨.SCH_FQ_SEL, 0xc0010, [], false, 0x0, [⟨31, 31, .ro⟩, ⟨13, 0, .rw⟩]⟩,
  ⟨.SCH_FQ_INFO, 0xc0014, [], false, 0x0, [⟨31, 31, .ro⟩, ⟨30, 30, .ro⟩, ⟨15, 0, .ro⟩]⟩,
  ⟨.SCH_FQ_DEF, 0xc0018, [], false, 0x0, [⟨19, 0, .ro⟩]⟩,
  ⟨.SCH_SHP_SEL, 0xc001c, [], false, 0x0, [⟨31, 31, .ro⟩, ⟨10, 0, .rw⟩]⟩,
  ⟨.SCH_SHP_CB, 0xc0020, [], false, 0x0, [⟨31, 0, .ro⟩]⟩,
  ⟨.SCH_SHP_EB, 0xc0024, [], false, 0x0, [⟨31, 0, .ro⟩]⟩,
  ⟨.SCH_PORT_CFG, 0xc0100, [(0x40, 10)], true, 0x60, [⟨8, 8, .rwl⟩, ⟨6, 4, .rwl⟩, ⟨0, 0, .rwl⟩]⟩,
  ⟨.SCH_PORT_GB, 0xc0104, [(0x40, 10)], true, 0x4b00000, [⟨31, 16, .rw⟩, ⟨15, 0, .rw⟩]⟩,
  ⟨.SCH_GCL_CTL, 0xc0108, [(0x40, 10)], true, 0xff00, [⟨31, 31, .wo⟩, ⟨30, 30, .wo⟩, ⟨15, 8, .rw⟩, ⟨0, 0, .rw⟩]⟩,
  ⟨.SCH_GCL_STAT, 0xc010c, [(0x40, 10)], true, 0x0, [⟨31, 31, .ro⟩, ⟨30, 28, .ro⟩, ⟨23, 16, .ro⟩, ⟨15, 15, .ro⟩, ⟨14, 14, .ro⟩, ⟨13, 13, .ro⟩, ⟨12, 12, .w1c⟩, ⟨11, 11, .ro⟩, ⟨10, 10, .ro⟩, ⟨9, 0, .ro⟩]⟩,
  ⟨.SCH_GCL_ADM_CFG, 0xc0110, [(0x40, 10)], true, 0x0, [⟨18, 16, .rw⟩, ⟨10, 0, .rw⟩]⟩,
  ⟨.SCH_GCL_OPR_CFG, 0xc0120, [(0x40, 10)], true, 0x0, [⟨18, 16, .ro⟩, ⟨10, 0, .ro⟩]⟩,
  ⟨.SCH_GCL_ADM_BASE_LO, 0xc0114, [(0x40, 10)], true, 0x0, [⟨31, 0, .rw⟩]⟩,
  ⟨.SCH_GCL_ADM_BASE_HI, 0xc0118, [(0x40, 10)], true, 0x0, [⟨31, 0, .rw⟩]⟩,
  ⟨.SCH_GCL_OPR_BASE_LO, 0xc0124, [(0x40, 10)], true, 0x0, [⟨31, 0, .ro⟩]⟩,
  ⟨.SCH_GCL_OPR_BASE_HI, 0xc0128, [(0x40, 10)], true, 0x0, [⟨31, 0, .ro⟩]⟩,
  ⟨.SCH_GCL_ADM_CYCLE, 0xc011c, [(0x40, 10)], true, 0x0, [⟨31, 0, .rw⟩]⟩,
  ⟨.SCH_GCL_OPR_CYCLE, 0xc012c, [(0x40, 10)], true, 0x0, [⟨31, 0, .ro⟩]⟩,
  ⟨.SCH_GATE_STAT, 0xc0130, [(0x40, 10)], true, 0xff, [⟨15, 8, .ro⟩, ⟨7, 0, .ro⟩]⟩,
  ⟨.SCH_CNT_OVERRUN, 0xc0134, [(0x40, 10)], true, 0x0, [⟨31, 0, .ro⟩]⟩,
  ⟨.SCH_CNT_TOOBIG, 0xc0138, [(0x40, 10)], true, 0x0, [⟨31, 0, .ro⟩]⟩,
  ⟨.SCH_CNT_FQ_MISMATCH, 0xc013c, [(0x40, 10)], true, 0x0, [⟨31, 0, .ro⟩]⟩,
  ⟨.SCH_CLS_CFG, 0xc1000, [(0x40, 10), (0x4, 8)], true, 0x10000019, [⟨31, 28, .rw⟩, ⟨27, 27, .rw⟩, ⟨26, 16, .rw⟩, ⟨15, 0, .rw⟩]⟩,
  ⟨.SCH_CLS_STAT, 0xc1020, [(0x40, 10), (0x4, 8)], true, 0x0, [⟨30, 16, .ro⟩]⟩,
  ⟨.SCH_SHP_CIR, 0xc8000, [(0x10, 2048)], false, 0x0, [⟨31, 0, .rw⟩]⟩,
  ⟨.SCH_SHP_EIR, 0xc8004, [(0x10, 2048)], false, 0x0, [⟨31, 0, .rw⟩]⟩,
  ⟨.SCH_SHP_BURST, 0xc8008, [(0x10, 2048)], false, 0x180018, [⟨31, 16, .rw⟩, ⟨15, 0, .rw⟩]⟩,
  ⟨.SCH_SHP_CTL, 0xc800c, [(0x10, 2048)], false, 0x40000000, [⟨31, 31, .wo⟩, ⟨30, 30, .rw⟩, ⟨29, 28, .rw⟩]⟩,
  ⟨.SCH_GCL_ENTRY, 0xd0000, [(0x4000, 8), (0x8, 2048)], false, 0xff, [⟨9, 8, .rw⟩, ⟨7, 0, .rw⟩]⟩,
  ⟨.SCH_GCL_IVL, 0xd0004, [(0x4000, 8), (0x8, 2048)], false, 0x0, [⟨31, 0, .rw⟩]⟩,
  ⟨.SCH_FQ_CFG, 0xf0000, [(0x4, 16384)], false, 0x19, [⟨31, 31, .rw⟩, ⟨30, 27, .rw⟩, ⟨26, 24, .rw⟩, ⟨23, 23, .rw⟩, ⟨22, 12, .rw⟩, ⟨11, 0, .rw⟩]⟩]

/-- Registers of RED. -/
def regsRED : List RegDesc := [
  ⟨.RED_CTL, 0x100000, [], false, 0x0, [⟨31, 31, .w1s⟩, ⟨4, 4, .wo⟩, ⟨3, 3, .wo⟩, ⟨1, 1, .wo⟩, ⟨0, 0, .rw⟩]⟩,
  ⟨.RED_TWIN_CFG, 0x100004, [], false, 0x41a, [⟨10, 10, .rwl⟩, ⟨9, 8, .rwl⟩, ⟨7, 4, .rwl⟩, ⟨3, 3, .rwl⟩, ⟨2, 1, .rwl⟩, ⟨0, 0, .rwl⟩]⟩,
  ⟨.RED_ROLE, 0x100008, [], false, 0x0, [⟨31, 31, .w1c⟩, ⟨17, 17, .ro⟩, ⟨16, 16, .w1c⟩, ⟨14, 14, .ro⟩, ⟨13, 13, .ro⟩, ⟨12, 12, .ro⟩, ⟨11, 11, .w1c⟩, ⟨10, 10, .ro⟩, ⟨9, 9, .ro⟩, ⟨8, 8, .ro⟩, ⟨6, 4, .ro⟩, ⟨2, 0, .ro⟩]⟩,
  ⟨.RED_HB_CFG, 0x10000c, [], false, 0x303e8, [⟨17, 17, .rwl⟩, ⟨16, 16, .rwl⟩, ⟨13, 0, .rwl⟩]⟩,
  ⟨.RED_MIR_CFG, 0x100010, [], false, 0xbb84e20, [⟨31, 16, .rw⟩, ⟨15, 0, .rw⟩]⟩,
  ⟨.RED_GROOM_CFG, 0x100014, [], false, 0x640a001f, [⟨31, 24, .rwl⟩, ⟨23, 16, .rwl⟩, ⟨15, 8, .rwl⟩, ⟨4, 0, .rwl⟩]⟩,
  ⟨.RED_GROOM_SIG, 0x100018, [], false, 0x0, [⟨31, 0, .rwl⟩]⟩,
  ⟨.RED_GROOM_Q, 0x10001c, [], false, 0x0, [⟨15, 0, .rw⟩]⟩,
  ⟨.RED_GROOM_KRES, 0x100020, [], false, 0x0, [⟨31, 0, .wo⟩]⟩,
  ⟨.RED_GROOM_STAT, 0x100024, [], false, 0x0, [⟨31, 16, .ro⟩, ⟨4, 4, .ro⟩, ⟨3, 3, .ro⟩, ⟨2, 2, .ro⟩, ⟨1, 1, .ro⟩, ⟨0, 0, .ro⟩]⟩,
  ⟨.RED_SID_CFG, 0x100028, [], false, 0x0, [⟨7, 0, .rw⟩]⟩,
  ⟨.RED_CNT_HB_BAD, 0x100040, [], false, 0x0, [⟨31, 0, .ro⟩]⟩,
  ⟨.RED_CNT_MIR_TMO, 0x100044, [], false, 0x0, [⟨31, 0, .ro⟩]⟩,
  ⟨.RED_CNT_UNMATCHED, 0x100048, [], false, 0x0, [⟨31, 0, .ro⟩]⟩,
  ⟨.RED_CNT_ORPHAN, 0x10004c, [], false, 0x0, [⟨31, 0, .ro⟩]⟩,
  ⟨.RED_CNT_SURPLUS, 0x100050, [], false, 0x0, [⟨31, 0, .ro⟩]⟩,
  ⟨.RED_CNT_NOCLK, 0x100054, [], false, 0x0, [⟨31, 0, .ro⟩]⟩,
  ⟨.RED_CNT_EDGE, 0x100058, [], false, 0x0, [⟨31, 0, .ro⟩]⟩,
  ⟨.RED_CNT_DIG_MISMATCH, 0x10005c, [], false, 0x0, [⟨31, 0, .ro⟩]⟩,
  ⟨.RED_CNT_DIG_MISSING, 0x100060, [], false, 0x0, [⟨31, 0, .ro⟩]⟩,
  ⟨.RED_CNT_DIVERGED, 0x100064, [], false, 0x0, [⟨31, 0, .ro⟩]⟩,
  ⟨.RED_CNT_PROMOTE, 0x100068, [], false, 0x0, [⟨31, 0, .ro⟩]⟩,
  ⟨.RED_CLK_CFG, 0x100100, [(0x10, 4)], false, 0x0, [⟨31, 31, .rwl⟩, ⟨27, 8, .rwl⟩, ⟨2, 0, .rwl⟩]⟩,
  ⟨.RED_CLK_ANCHOR_LO, 0x100104, [(0x10, 4)], false, 0x0, [⟨31, 0, .rwl⟩]⟩,
  ⟨.RED_CLK_ANCHOR_HI, 0x100108, [(0x10, 4)], false, 0x0, [⟨31, 0, .rwl⟩]⟩,
  ⟨.RED_CLK_CYCLE, 0x10010c, [(0x10, 4)], false, 0x0, [⟨31, 0, .rwl⟩]⟩,
  ⟨.RED_HEALTH, 0x100200, [(0x4, 8)], false, 0x0, [⟨31, 0, .ro⟩]⟩,
  ⟨.RED_SEL, 0x100300, [], false, 0x0, [⟨31, 31, .ro⟩, ⟨11, 0, .rw⟩]⟩,
  ⟨.RED_SEL_GEN, 0x100304, [], false, 0x0, [⟨27, 16, .ro⟩, ⟨15, 0, .ro⟩]⟩,
  ⟨.RED_SEL_REC, 0x100308, [], false, 0x0, [⟨31, 31, .ro⟩, ⟨15, 0, .ro⟩]⟩,
  ⟨.RED_SEL_CNT, 0x100310, [(0x4, 6)], false, 0x0, [⟨31, 0, .ro⟩]⟩,
  ⟨.RED_SMAC_LO, 0x101000, [(0x10, 256)], false, 0x0, [⟨31, 0, .rw⟩]⟩,
  ⟨.RED_SMAC_HI, 0x101004, [(0x10, 256)], false, 0x0, [⟨31, 31, .rw⟩, ⟨28, 28, .rw⟩, ⟨27, 16, .rw⟩, ⟨15, 0, .rw⟩]⟩,
  ⟨.RED_SMAC_STR, 0x101008, [(0x10, 256)], false, 0x0, [⟨11, 0, .rw⟩]⟩,
  ⟨.RED_GEN_CFG, 0x104000, [(0x4, 4096)], false, 0x100100, [⟨31, 31, .rw⟩, ⟨30, 30, .rw⟩, ⟨29, 28, .rw⟩, ⟨27, 20, .rw⟩, ⟨19, 8, .rw⟩, ⟨0, 0, .rw⟩]⟩,
  ⟨.RED_REC_CFG, 0x108000, [(0x4, 4096)], false, 0x2003e8, [⟨31, 31, .rw⟩, ⟨23, 16, .rw⟩, ⟨15, 0, .rw⟩]⟩]

/-- Registers of VOX. -/
def regsVOX : List RegDesc := [
  ⟨.VOX_CTL, 0x110000, [], false, 0x0, [⟨31, 31, .w1s⟩, ⟨2, 2, .wo⟩, ⟨1, 0, .rw⟩]⟩,
  ⟨.VOX_RING_CFG, 0x110004, [], false, 0x0, [⟨5, 4, .rwl⟩, ⟨2, 2, .rwl⟩, ⟨1, 0, .rwl⟩]⟩,
  ⟨.VOX_Q_CFG, 0x110008, [], false, 0x0, [⟨31, 16, .rw⟩, ⟨15, 0, .rw⟩]⟩,
  ⟨.VOX_REPL_STAT, 0x11000c, [], false, 0x0, [⟨31, 31, .ro⟩, ⟨30, 30, .ro⟩, ⟨16, 0, .ro⟩]⟩,
  ⟨.VOX_LINK_STAT, 0x110010, [(0x10, 2)], false, 0x0, [⟨31, 31, .w1c⟩, ⟨9, 8, .ro⟩, ⟨3, 3, .ro⟩, ⟨2, 1, .ro⟩, ⟨0, 0, .ro⟩]⟩,
  ⟨.VOX_CNT_RETRY, 0x110014, [(0x10, 2)], false, 0x0, [⟨31, 0, .ro⟩]⟩,
  ⟨.VOX_CNT_CRC, 0x110018, [(0x10, 2)], false, 0x0, [⟨31, 0, .ro⟩]⟩,
  ⟨.VOX_CNT_DROP, 0x11001c, [(0x10, 2)], false, 0x0, [⟨31, 0, .ro⟩]⟩]

/-- Registers of ZTT. -/
def regsZTT : List RegDesc := [
  ⟨.ZTT_CTL, 0x120000, [], false, 0x0, [⟨31, 31, .w1s⟩, ⟨14, 12, .rwl⟩, ⟨10, 8, .rw⟩, ⟨4, 4, .wo⟩, ⟨1, 1, .wo⟩, ⟨0, 0, .rw⟩]⟩,
  ⟨.ZTT_CFG, 0x120004, [], false, 0x1c0042, [⟨31, 26, .rwl⟩, ⟨25, 25, .rwl⟩, ⟨24, 24, .rwl⟩, ⟨23, 21, .rwl⟩, ⟨20, 20, .rwl⟩, ⟨19, 18, .rwl⟩, ⟨17, 15, .rwl⟩, ⟨11, 4, .rwl⟩, ⟨3, 0, .rwl⟩]⟩,
  ⟨.ZTT_STAT, 0x120008, [], false, 0x0, [⟨31, 31, .w1c⟩, ⟨30, 30, .w1c⟩, ⟨15, 15, .ro⟩, ⟨14, 14, .ro⟩, ⟨13, 11, .ro⟩, ⟨10, 8, .ro⟩, ⟨7, 7, .ro⟩, ⟨2, 0, .ro⟩]⟩,
  ⟨.ZTT_CYCLE, 0x12000c, [], false, 0x0, [⟨31, 16, .ro⟩, ⟨14, 8, .ro⟩, ⟨5, 0, .ro⟩]⟩,
  ⟨.ZTT_TRIM, 0x120010, [], false, 0x0, [⟨15, 0, .rw⟩]⟩,
  ⟨.ZTT_BIT, 0x120014, [], false, 0xc8000, [⟨31, 0, .ro⟩]⟩,
  ⟨.ZTT_REF_CFG, 0x120018, [], false, 0x800, [⟨11, 8, .rw⟩, ⟨2, 0, .rw⟩]⟩,
  ⟨.ZTT_REF_W, 0x120020, [(0x4, 8)], false, 0x0, [⟨31, 0, .ro⟩]⟩,
  ⟨.ZTT_Q_CFG, 0x120040, [], false, 0x0, [⟨31, 16, .rw⟩, ⟨15, 0, .rw⟩]⟩,
  ⟨.ZTT_Q_EN, 0x120044, [], false, 0x0, [⟨0, 0, .rw⟩]⟩,
  ⟨.ZTT_INT_STAT, 0x120048, [], false, 0x0, [⟨6, 6, .w1c⟩, ⟨5, 5, .w1c⟩, ⟨4, 4, .w1c⟩, ⟨3, 3, .w1c⟩, ⟨2, 2, .w1c⟩, ⟨1, 1, .w1c⟩, ⟨0, 0, .w1c⟩]⟩,
  ⟨.ZTT_INT_EN, 0x12004c, [], false, 0x0, [⟨6, 6, .rw⟩, ⟨5, 5, .rw⟩, ⟨4, 4, .rw⟩, ⟨3, 3, .rw⟩, ⟨2, 2, .rw⟩, ⟨1, 1, .rw⟩, ⟨0, 0, .rw⟩]⟩,
  ⟨.ZTT_PRESENT, 0x120050, [(0x4, 2)], false, 0x0, [⟨31, 0, .ro⟩]⟩,
  ⟨.ZTT_POLL_GRP_LO, 0x120080, [(0x8, 8)], false, 0x0, [⟨31, 0, .rw⟩]⟩,
  ⟨.ZTT_POLL_GRP_HI, 0x120084, [(0x8, 8)], false, 0x0, [⟨31, 0, .rw⟩]⟩,
  ⟨.ZTT_POLL_TX, 0x1200c0, [(0x4, 8)], false, 0x0, [⟨31, 31, .rw⟩, ⟨8, 0, .rw⟩]⟩,
  ⟨.ZTT_MODE, 0x120100, [(0x8, 8)], false, 0x0, [⟨29, 24, .rws⟩, ⟨22, 16, .rws⟩, ⟨12, 0, .rws⟩]⟩,
  ⟨.ZTT_MODE_LEN, 0x120104, [(0x8, 8)], false, 0x0, [⟨15, 0, .rws⟩]⟩,
  ⟨.ZTT_CNT, 0x120200, [(0x20, 2), (0x4, 5)], false, 0x0, [⟨31, 0, .ro⟩]⟩,
  ⟨.ZTT_CNT_G, 0x120240, [(0x4, 11)], false, 0x0, [⟨31, 0, .ro⟩]⟩,
  ⟨.ZTT_NODE_MISS, 0x120400, [(0x4, 64)], false, 0x0, [⟨31, 16, .ro⟩, ⟨15, 0, .ro⟩]⟩,
  ⟨.ZTT_MB_CFG, 0x121000, [(0x10, 512)], false, 0x0, [⟨31, 31, .rw⟩, ⟨30, 30, .rw⟩, ⟨29, 29, .rw⟩, ⟨28, 28, .rw⟩, ⟨27, 20, .rw⟩]⟩,
  ⟨.ZTT_MB_STAT, 0x121004, [(0x10, 512)], false, 0x0, [⟨31, 31, .ro⟩, ⟨30, 30, .ro⟩, ⟨29, 29, .ro⟩, ⟨28, 28, .ro⟩, ⟨27, 22, .ro⟩, ⟨21, 16, .ro⟩, ⟨15, 8, .ro⟩, ⟨6, 0, .ro⟩]⟩,
  ⟨.ZTT_MB_CMD, 0x121008, [(0x10, 512)], false, 0x0, [⟨31, 31, .wo⟩, ⟨30, 30, .wo⟩, ⟨6, 0, .wo⟩]⟩,
  ⟨.ZTT_MB_INFO, 0x12100c, [(0x10, 512)], false, 0x0, [⟨31, 16, .ro⟩, ⟨15, 0, .ro⟩]⟩,
  ⟨.ZTT_MB_DATA, 0x128000, [(0x40, 512), (0x4, 16)], false, 0x0, [⟨31, 0, .rw⟩]⟩,
  ⟨.ZTT_WIN_TIME, 0x130000, [(0x8, 8192)], false, 0x0, [⟨31, 16, .rws⟩, ⟨15, 0, .rws⟩]⟩,
  ⟨.ZTT_WIN_CTL, 0x130004, [(0x8, 8192)], false, 0x0, [⟨31, 30, .rws⟩, ⟨29, 29, .rws⟩, ⟨28, 28, .rws⟩, ⟨27, 22, .rws⟩, ⟨19, 10, .rws⟩, ⟨9, 0, .rws⟩]⟩]

/-- Registers of QM. -/
def regsQM : List RegDesc := [
  ⟨.QM_CTL, 0x140000, [], false, 0x0, [⟨31, 31, .w1s⟩, ⟨1, 1, .wo⟩, ⟨0, 0, .rw⟩]⟩,
  ⟨.QM_STAT, 0x140004, [], false, 0x0, [⟨31, 31, .w1c⟩, ⟨30, 30, .w1c⟩, ⟨1, 1, .ro⟩, ⟨0, 0, .ro⟩]⟩,
  ⟨.QM_PCIE_STAT, 0x140008, [], false, 0x0, [⟨31, 31, .w1c⟩, ⟨19, 16, .ro⟩, ⟨13, 8, .ro⟩, ⟨2, 2, .ro⟩, ⟨1, 1, .ro⟩, ⟨0, 0, .ro⟩]⟩,
  ⟨.QM_PCIE_SUBSYS, 0x14000c, [], false, 0x0, [⟨31, 16, .rwl⟩, ⟨15, 0, .rwl⟩]⟩,
  ⟨.QM_INT_CFG, 0x140010, [], false, 0x0, [⟨0, 0, .rw⟩]⟩,
  ⟨.QM_INT_STAT, 0x140014, [(0x4, 2)], false, 0x0, [⟨31, 0, .w1c⟩]⟩,
  ⟨.QM_INT_EN, 0x14001c, [(0x4, 2)], false, 0x0, [⟨31, 0, .rw⟩]⟩,
  ⟨.QM_ADM_DB, 0x140030, [], false, 0x0, [⟨31, 29, .ro⟩, ⟨27, 20, .ro⟩, ⟨15, 8, .ro⟩]⟩,
  ⟨.QM_QP_DB, 0x150000, [(0x4, 4096)], false, 0x0, [⟨31, 29, .ro⟩, ⟨27, 20, .ro⟩, ⟨15, 8, .ro⟩]⟩,
  ⟨.QM_QSPI_CFG, 0x140034, [], false, 0x0, [⟨0, 0, .rwl⟩]⟩,
  ⟨.QM_CMD_W, 0x140040, [(0x4, 16)], false, 0x0, [⟨31, 0, .rw⟩]⟩,
  ⟨.QM_CMD_GO, 0x140080, [], false, 0x0, [⟨0, 0, .wo⟩]⟩,
  ⟨.QM_CMD_RES, 0x140084, [], false, 0x0, [⟨31, 31, .ro⟩, ⟨23, 16, .ro⟩, ⟨7, 0, .ro⟩]⟩,
  ⟨.QM_CMD_RES_W, 0x140088, [(0x4, 2)], false, 0x0, [⟨31, 0, .ro⟩]⟩,
  ⟨.QM_IRQ_MAP, 0x140100, [(0x4, 64)], false, 0x0, [⟨31, 31, .rw⟩, ⟨5, 0, .rw⟩]⟩,
  ⟨.QM_P9_MAP, 0x140200, [(0x4, 8)], false, 0x0, [⟨31, 31, .rw⟩, ⟨19, 16, .rw⟩, ⟨11, 0, .rw⟩]⟩,
  ⟨.QM_CNT_RX_DROP, 0x140300, [], false, 0x0, [⟨31, 0, .ro⟩]⟩,
  ⟨.QM_CNT_RX_NOBUF, 0x140304, [], false, 0x0, [⟨31, 0, .ro⟩]⟩,
  ⟨.QM_CNT_BAD_DB, 0x140308, [], false, 0x0, [⟨31, 0, .ro⟩]⟩,
  ⟨.QM_CNT_CHAIN_LOOP, 0x14030c, [], false, 0x0, [⟨31, 0, .ro⟩]⟩,
  ⟨.QM_CNT_HOST_TMO, 0x140310, [], false, 0x0, [⟨31, 0, .ro⟩]⟩,
  ⟨.QM_CNT_HOST_ERR, 0x140314, [], false, 0x0, [⟨31, 0, .ro⟩]⟩,
  ⟨.QM_CNT_HW_DROP, 0x140318, [], false, 0x0, [⟨31, 0, .ro⟩]⟩,
  ⟨.QM_CNT_BAD_ENTRY, 0x14031c, [], false, 0x0, [⟨31, 0, .ro⟩]⟩]

/-- Registers of SAX. -/
def regsSAX : List RegDesc := [
  ⟨.SAX_CTL, 0x1c0000, [], false, 0x0, [⟨31, 31, .w1s⟩, ⟨2, 2, .wo⟩, ⟨1, 1, .wo⟩, ⟨0, 0, .rw⟩]⟩,
  ⟨.SAX_STAT, 0x1c0004, [], false, 0x0, [⟨31, 31, .w1c⟩, ⟨30, 30, .w1c⟩, ⟨29, 29, .w1c⟩, ⟨28, 28, .w1c⟩, ⟨27, 27, .w1c⟩, ⟨3, 3, .ro⟩, ⟨2, 2, .ro⟩, ⟨1, 1, .ro⟩, ⟨0, 0, .ro⟩]⟩,
  ⟨.SAX_INT_EN, 0x1c0008, [], false, 0x0, [⟨31, 31, .rw⟩, ⟨30, 30, .rw⟩, ⟨29, 29, .rw⟩, ⟨28, 28, .rw⟩, ⟨27, 27, .rw⟩]⟩,
  ⟨.SAX_CFG, 0x1c000c, [], false, 0x11, [⟨4, 0, .rwl⟩]⟩,
  ⟨.SAX_TBL_BASE, 0x1c0010, [], false, 0x88000000, [⟨31, 25, .rwl⟩]⟩,
  ⟨.SAX_KA_Q, 0x1c0014, [], false, 0x0, [⟨15, 0, .rw⟩]⟩,
  ⟨.SAX_OCC, 0x1c0018, [], false, 0x0, [⟨17, 0, .ro⟩]⟩,
  ⟨.SAX_HIGH_WM, 0x1c001c, [], false, 0x1e000, [⟨17, 0, .rw⟩]⟩,
  ⟨.SAX_SEL, 0x1c0020, [], false, 0x0, [⟨31, 31, .ro⟩, ⟨16, 0, .rw⟩]⟩,
  ⟨.SAX_SEL_STATE, 0x1c0024, [], false, 0x0, [⟨31, 31, .ro⟩, ⟨30, 30, .ro⟩, ⟨29, 29, .ro⟩, ⟨28, 28, .ro⟩, ⟨27, 26, .ro⟩, ⟨25, 25, .ro⟩, ⟨15, 0, .ro⟩]⟩,
  ⟨.SAX_SEL_CB, 0x1c0028, [], false, 0x0, [⟨19, 0, .ro⟩]⟩,
  ⟨.SAX_SEL_EB, 0x1c002c, [], false, 0x0, [⟨19, 0, .ro⟩]⟩,
  ⟨.SAX_SEL_CNT, 0x1c0030, [(0x4, 6)], false, 0x0, [⟨31, 0, .ro⟩]⟩,
  ⟨.SAX_CNT_RX_OK, 0x1c0100, [], false, 0x0, [⟨31, 0, .ro⟩]⟩,
  ⟨.SAX_CNT_AUTH_FAIL, 0x1c0104, [], false, 0x0, [⟨31, 0, .ro⟩]⟩,
  ⟨.SAX_CNT_REPLAY, 0x1c0108, [], false, 0x0, [⟨31, 0, .ro⟩]⟩,
  ⟨.SAX_CNT_POLICED, 0x1c010c, [], false, 0x0, [⟨31, 0, .ro⟩]⟩,
  ⟨.SAX_CNT_TX_OK, 0x1c0110, [], false, 0x0, [⟨31, 0, .ro⟩]⟩,
  ⟨.SAX_CNT_KA_DROP, 0x1c0114, [], false, 0x0, [⟨31, 0, .ro⟩]⟩,
  ⟨.SAX_CNT_REPL_DROP, 0x1c0118, [], false, 0x0, [⟨31, 0, .ro⟩]⟩]

/-- Registers of FCU. -/
def regsFCU : List RegDesc := [
  ⟨.FCU_CTL, 0x20000, [], false, 0x0, [⟨31, 31, .w1s⟩, ⟨0, 0, .wo⟩]⟩,
  ⟨.FCU_STAT, 0x20004, [], false, 0x0, [⟨31, 31, .w1c⟩, ⟨30, 30, .ro⟩, ⟨29, 29, .w1c⟩, ⟨3, 1, .ro⟩, ⟨0, 0, .ro⟩]⟩,
  ⟨.FCU_CFG, 0x20008, [], false, 0x7d0, [⟨17, 17, .rwl⟩, ⟨16, 16, .rwl⟩, ⟨15, 0, .rwl⟩]⟩,
  ⟨.FCU_Q, 0x2000c, [], false, 0x0, [⟨15, 0, .rwl⟩]⟩,
  ⟨.FCU_ERR_CTL, 0x20010, [], false, 0xc000000a, [⟨31, 31, .rw⟩, ⟨30, 30, .ro⟩, ⟨29, 29, .ro⟩, ⟨15, 0, .rwl⟩]⟩,
  ⟨.FCU_FIRST, 0x20014, [], false, 0x0, [⟨15, 15, .w1c⟩, ⟨14, 14, .ro⟩, ⟨11, 8, .ro⟩, ⟨7, 0, .ro⟩]⟩,
  ⟨.FCU_FIRST_DET, 0x20018, [(0x4, 2)], false, 0x0, [⟨31, 0, .ro⟩]⟩,
  ⟨.FCU_FW_RAISE, 0x20020, [], false, 0x0, [⟨7, 0, .wo⟩]⟩,
  ⟨.FCU_FW_DET, 0x20024, [], false, 0x0, [⟨31, 0, .rw⟩]⟩,
  ⟨.FCU_CNT_CASCADE, 0x20028, [], false, 0x0, [⟨31, 0, .ro⟩]⟩,
  ⟨.FCU_CNT_INJ, 0x2002c, [], false, 0x0, [⟨31, 0, .ro⟩]⟩,
  ⟨.FCU_FENCE, 0x20030, [(0x4, 2)], false, 0x0, [⟨31, 0, .w1c⟩]⟩,
  ⟨.FCU_FENCE_SET, 0x20038, [(0x4, 2)], false, 0x0, [⟨31, 0, .wo⟩]⟩,
  ⟨.FCU_SRC_STAT, 0x20100, [(0x4, 64)], false, 0x0, [⟨31, 16, .w1c⟩, ⟨15, 0, .w1c⟩]⟩,
  ⟨.FCU_SRC_FORCE, 0x20200, [(0x4, 64)], false, 0x0, [⟨15, 0, .wo⟩]⟩,
  ⟨.FCU_SRC_CNT, 0x20300, [(0x4, 64)], false, 0x0, [⟨31, 16, .ro⟩, ⟨15, 0, .ro⟩]⟩,
  ⟨.FCU_RCT, 0x20400, [(0x10, 64), (0x4, 4)], false, 0x0, [⟨31, 0, .rwl⟩]⟩,
  ⟨.FCU_CASCADE_MASK, 0x20800, [(0x8, 64), (0x4, 2)], false, 0x0, [⟨31, 0, .rwl⟩]⟩]

/-- Registers of EVR. -/
def regsEVR : List RegDesc := [
  ⟨.EVR_CTL, 0x30000, [], false, 0x0, [⟨31, 31, .w1s⟩, ⟨0, 0, .wo⟩]⟩,
  ⟨.EVR_STAT, 0x30004, [], false, 0x0, [⟨31, 31, .w1c⟩, ⟨30, 30, .w1c⟩, ⟨29, 29, .w1c⟩, ⟨2, 2, .ro⟩, ⟨1, 1, .ro⟩, ⟨0, 0, .ro⟩]⟩,
  ⟨.EVR_CFG, 0x30008, [], false, 0x64, [⟨15, 0, .rwl⟩]⟩,
  ⟨.EVR_HEAD_LO, 0x3000c, [], false, 0x0, [⟨31, 0, .ro⟩]⟩,
  ⟨.EVR_HEAD_HI, 0x30010, [], false, 0x0, [⟨7, 0, .ro⟩]⟩,
  ⟨.EVR_TAIL_LO, 0x30014, [], false, 0x0, [⟨31, 0, .ro⟩]⟩,
  ⟨.EVR_TAIL_HI, 0x30018, [], false, 0x0, [⟨7, 0, .ro⟩]⟩,
  ⟨.EVR_SPILL_CTL, 0x3001c, [], false, 0xd, [⟨31, 31, .rwl⟩, ⟨4, 0, .rwl⟩]⟩,
  ⟨.EVR_SPILL_BASE, 0x30020, [], false, 0x8c000000, [⟨31, 13, .rwl⟩]⟩,
  ⟨.EVR_CNT_WRITTEN, 0x30040, [], false, 0x0, [⟨31, 0, .ro⟩]⟩,
  ⟨.EVR_CNT_RATE_SUPP, 0x30044, [], false, 0x0, [⟨31, 0, .ro⟩]⟩,
  ⟨.EVR_CNT_EVLOG_RANGE, 0x30048, [], false, 0x0, [⟨31, 0, .ro⟩]⟩,
  ⟨.EVR_CNT_EVLOG_BUDGET, 0x3004c, [], false, 0x0, [⟨31, 0, .ro⟩]⟩,
  ⟨.EVR_CNT_HW_LOST, 0x30050, [], false, 0x0, [⟨31, 0, .ro⟩]⟩,
  ⟨.EVR_CNT_SPILL_MISSING, 0x30054, [], false, 0x0, [⟨31, 0, .ro⟩]⟩,
  ⟨.EVR_RET_STAT, 0x30060, [], false, 0x0, [⟨31, 31, .wo⟩, ⟨2, 0, .ro⟩]⟩,
  ⟨.EVR_RET_W, 0x30080, [(0x20, 4), (0x4, 8)], false, 0x0, [⟨31, 0, .ro⟩]⟩,
  ⟨.EVR_CUR_CTL, 0x30100, [(0x40, 4)], false, 0x0, [⟨2, 2, .wo⟩, ⟨1, 1, .wo⟩, ⟨0, 0, .wo⟩]⟩,
  ⟨.EVR_CUR_STAT, 0x30104, [(0x40, 4)], false, 0x0, [⟨31, 31, .ro⟩, ⟨15, 0, .ro⟩]⟩,
  ⟨.EVR_CUR_POS_LO, 0x30108, [(0x40, 4)], false, 0x0, [⟨31, 0, .ro⟩]⟩,
  ⟨.EVR_CUR_POS_HI, 0x3010c, [(0x40, 4)], false, 0x0, [⟨7, 0, .ro⟩]⟩,
  ⟨.EVR_CUR_W, 0x30120, [(0x40, 4), (0x4, 8)], false, 0xffffffff, [⟨31, 0, .ro⟩]⟩,
  ⟨.EVR_RATE, 0x31000, [(0x4, 1024)], false, 0x40, [⟨15, 0, .rw⟩]⟩]

/-- Registers of PWR. -/
def regsPWR : List RegDesc := [
  ⟨.PWR_CTL, 0x10000, [], false, 0x0, [⟨31, 31, .w1s⟩, ⟨10, 8, .rw⟩, ⟨0, 0, .rwl⟩]⟩,
  ⟨.PWR_STAT, 0x10004, [], false, 0x0, [⟨31, 31, .w1c⟩, ⟨30, 30, .w1c⟩, ⟨29, 29, .w1c⟩, ⟨28, 28, .w1c⟩, ⟨27, 27, .w1c⟩, ⟨11, 11, .ro⟩, ⟨10, 8, .ro⟩, ⟨6, 4, .ro⟩, ⟨2, 0, .ro⟩]⟩,
  ⟨.PWR_VIN, 0x10008, [], false, 0x1fff0000, [⟨28, 16, .ro⟩, ⟨12, 0, .ro⟩]⟩,
  ⟨.PWR_SH_THR, 0x10010, [(0x4, 4)], false, 0x0, [⟨28, 16, .ro⟩, ⟨12, 0, .rw⟩]⟩,
  ⟨.PWR_LTR, 0x10020, [(0x4, 8)], false, 0x0, [⟨31, 31, .rw⟩, ⟨23, 0, .rw⟩]⟩,
  ⟨.PWR_WAKE, 0x10040, [], false, 0x0, [⟨7, 4, .ro⟩, ⟨3, 0, .ro⟩]⟩,
  ⟨.PWR_RAIL_STAT, 0x10044, [], false, 0x0, [⟨9, 9, .ro⟩, ⟨8, 8, .ro⟩, ⟨3, 0, .ro⟩]⟩,
  ⟨.PWR_TEMP, 0x10048, [], false, 0x0, [⟨15, 0, .ro⟩]⟩,
  ⟨.PWR_TJ_LIMIT, 0x1004c, [], false, 0x69, [⟨7, 0, .rwl⟩]⟩,
  ⟨.PWR_CNT_SH, 0x10050, [], false, 0x0, [⟨31, 0, .ro⟩]⟩,
  ⟨.PWR_PS_TIME, 0x10060, [(0x4, 5)], false, 0x0, [⟨31, 0, .ro⟩]⟩]

/-- Registers of SEC. -/
def regsSEC : List RegDesc := [
  ⟨.SEC_CTL, 0x40000, [], false, 0x0, [⟨31, 31, .w1s⟩]⟩,
  ⟨.SEC_STAT, 0x40004, [], false, 0x0, [⟨31, 31, .w1c⟩, ⟨4, 4, .ro⟩, ⟨3, 3, .ro⟩, ⟨2, 2, .ro⟩, ⟨1, 0, .ro⟩]⟩,
  ⟨.SEC_DBG_CMD, 0x40008, [], false, 0x0, [⟨2, 0, .wo⟩]⟩,
  ⟨.SEC_DBG_RES, 0x4000c, [], false, 0x0, [⟨31, 31, .ro⟩, ⟨23, 16, .ro⟩, ⟨7, 0, .ro⟩]⟩,
  ⟨.SEC_DBG_DATA, 0x40010, [(0x4, 4)], false, 0x0, [⟨31, 0, .wo⟩]⟩,
  ⟨.SEC_DBG_NONCE, 0x40020, [(0x4, 4)], false, 0x0, [⟨31, 0, .ro⟩]⟩,
  ⟨.SEC_DBG_FAIL, 0x40030, [], false, 0x0, [⟨31, 16, .ro⟩, ⟨7, 0, .ro⟩]⟩,
  ⟨.SEC_SERIAL_LO, 0x40040, [], false, 0x0, [⟨31, 0, .ro⟩]⟩,
  ⟨.SEC_SERIAL_HI, 0x40044, [], false, 0x0, [⟨31, 0, .ro⟩]⟩,
  ⟨.SEC_FUSE_STAT, 0x40048, [], false, 0x0, [⟨13, 8, .ro⟩, ⟨7, 4, .ro⟩, ⟨3, 0, .ro⟩]⟩,
  ⟨.SEC_FUSE_CMD, 0x4004c, [], false, 0x0, [⟨31, 24, .wo⟩, ⟨23, 20, .wo⟩, ⟨6, 6, .wo⟩, ⟨5, 0, .wo⟩]⟩,
  ⟨.SEC_FUSE_RES, 0x40050, [], false, 0x0, [⟨31, 31, .ro⟩, ⟨23, 16, .ro⟩, ⟨7, 0, .ro⟩]⟩]

/-- Registers of DMC. -/
def regsDMC : List RegDesc := [
  ⟨.DMC_CTL, 0x300000, [], false, 0x1, [⟨31, 31, .w1s⟩, ⟨0, 0, .rwl⟩]⟩,
  ⟨.DMC_STAT, 0x300004, [], false, 0x0, [⟨31, 31, .w1c⟩, ⟨30, 30, .w1c⟩, ⟨5, 4, .ro⟩, ⟨3, 2, .ro⟩, ⟨1, 1, .ro⟩, ⟨0, 0, .ro⟩]⟩,
  ⟨.DMC_SIZE, 0x300008, [], false, 0x0, [⟨15, 0, .ro⟩]⟩,
  ⟨.DMC_ECC_CNT, 0x300010, [(0x8, 2)], false, 0x0, [⟨31, 16, .ro⟩, ⟨15, 0, .ro⟩]⟩,
  ⟨.DMC_ECC_ADDR, 0x300014, [(0x8, 2)], false, 0x0, [⟨31, 31, .w1c⟩, ⟨28, 0, .ro⟩]⟩]

/-- The rows of the block whose control-space window (spec/19_register_index.md) holds an offset. -/
def blockRegs (off : Nat) : List RegDesc :=
  if off < 0x10000 then regsGCTL
  else if off < 0x20000 then regsPWR
  else if off < 0x30000 then regsFCU
  else if off < 0x40000 then regsEVR
  else if off < 0x50000 then regsSEC
  else if off < 0x80000 then regsTBU
  else if off < 0xa0000 then regsETH
  else if off < 0xc0000 then regsYRD
  else if off < 0x100000 then regsSCH
  else if off < 0x110000 then regsRED
  else if off < 0x120000 then regsVOX
  else if off < 0x140000 then regsZTT
  else if off < 0x180000 then regsQM
  else if off < 0x1c0000 then regsLFT
  else if off < 0x200000 then regsSAX
  else if off < 0x300000 then regsBRN
  else if off < 0x310000 then regsDMC
  else []

/-- The sources that have a fault ID (R354). -/
def assignedSource (s : Nat) : Bool :=
  s ≤ 5 || (0x10 ≤ s && s ≤ 0x1E) || (0x20 ≤ s && s ≤ 0x22) || (0x30 ≤ s && s ≤ 0x37)

/-- The index of an offset within a row, one number per dimension (the outer dimension first); `none` outside the row. -/
def ixOf : List (Nat × Nat) → Nat → Option (List Nat)
  | [], d => if d = 0 then some [] else none
  | (stride, cnt) :: ds, d =>
    if d / stride < cnt then (ixOf ds (d % stride)).map (fun t => d / stride :: t)
    else none

/-- Does row `r` hold offset `off`, and with which indices? -/
def RegDesc.at (r : RegDesc) (off : Nat) : Option (List Nat) :=
  if off < r.base then none
  else match ixOf r.dims (off - r.base) with
    | none => none
    | some ix => if r.hole && ix.headD 0 == 8 then none else some ix

/-- The first row of a list that holds an offset. -/
def findIn : List RegDesc → Nat → Option (RegDesc × List Nat)
  | [], _ => none
  | r :: rs, off => match r.at off with
    | some ix => some (r, ix)
    | none => findIn rs off

/-- The register at a control-space offset: its row and indices (R9: none where no register lies). -/
def findReg (off : Nat) : Option (RegDesc × List Nat) := findIn (blockRegs off) off

/-- Reset value of a register of row `r` at indices `ix`: the row's, or per index where the spec gives a table. -/
def resetVal (r : RegDesc) (ix : List Nat) : Nat :=
  match r.name with
  | .TBU_DOM_STAT => if ix = [0] then 1 else 0
  | .TBU_DOM_INCR_HI => if ix.headD 0 < 4 then 4 else 0
  | .ETH_MODE => if ix.headD 0 < 2 then 0x121 else if ix.headD 0 < 6 then 0x103 else 0x105
  | .FCU_RCT => if assignedSource (ix.headD 0) then [0x03070700, 0x01030303, 0x07070703, 0x03070703].getD (ix.getD 1 0) 0 else 0
  | .FCU_CASCADE_MASK => if ix = [0x18, 0] then 0x26FF0000 else if ix = [0x18, 1] then 2 else if ix = [0x1B, 0] then 0x04000000 else if ix = [0x1D, 0] then 0x40000000 else if ix = [0x20, 0] ∨ ix = [0x21, 0] then 0x08000000 else 0
  | .EVR_RATE => if ix = [1] ∨ ix = [34] ∨ ix = [49] then 0xFFFF else 0x40
  | .PWR_RAIL_STAT => 0xF
  | .YRD_STAT => 0x20000
  | .SEC_STAT => 2
  | .PWR_SH_THR => [0x0CBC0C80, 0x0BF40BB8, 0x0B5E0B22, 0x0ADC0AA0].getD (ix.headD 0) 0
  | _ => r.rst

/-- The value a control-space offset takes at reset (0 where no register lies, R9). -/
def resetAt (off : Nat) : BitVec 32 :=
  match findReg off with
  | none => 0
  | some (r, ix) => BitVec.ofNat 32 (resetVal r ix)

/-- The bits of a row that have one of the access codes `as`. -/
def RegDesc.mask (r : RegDesc) (as : List Acc) : Nat :=
  r.flds.foldl (fun m f => if as.contains f.acc then m ||| ((2 ^ (f.hi - f.lo + 1) - 1) <<< f.lo) else m) 0

end Sys2Proof.Machine
end

