-- ==== Sys2Proof/Syntax.lean ====
section
/-! DEFINITION. The commands of the block: one constructor per row of spec/opcode_table.json, in the table's order.
A command names what happens: an instruction a thread issues, a register access, a frame or message that arrives, or an
event the spec times. Operands that the environment decides (bytes received, measured values) are operands here. -/
namespace Sys2Proof

/-! ### Operands of engine instructions (R52). `th` is the global index of the thread that issues the instruction. -/

/-- Three registers (format A). -/
structure RRR where
  th : Fin 512
  rd : Fin 32
  rs1 : Fin 32
  rs2 : Fin 32
  deriving DecidableEq, Repr

/-- Format A with one source: rs2 is zero. -/
structure RR where
  th : Fin 512
  rd : Fin 32
  rs1 : Fin 32
  deriving DecidableEq, Repr

/-- ADD, or the decoding of a reserved word (R54): the table gives ILLEGAL within ADD. -/
inductive AddOp where
  | op (o : RRR)
  | reserved (th : Fin 512) (w : BitVec 32)
  deriving DecidableEq, Repr

/-- Two registers and a 12-bit immediate (format B). -/
structure RRI where
  th : Fin 512
  rd : Fin 32
  rs1 : Fin 32
  imm : BitVec 12
  deriving DecidableEq, Repr

/-- One register and a 20-bit immediate (format C). -/
structure RI where
  th : Fin 512
  rd : Fin 32
  imm : BitVec 20
  deriving DecidableEq, Repr

/-- Compare and branch (format D). -/
structure BrOp where
  th : Fin 512
  rs1 : Fin 32
  rs2 : Fin 32
  off : BitVec 12
  deriving DecidableEq, Repr

/-- Jump (format E). -/
structure JmpOp where
  th : Fin 512
  off : BitVec 26
  deriving DecidableEq, Repr

/-- Load: `aq` is FN4[15] (R61). `late` is the order that the device takes (R82): an access to tack that is not performed at issue but by a
LOAD_COMPLETE or STORE_ACCEPT of its own; it means nothing for another space, whose accesses are all performed so. -/
structure LdOp where
  th : Fin 512
  rd : Fin 32
  rs1 : Fin 32
  imm : BitVec 12
  aq : Bool
  late : Bool
  deriving DecidableEq, Repr

/-- Store: `rs` is the data register (the RD field), `rl` is FN4[15] (R61); `late` as in a load. -/
structure StOp where
  th : Fin 512
  rs : Fin 32
  rs1 : Fin 32
  imm : BitVec 12
  rl : Bool
  late : Bool
  deriving DecidableEq, Repr

/-- Atomic: `sz` is SZ (true: 8 bytes); `late` as in a load. -/
structure AmoOp where
  th : Fin 512
  rd : Fin 32
  rs1 : Fin 32
  rs2 : Fin 32
  sz : Bool
  aq : Bool
  rl : Bool
  late : Bool
  deriving DecidableEq, Repr

/-- CRC functions: `nb` is NB, data bytes minus one. -/
structure CrcOp where
  th : Fin 512
  rd : Fin 32
  rs1 : Fin 32
  rs2 : Fin 32
  nb : Fin 8
  deriving DecidableEq, Repr

/-- Memory and IO fences: `mask` is SS, SL, LS, LL. -/
structure FenceOp where
  th : Fin 512
  mask : BitVec 4
  deriving DecidableEq, Repr

/-- Unit operation (format F). -/
structure UnOp where
  th : Fin 512
  rd : Fin 32
  rs : Fin 32
  k : BitVec 6
  deriving DecidableEq, Repr

/-- A transaction of a thread, by its number in order of issue. -/
structure TxnRef where
  th : Fin 512
  id : Nat
  deriving DecidableEq, Repr

/-- The paddock registers of PAD_CONFIG_WRITE. -/
inductive PadReg where
  | mode | len | phase
  deriving DecidableEq, Repr

/-- A leaf of the memory-path arbiters (R115). -/
inductive DramLeaf where
  | thread (th : Fin 512)
  | lft | sax | evr | qm
  deriving DecidableEq, Repr

/-- Who makes a register access. -/
inductive Writer where
  | host | mgmt | jtag | rom | tbu
  | thread (th : Fin 512)
  deriving DecidableEq, Repr

/-! ### Operands of network commands -/

/-- What a port's PCS and PHY report (R178, R179): `speed` is the mode whose speed the SGMII control word or the RGMII in-band
status reports, with link up. -/
structure LinkCond where
  lock : Bool
  localFault : Bool
  remoteFault : Bool
  anDone : Bool
  speed : Option (Fin 8)
  deriving DecidableEq, Repr

/-- How received bytes arrive (R194): a whole frame (SFD), a first fragment (SMD-S), a continuation (SMD-C with its count), an
unknown SMD. `fin`: the packet ends with the frame's FCS. -/
inductive RxKind where
  | whole
  | start (fin : Bool)
  | cont (cnt : Fin 4) (fin : Bool)
  | unknown
  deriving DecidableEq, Repr

/-- Bytes received on a port: from the destination address on, without FCS; whether the FCS is bad and whether a PCS error symbol
was met; how long ago, in 2^-32 ns, the start-of-frame delimiter was. -/
structure RxOp where
  port : Fin 8
  kind : RxKind
  data : List Byte
  badFcs : Bool
  symErr : Bool
  ago : Nat
  deriving DecidableEq, Repr

/-- A received pause or PFC frame (R188): quanta; enable vector and the quanta of the eight priorities. -/
inductive PauseOp where
  | pause (q : BitVec 16)
  | pfc (mask : BitVec 8) (q : List (BitVec 16))
  | other
  deriving DecidableEq, Repr

/-- A heartbeat path (R263). -/
inductive HbPath where
  | wire | vox
  deriving DecidableEq, Repr

/-- What the link layer of Voxam sees (R275): a message received whole (its class) or with a CRC error; the far end's request to
replay a message of ours; progress of our messages. -/
inductive VoxRx where
  | good (cls : Fin 6)
  | badCrc
  | replay
  | progress
  deriving DecidableEq, Repr

/-- Why an active starts an orderly hand-over (R266): a write, the standby's request, or shedding. -/
inductive StepReason where
  | write | request | shed
  deriving DecidableEq, Repr

/-- Where a peer message comes from (R276): the transmit queue, or a link, with the hops it has left. -/
inductive PeerSrc where
  | queue
  | link (l : Fin 2) (hops : Fin 4) (data : List Byte)
  deriving DecidableEq, Repr

/-- A Zunto-TT frame as a channel delivers it at its end (R282): bytes from byte 0, whether every byte start sequence and the frame
end sequence had their levels, and how many ticks ago the start sequence fell. -/
structure ZRx where
  chan : Fin 2
  bytes : List Byte
  lineOk : Bool
  ago : Nat
  deriving DecidableEq, Repr

/-- A filtered edge of a coordinate source (R127): MAINS_SYNC, a quadrature edge of an encoder set (`aLead`: A leads B), an ENC_Z
pulse. -/
inductive RefEdge where
  | mains (rising : Bool)
  | quad (set : Fin 2) (aLead : Bool)
  | z (set : Fin 2)
  deriving DecidableEq, Repr

/-- An edge of a reference, and for how many ticks its pin has been stable since (R127). -/
structure RefOp where
  edge : RefEdge
  stable : Nat
  deriving DecidableEq, Repr

/-- An edge of a capture input: its direction, and for how many ticks the pin has been stable since (R134). -/
structure EdgeOp where
  rising : Bool
  stable : Nat
  deriving DecidableEq, Repr

/-- The points of a replicated epoch with their versions, and whether the epoch is one of a resynchronisation (R272, R273). -/
structure EpochOp where
  points : List (Nat × BitVec 256)
  resync : Bool
  deriving DecidableEq, Repr

/-- The registers of a pulse output (R136). -/
inductive ToutReg where
  | ctl | per | phase | wid
  deriving DecidableEq, Repr

/-- A write of YRD_PIN[k] or YRD_PGRP[k] (R213). -/
inductive PinOp where
  | pin (k : Fin 1024) (v : BitVec 32)
  | group (k : Fin 16) (v : BitVec 32)
  deriving DecidableEq, Repr

/-- A host queue pair (R315): 0 to 4095, or the admin pair. -/
inductive PairId where
  | pair (i : Fin 4096)
  | admin
  deriving DecidableEq, Repr

/-- What ends the host's queues (R313). -/
inductive FrKind where
  | flr | hotReset | linkFall
  deriving DecidableEq, Repr

/-- A host write of PCIe configuration space or of the MSI-X table (R333, R334): Bus Master Enable, MSI-X Enable, the MSI-X
function mask, a vector's mask bit; the PCIe link has come up. -/
inductive CfgWrite where
  | bme (on : Bool)
  | msix (on : Bool)
  | funcMask (on : Bool)
  | vecMask (v : Fin 64) (on : Bool)
  deriving DecidableEq, Repr

/-- An untimed wake event (R386). -/
inductive WakeCause where
  | thread | host | queue | fault
  deriving DecidableEq, Repr


/-- A host read of a cursor's part of the recorder window (R379): an offset and the byte enables, or the whole record at offset 0. -/
inductive WinRead where
  | part (o : BitVec 12) (be : BitVec 4)
  | record
  deriving DecidableEq, Repr

/-- A host read of cursor `cur`'s part of the recorder window (R379). -/
structure CurOp where
  cur : Fin 4
  read : WinRead
  deriving DecidableEq, Repr

/-- A host read of a register: its offset and the byte enables (R8). -/
structure ReadOp where
  off : BitVec 26
  be : BitVec 4
  deriving DecidableEq, Repr

/-- The commands. Each docstring names the row and its rule. -/
inductive Instr where
  /-- ADD (R52) -/
  | add (o : AddOp)
  /-- SUB (R52) -/
  | sub (o : RRR)
  /-- AND (R52) -/
  | and (o : RRR)
  /-- OR (R52) -/
  | or (o : RRR)
  /-- XOR (R52) -/
  | xor (o : RRR)
  /-- ANDN (R52) -/
  | andn (o : RRR)
  /-- SLL (R52) -/
  | sll (o : RRR)
  /-- SRL (R52) -/
  | srl (o : RRR)
  /-- SRA (R52) -/
  | sra (o : RRR)
  /-- SLT (R52) -/
  | slt (o : RRR)
  /-- SLTU (R52) -/
  | sltu (o : RRR)
  /-- MIN (R52) -/
  | min (o : RRR)
  /-- MAX (R52) -/
  | max (o : RRR)
  /-- MINU (R52) -/
  | minu (o : RRR)
  /-- MAXU (R52) -/
  | maxu (o : RRR)
  /-- ADDW (R52) -/
  | addw (o : RRR)
  /-- SUBW (R52) -/
  | subw (o : RRR)
  /-- SLLW (R52) -/
  | sllw (o : RRR)
  /-- SRLW (R52) -/
  | srlw (o : RRR)
  /-- SRAW (R52) -/
  | sraw (o : RRR)
  /-- MUL (R52) -/
  | mul (o : RRR)
  /-- MULH (R52) -/
  | mulh (o : RRR)
  /-- MULHU (R52) -/
  | mulhu (o : RRR)
  /-- DIV (R59) -/
  | div (o : RRR)
  /-- DIVU (R59) -/
  | divu (o : RRR)
  /-- REM (R59) -/
  | rem (o : RRR)
  /-- REMU (R59) -/
  | remu (o : RRR)
  /-- DIVIDE_RESULT (R443) -/
  | divideResult (b : Fin 8) (e : Fin 16)
  /-- CLZ (R52) -/
  | clz (o : RR)
  /-- CTZ (R52) -/
  | ctz (o : RR)
  /-- POPC (R52) -/
  | popc (o : RR)
  /-- ADDI (R52) -/
  | addi (o : RRI)
  /-- ANDI (R52) -/
  | andi (o : RRI)
  /-- ORI (R52) -/
  | ori (o : RRI)
  /-- XORI (R52) -/
  | xori (o : RRI)
  /-- SLTI (R52) -/
  | slti (o : RRI)
  /-- SLTIU (R52) -/
  | sltiu (o : RRI)
  /-- SLLI (R52) -/
  | slli (o : RRI)
  /-- SRLI (R52) -/
  | srli (o : RRI)
  /-- SRAI (R52) -/
  | srai (o : RRI)
  /-- ADDWI (R52) -/
  | addwi (o : RRI)
  /-- EXTU (R52) -/
  | extu (o : RRI)
  /-- EXTS (R52) -/
  | exts (o : RRI)
  /-- INS (R52) -/
  | ins (o : RRI)
  /-- BSWAP (R52) -/
  | bswap (o : RRI)
  /-- LUI (R52) -/
  | lui (o : RI)
  /-- LUIH (R52) -/
  | luih (o : RI)
  /-- BEQ (R60) -/
  | beq (o : BrOp)
  /-- BNE (R60) -/
  | bne (o : BrOp)
  /-- BLT (R60) -/
  | blt (o : BrOp)
  /-- BGE (R60) -/
  | bge (o : BrOp)
  /-- BLTU (R60) -/
  | bltu (o : BrOp)
  /-- BGEU (R60) -/
  | bgeu (o : BrOp)
  /-- JR (R60) -/
  | jr (o : BrOp)
  /-- J (R60) -/
  | j (o : JmpOp)
  /-- JL (R60) -/
  | jl (o : JmpOp)
  /-- LB (R61) -/
  | lb (o : LdOp)
  /-- LH (R61) -/
  | lh (o : LdOp)
  /-- LW (R61) -/
  | lw (o : LdOp)
  /-- LD (R61) -/
  | ld (o : LdOp)
  /-- LBU (R61) -/
  | lbu (o : LdOp)
  /-- LHU (R61) -/
  | lhu (o : LdOp)
  /-- LWU (R61) -/
  | lwu (o : LdOp)
  /-- SB (R61) -/
  | sb (o : StOp)
  /-- SH (R61) -/
  | sh (o : StOp)
  /-- SW (R61) -/
  | sw (o : StOp)
  /-- SD (R61) -/
  | sd (o : StOp)
  /-- AMOADD (R62) -/
  | amoadd (o : AmoOp)
  /-- AMOSWAP (R62) -/
  | amoswap (o : AmoOp)
  /-- AMOCAS (R62) -/
  | amocas (o : AmoOp)
  /-- AMOMIN (R62) -/
  | amomin (o : AmoOp)
  /-- AMOMAX (R62) -/
  | amomax (o : AmoOp)
  /-- AMOMINU (R62) -/
  | amominu (o : AmoOp)
  /-- AMOMAXU (R62) -/
  | amomaxu (o : AmoOp)
  /-- LOAD_COMPLETE (R37) -/
  | loadComplete (x : TxnRef) (ok : Bool)
  /-- STORE_ACCEPT (R37) -/
  | storeAccept (x : TxnRef)
  /-- FENCE (R87) -/
  | fence (o : FenceOp)
  /-- FENCE_IO (R90) -/
  | fenceIo (o : FenceOp)
  /-- FENCE_FRM (R91) -/
  | fenceFrm (th : Fin 512)
  /-- FENCE_LOFT (R91) -/
  | fenceLoft (th : Fin 512)
  /-- FENCE_COMPLETE (R88) -/
  | fenceComplete (x : TxnRef)
  /-- HASH_MIX (R63) -/
  | hashMix (o : RRR)
  /-- HASH_FLOW (R63) -/
  | hashFlow (o : RRR)
  /-- CRC32 (R63) -/
  | crc32 (o : CrcOp)
  /-- CRC32C (R63) -/
  | crc32c (o : CrcOp)
  /-- CRC16 (R63) -/
  | crc16 (o : CrcOp)
  /-- FRM_GET (R66) -/
  | frmGet (o : UnOp)
  /-- FRM_NEW (R205) -/
  | frmNew (o : UnOp)
  /-- FRM_HDR (R64) -/
  | frmHdr (o : UnOp)
  /-- FRM_LD (R64) -/
  | frmLd (o : UnOp)
  /-- FRM_ST (R64) -/
  | frmSt (o : UnOp)
  /-- FRM_PUT (R68) -/
  | frmPut (o : UnOp)
  /-- FRM_DROP (R64) -/
  | frmDrop (o : UnOp)
  /-- FRM_TS (R197) -/
  | frmTs (o : UnOp)
  /-- Q_GET (R70) -/
  | qGet (o : UnOp)
  /-- Q_PUT (R329) -/
  | qPut (o : UnOp)
  /-- Q_SIG (R330) -/
  | qSig (o : UnOp)
  /-- WAIT_SATISFIED (R70) -/
  | waitSatisfied (th : Fin 512)
  /-- TM_RD (R131) -/
  | tmRd (o : UnOp)
  /-- TM_SCHED (R137) -/
  | tmSched (o : UnOp)
  /-- TM_WAIT (R71) -/
  | tmWait (o : UnOp)
  /-- TM_WAIT_END (R71) -/
  | tmWaitEnd (th : Fin 512)
  /-- TM_CAN (R138) -/
  | tmCan (o : UnOp)
  /-- LTX_OPEN (R149) -/
  | ltxOpen (o : UnOp)
  /-- LTX_PUT (R150) -/
  | ltxPut (o : UnOp)
  /-- LTX_CPUT (R150) -/
  | ltxCput (o : UnOp)
  /-- LTX_COMMIT (R151) -/
  | ltxCommit (o : UnOp)
  /-- LTX_ABORT (R72) -/
  | ltxAbort (o : UnOp)
  /-- LTX_PIN (R160) -/
  | ltxPin (o : UnOp)
  /-- LTX_GET (R161) -/
  | ltxGet (o : UnOp)
  /-- LTX_UNPIN (R163) -/
  | ltxUnpin (o : UnOp)
  /-- SX_RX (R342) -/
  | sxRx (o : UnOp)
  /-- SX_TX (R344) -/
  | sxTx (o : UnOp)
  /-- SX_KEY (R340) -/
  | sxKey (o : UnOp)
  /-- SX_KA (R347) -/
  | sxKa (o : UnOp)
  /-- EV_LOG (R374) -/
  | evLog (o : UnOp)
  /-- UNIT_RESULT (R64) -/
  | unitResult (x : TxnRef)
  /-- YLD (R75) -/
  | yld (o : UnOp)
  /-- YIELD_RESUME (R111) -/
  | yieldResume (th : Fin 512)
  /-- SYS_RDS (R43) -/
  | sysRds (th : Fin 512) (rd : Fin 32) (k : Fin 64)
  /-- SYS_WRS (R76) -/
  | sysWrs (th : Fin 512) (rs : Fin 32) (k : Fin 64)
  /-- SYS_TRAP (R76) -/
  | sysTrap (th : Fin 512) (code : BitVec 8)
  /-- SYS_RET (R76) -/
  | sysRet (th : Fin 512)
  /-- LOAD_ERROR (R40) -/
  | loadError (x : TxnRef)
  /-- THREAD_RUN (R45) -/
  | threadRun (b : Fin 8) (e : Fin 16) (t : Fin 4) (pad : Fin 32)
  /-- THREAD_STOP (R45) -/
  | threadStop (b : Fin 8) (e : Fin 16) (t : Fin 4) (pad : Fin 32)
  /-- DRAIN_COMPLETE (R45) -/
  | drainComplete (th : Fin 512)
  /-- THREAD_PC_WRITE (R46) -/
  | threadPcWrite (b : Fin 8) (e : Fin 16) (t : Fin 4) (v : BitVec 32)
  /-- BARN_RESET (R50) -/
  | barnReset (b : Fin 8)
  /-- BARN_RESET_END (R50) -/
  | barnResetEnd (b : Fin 8)
  /-- CS_DATA_WRITE (R29) -/
  | csDataWrite (v : BitVec 32)
  /-- CS_DATA_READ (R23) -/
  | csDataRead
  /-- ICINV (R444) -/
  | icinv
  /-- ICINV_DONE (R444) -/
  | icinvDone
  /-- PERIOD_BOUNDARY (R109) -/
  | periodBoundary (p : Fin 32)
  /-- FALLBACK_BOUNDARY (R110) -/
  | fallbackBoundary (p : Fin 32)
  /-- PER_EN_SET (R109) -/
  | perEnSet (p : Fin 32) (v : BitVec 32)
  /-- PER_EN_CLEAR (R111) -/
  | perEnClear (p : Fin 32) (v : BitVec 32)
  /-- PAD_CONFIG_WRITE (R119) -/
  | padConfigWrite (p : Fin 32) (r : PadReg) (v : BitVec 32)
  /-- PRIV_LATE (R116) -/
  | privLate (th : Fin 512)
  /-- DRAM_GRANT (R115) -/
  | dramGrant (l : DramLeaf)
  /-- INCR_LO_WRITE (R122) -/
  | incrLoWrite (n : Fin 8) (v : BitVec 32)
  /-- INCR_HI_WRITE (R122) -/
  | incrHiWrite (n : Fin 8) (v : BitVec 32)
  /-- STEP (R123) -/
  | domStep (n : Fin 8) (reacq : Bool)
  /-- REACQ (R124) -/
  | reacq (n : Fin 8)
  /-- STEP_APPLY (R123) -/
  | stepApply (n : Fin 8)
  /-- SLEW_DONE (R123) -/
  | slewDone (n : Fin 8)
  /-- DOMAIN_ENABLE (R441) -/
  | domainEnable (n : Fin 8) (v : BitVec 32)
  /-- DOMAIN_DISABLE (R441) -/
  | domainDisable (n : Fin 8) (v : BitVec 32)
  /-- REFERENCE_EVENT (R127) -/
  | referenceEvent (o : RefOp)
  /-- COORD_LOST (R128) -/
  | coordLost (n : Fin 8)
  /-- HOLDOVER_EXPIRE (R128) -/
  | holdoverExpire (n : Fin 8)
  /-- SNAP (R133) -/
  | snap
  /-- SNAP_CAPTURE (R133) -/
  | snapCapture
  /-- SNAP_VALID (R133) -/
  | snapValid
  /-- CAPTURE_EDGE (R134) -/
  | captureEdge (i : Fin 8) (o : EdgeOp)
  /-- CAPTURE_POP (R135) -/
  | capturePop (i : Fin 8) (tag : BitVec 8)
  /-- TOUT_CONFIG (R136) -/
  | toutConfig (j : Fin 8) (r : ToutReg) (v : BitVec 32)
  /-- TOUT_TRAIN_EDGE (R136) -/
  | toutTrainEdge (j : Fin 8)
  /-- TOUT_HIGH (R139) -/
  | toutHigh
  /-- TOUT_LOW (R139) -/
  | toutLow
  /-- TOUT_TOGGLE (R139) -/
  | toutToggle
  /-- TOUT_PULSE (R446) -/
  | toutPulse
  /-- PULSE_SECOND_INVERSION (R446) -/
  | pulseSecondInversion (j : Fin 8)
  /-- QSIG (R140) -/
  | qsig
  /-- REG_WR (R139) -/
  | regWr
  /-- ACTION_SNAP (R133) -/
  | actionSnap
  /-- TBU_BLOCK_RESET (R142) -/
  | tbuBlockReset
  /-- LOFT_FORMAT (R147) -/
  | loftFormat
  /-- FORMAT_DONE (R147) -/
  | formatDone
  /-- LOFT_RESUME (R148) -/
  | loftResume
  /-- RESUME_DONE (R148) -/
  | resumeDone
  /-- LOFT_DISABLE (R149) -/
  | loftDisable
  /-- SEAL_BOUNDARY (R153) -/
  | sealBoundary
  /-- SEAL (R153) -/
  | sealNow
  /-- VERSION_WRITE (R158) -/
  | versionWrite
  /-- EPOCH_SEAL (R154) -/
  | epochSeal
  /-- LEASE_EXPIRE (R160) -/
  | leaseExpire
  /-- PIN (R164) -/
  | pin (h : Fin 16)
  /-- UNPIN (R164) -/
  | unpin (h : Fin 16)
  /-- VIEW_READ (R165) -/
  | viewRead (off : BitVec 24) (n : Fin 257)
  /-- START (R166) -/
  | start (c : Fin 2)
  /-- ABORT (R168) -/
  | abort (c : Fin 2)
  /-- SWEEP_CLEAR_DONE (R166) -/
  | sweepClearDone (c : Fin 2)
  /-- SWEEP_EMIT (R167) -/
  | sweepEmit (c : Fin 2)
  /-- SWEEP_END (R168) -/
  | sweepEnd (c : Fin 2)
  /-- MAP_WRITE (R169) -/
  | mapWrite (m : Fin 1024) (pad : Bool) (v : BitVec 32)
  /-- LFT_BLOCK_RESET (R171) -/
  | lftBlockReset
  /-- LFT_RESET_END (R171) -/
  | lftResetEnd
  /-- REPLICA (R174) -/
  | replica (on : Bool)
  /-- REPLICA_EPOCH (R272) -/
  | replicaEpoch (e : BitVec 40) (o : EpochOp)
  /-- ETH_MODE_WRITE (R177) -/
  | ethModeWrite (p : Fin 8) (v : BitVec 32)
  /-- PORT_ENABLE (R177) -/
  | portEnable (p : Fin 8) (v : BitVec 32)
  /-- LINK_UP (R178) -/
  | linkUp (p : Fin 8) (c : LinkCond)
  /-- LINK_DOWN (R180) -/
  | linkDown (p : Fin 8) (c : LinkCond)
  /-- RECEIVE_FRAME (R183) -/
  | receiveFrame (o : RxOp)
  /-- PAUSE_RECEIVED (R188) -/
  | pauseReceived (p : Fin 8) (o : PauseOp)
  /-- PAUSE_EXPIRE (R188) -/
  | pauseExpire (p : Fin 8)
  /-- PAUSE_REFRESH (R189) -/
  | pauseRefresh (p : Fin 8)
  /-- TRANSMIT_FRAME (R186) -/
  | transmitFrame (p : Fin 8) (ago : Nat)
  /-- TRANSMIT_END (R186) -/
  | transmitEnd (p : Fin 8)
  /-- VERIFY_SEND (R191) -/
  | verifySend (p : Fin 8)
  /-- VERIFY_TIMEOUT (R191) -/
  | verifyTimeout (p : Fin 8)
  /-- VERIFY_RECEIVED (R191) -/
  | verifyReceived (p : Fin 8)
  /-- RESPONSE_RECEIVED (R191) -/
  | responseReceived (p : Fin 8)
  /-- TSQ_EXPIRE (R198) -/
  | tsqExpire (p : Fin 8)
  /-- CNT_CLR (R201) -/
  | cntClr (p : Fin 8)
  /-- PORT_RESET (R203) -/
  | portReset (p : Fin 8)
  /-- FT_READ (R226) -/
  | ftRead (x : BitVec 16)
  /-- FT_WRITE (R226) -/
  | ftWrite (x : BitVec 16)
  /-- FT_INVALIDATE (R226) -/
  | ftInvalidate (x : BitVec 16)
  /-- FT_LOOKUP (R226) -/
  | ftLookup
  /-- PIN_CHANGE (R213) -/
  | pinChange (o : PinOp)
  /-- YRD_POOL_WRITE (R205) -/
  | yrdPoolWrite (i : Option (Fin 10)) (v : BitVec 32)
  /-- YRD_BLOCK_RESET (R225) -/
  | yrdBlockReset
  /-- INIT_DONE (R225) -/
  | initDone
  /-- LINE_SELECT (R230) -/
  | lineSelect (o : Fin 10)
  /-- GATE_ENTRY_CHANGE (R235) -/
  | gateEntryChange (p : Fin 8)
  /-- SWAP (R237) -/
  | swap (p : Fin 8)
  /-- CANCEL (R239) -/
  | cancel (p : Fin 8)
  /-- SWAP_TAKE_EFFECT (R239) -/
  | swapTakeEffect (p : Fin 8)
  /-- GCL_ENABLE (R236) -/
  | gclEnable (p : Fin 8) (on : Bool)
  /-- HOLD_ASSERT (R244) -/
  | holdAssert (p : Fin 8)
  /-- HOLD_RELEASE (R244) -/
  | holdRelease (p : Fin 8)
  /-- APPLY (R250) -/
  | apply (i : Fin 2048)
  /-- DEBT_END (R249) -/
  | debtEnd (i : Fin 2048)
  /-- FQ_CFG_WRITE (R229) -/
  | fqCfgWrite (f : Fin 16384) (v : BitVec 32)
  /-- FQ_SEL (R230) -/
  | fqSel (v : BitVec 32)
  /-- SHP_SEL (R248) -/
  | shpSel (v : BitVec 32)
  /-- SCH_BLOCK_RESET (R252) -/
  | schBlockReset
  /-- MIRROR_RECEIVED (R259) -/
  | mirrorReceived (i : Fin 4096) (q : BitVec 16) (key : Nat)
  /-- MIRROR_ACK (R258) -/
  | mirrorAck (i : Fin 4096) (q : BitVec 16)
  /-- ACK_TIMEOUT (R258) -/
  | ackTimeout
  /-- MATCH_WAIT_EXPIRE (R259) -/
  | matchWaitExpire
  /-- RECOVERY_RESET (R262) -/
  | recoveryReset (i : Fin 4096)
  /-- HEARTBEAT_SEND (R263) -/
  | heartbeatSend
  /-- HEARTBEAT_RECEIVED (R264) -/
  | heartbeatReceived (path : HbPath) (w : BitVec 32)
  /-- PARTNER_LOST (R264) -/
  | partnerLost
  /-- PATH_FAULT (R264) -/
  | pathFault (path : HbPath)
  /-- STEPDOWN (R266) -/
  | stepdown (r : StepReason)
  /-- PROMOTE (R266) -/
  | promote
  /-- HANDOVER (R266) -/
  | handover (l : List (Nat × Nat))
  /-- HANDOVER_ACK (R266) -/
  | handoverAck
  /-- DIGEST_SEND (R268) -/
  | digestSend
  /-- DIGEST_RECEIVED (R268) -/
  | digestReceived (n : Int) (d : Nat) (cnt : Nat)
  /-- DIGEST_MISSING (R268) -/
  | digestMissing
  /-- VERDICT (R269) -/
  | verdict (peer : Option Bool)
  /-- GROOM_ROUND (R270) -/
  | groomRound
  /-- KERNEL_SIGNATURE (R270) -/
  | kernelSignature (v : BitVec 32)
  /-- ROUND_END (R270) -/
  | roundEnd
  /-- HEALTH_REPORT (R271) -/
  | healthReport (l : List Byte)
  /-- VOX_MESSAGE_RECEIVED (R275) -/
  | voxMessageReceived (l : Fin 2) (m : VoxRx)
  /-- VOX_LINK_DOWN (R275) -/
  | voxLinkDown (l : Fin 2)
  /-- VOX_LINK_UP (R275) -/
  | voxLinkUp (l : Fin 2) (lanes : BitVec 2) (peer : BitVec 8)
  /-- PEER_MESSAGE (R276) -/
  | peerMessage (o : PeerSrc)
  /-- RED_BLOCK_RESET (R277) -/
  | redBlockReset
  /-- VOX_BLOCK_RESET (R277) -/
  | voxBlockReset
  /-- RED_ENABLE (R408) -/
  | redEnable
  /-- RESOLVE_TIMEOUT (R408) -/
  | resolveTimeout
  /-- RED_SEL (R278) -/
  | redSel (v : BitVec 32)
  /-- ZTT_ENABLE (R299) -/
  | zttEnable (on : Bool)
  /-- CYCLE_START (R305) -/
  | cycleStart
  /-- WINDOW_START (R284) -/
  | windowStart
  /-- FRAME_SEND (R285) -/
  | frameSend
  /-- GUARDIAN_CUT (R288) -/
  | guardianCut
  /-- FRAME_RECEIVED (R282) -/
  | frameReceived (o : ZRx)
  /-- MISS (R306) -/
  | miss
  /-- REFERENCE_SEND (R290) -/
  | referenceSend
  /-- BACKUP_REFERENCE (R292) -/
  | backupReference
  /-- REFERENCE_RECEIVED (R291) -/
  | referenceReceived (o : ZRx)
  /-- REF_MISS (R293) -/
  | refMiss
  /-- POLL_SEND (R286) -/
  | pollSend
  /-- POLL_ANSWER (R287) -/
  | pollAnswer
  /-- COLDSTART (R296) -/
  | coldstart
  /-- READBACK_MISMATCH (R296) -/
  | readbackMismatch (c : Fin 2)
  /-- BACKOFF_END (R296) -/
  | backoffEnd
  /-- SWITCH (R298) -/
  | switch (mode : BitVec 3)
  /-- COMMIT (R301) -/
  | commit (m : Fin 512) (len : BitVec 7)
  /-- CLEAR (R302) -/
  | clear (m : Fin 512)
  /-- ZTT_BLOCK_RESET (R310) -/
  | zttBlockReset
  /-- SQ_DOORBELL (R317) -/
  | sqDoorbell (q : PairId) (idx : BitVec 16)
  /-- CQ_DOORBELL (R317) -/
  | cqDoorbell (q : PairId) (idx : BitVec 16)
  /-- DISABLE (R320) -/
  | disable (q : PairId)
  /-- DRAIN_DONE (R320) -/
  | drainDone (q : PairId)
  /-- SQ_FETCH_RETURN (R318) -/
  | sqFetchReturn (q : PairId) (cov : Bool)
  /-- TX_ENTRY (R326) -/
  | txEntry (i : Fin 4096)
  /-- P9_FRAME (R327) -/
  | p9Frame
  /-- D2H_REQUEST (R328) -/
  | d2hRequest (i : Fin 4096)
  /-- CREATE_PAIR (R323) -/
  | createPair
  /-- DESTROY_PAIR (R323) -/
  | destroyPair
  /-- RESET_QUEUE (R323) -/
  | resetQueue
  /-- CREATE_IQ (R323) -/
  | createIq
  /-- DESTROY_IQ (R323) -/
  | destroyIq
  /-- QUERY (R323) -/
  | query
  /-- SET_IRQ (R323) -/
  | setIrq
  /-- INDEX_WORD (R332) -/
  | indexWord (q : PairId)
  /-- COALESCE_TIMEOUT (R332) -/
  | coalesceTimeout (q : PairId)
  /-- FUNCTION_RESET (R313) -/
  | functionReset (k : FrKind)
  /-- PERST (R422) -/
  | perst (low : Bool)
  /-- HOST_TIMEOUT (R334) -/
  | hostTimeout (q : PairId) (tmo : Bool)
  /-- WRITE (R314) -/
  | write (addr : BitVec 32) (v : BitVec 32)
  /-- READ (R314) -/
  | read (addr : BitVec 32)
  /-- STATUS (R314) -/
  | status
  /-- QM_BLOCK_RESET (R335) -/
  | qmBlockReset
  /-- SAX_ENABLE (R336) -/
  | saxEnable (on : Bool)
  /-- SAX_READY (R336) -/
  | saxReady
  /-- KEEPALIVE (R347) -/
  | keepalive (i : Fin 131072)
  /-- IDLE (R347) -/
  | idle (i : Fin 131072)
  /-- SESSION_RECORD (R350) -/
  | sessionRecord (l : List Byte)
  /-- RESYNC (R349) -/
  | resync
  /-- SAX_BLOCK_RESET (R352) -/
  | saxBlockReset
  /-- SAX_SEL (R353) -/
  | saxSel (v : BitVec 32)
  /-- FAULT_MESSAGE (R356) -/
  | faultMessage
  /-- FAULT_REACTION (R358) -/
  | faultReaction
  /-- FENCE_LIFT (R359) -/
  | fenceLift (w : Fin 2) (v : BitVec 32)
  /-- FENCE_SET (R359) -/
  | fenceSet (w : Fin 2) (v : BitVec 32)
  /-- FORCE (R364) -/
  | force (src : BitVec 6) (v : BitVec 32)
  /-- FW_RAISE (R364) -/
  | fwRaise (v : BitVec 32)
  /-- SAFE (R366) -/
  | safe
  /-- PARITY_FAILURE (R367) -/
  | parityFailure (off : BitVec 26)
  /-- ERR_PULSE_END (R365) -/
  | errPulseEnd
  /-- HOLD (R365) -/
  | hold (v : Bool)
  /-- CASCADE_TAIL_END (R362) -/
  | cascadeTailEnd (src : BitVec 6)
  /-- EVENT_RECORD (R373) -/
  | eventRecord
  /-- RATE_WINDOW (R373) -/
  | rateWindow
  /-- SPILL_WRITE (R375) -/
  | spillWrite
  /-- SPILL_GAP (R375) -/
  | spillGap
  /-- SPILL_ENABLE (R376) -/
  | spillEnable (v : BitVec 32)
  /-- RECORDER_MEM_FAULT (R377) -/
  | recorderMemFault (slot : Fin 8192) (word : Fin 8)
  /-- CURSOR_READ (R379) -/
  | cursorRead (o : CurOp)
  /-- ADV (R378) -/
  | adv (c : Fin 4)
  /-- SEEK_OLDEST (R378) -/
  | seekOldest (c : Fin 4)
  /-- SEEK_HEAD (R378) -/
  | seekHead (c : Fin 4)
  /-- EVR_BLOCK_RESET (R380) -/
  | evrBlockReset
  /-- MEMORY_TEST_DONE (R380) -/
  | memoryTestDone (pass : Bool)
  /-- RETENTION_CLR (R377) -/
  | retentionClr
  /-- PSTATE_EVALUATE (R385) -/
  | pstateEvaluate
  /-- TIMED_WAKE (R385) -/
  | timedWake
  /-- UNTIMED_WAKE (R386) -/
  | untimedWake (c : WakeCause)
  /-- WAKE_DONE (R386) -/
  | wakeDone
  /-- SHED_ENTER (R390) -/
  | shedEnter (vin : BitVec 13)
  /-- SHED_EXIT (R390) -/
  | shedExit (vin : BitVec 13)
  /-- SHED_SEALED (R170) -/
  | shedSealed
  /-- SUPPLY_LOST (R391) -/
  | supplyLost (vin : BitVec 13)
  /-- SH4_RECOVERY (R391) -/
  | sh4Recovery (vin : BitVec 13)
  /-- BROWN_OUT (R392) -/
  | brownOut (vin : BitVec 13)
  /-- THERMAL (R393) -/
  | thermal (tj : BitVec 16)
  /-- RAIL_CHANGE (R382) -/
  | railChange (good : BitVec 4) (vioA33 : Bool) (vioB25 : Bool)
  /-- SH_THR_WRITE (R388) -/
  | shThrWrite (k : Fin 4) (v : BitVec 32)
  /-- PS_MAX_WRITE (R387) -/
  | psMaxWrite (v : BitVec 32)
  /-- RST_N (R397) -/
  | rstN (low : Bool)
  /-- RESET_RELEASE (R397) -/
  | resetRelease (bootSel : BitVec 2) (twinRole : Bool)
  /-- COLD (R395) -/
  | cold (w : Writer) (v : BitVec 32)
  /-- WARM (R395) -/
  | warm (w : Writer) (v : BitVec 32)
  /-- WARM_RELOAD (R401) -/
  | warmReload
  /-- BOOT (R400) -/
  | boot
  /-- IMAGE_FETCHED (R400) -/
  | imageFetched (l : List Byte)
  /-- GO (R402) -/
  | go (v : BitVec 32)
  /-- TWIN_BOOT_RETRY (R402) -/
  | twinBootRetry
  /-- TWIN_IMAGE_REQUEST (R402) -/
  | twinImageRequest
  /-- PASSWORD (R411) -/
  | password (w : Writer)
  /-- CHALLENGE (R412) -/
  | challenge (w : Writer)
  /-- RESPONSE (R412) -/
  | response (w : Writer)
  /-- DEBUG_CLOSE (R415) -/
  | debugClose (w : Writer)
  /-- NONCE_EXPIRE (R412) -/
  | nonceExpire
  /-- FREEZE (R416) -/
  | freeze (low : Bool)
  /-- IDCODE (R410) -/
  | idcode
  /-- SAMPLE_PRELOAD (R410) -/
  | samplePreload (v : Nat)
  /-- EXTEST (R410) -/
  | extest
  /-- SEC_ACCESS (R410) -/
  | secAccess (write : Bool) (addr : BitVec 48) (v : BitVec 32)
  /-- DIAG_READ (R410) -/
  | diagRead (addr : BitVec 48)
  /-- REG_ACCESS (R410) -/
  | regAccess (write : Bool) (addr : BitVec 48) (v : BitVec 32)
  /-- MEM_READ (R417) -/
  | memRead (addr : BitVec 48)
  /-- FRZ_CHAIN (R417) -/
  | frzChain (src : BitVec 8)
  /-- BYPASS (R410) -/
  | bypass
  /-- SVN_EN (R419) -/
  | svnEn (w : Writer) (v : BitVec 32)
  /-- REVOKE (R419) -/
  | revoke (w : Writer) (v : BitVec 32)
  /-- FUSE_DONE (R419) -/
  | fuseDone (ok : Bool)
  /-- SCRUB (R440) -/
  | scrub (off : BitVec 32)
  /-- REGISTER_WRITE (R11) -/
  | registerWrite (w : Writer) (off : BitVec 26) (v : BitVec 32) (be : BitVec 4)
  /-- RXD_FALLING_EDGE (R296) -/
  | rxdFallingEdge (c : Fin 2)
  /-- LO_READ (R175) -/
  | loRead (o : ReadOp)
  /-- RESYNC_COMPLETE (R349) -/
  | resyncComplete
  /-- DEBUG_WAIT_END (R414) -/
  | debugWaitEnd
  /-- LOOPBACK_END (R270) -/
  | loopbackEnd (p : Fin 8) (ok : Bool)
  /-- STAGING_WRITE (R402) -/
  | stagingWrite (off : BitVec 24) (l : List Byte)
  /-- CONFIGURATION_WRITE (R334) -/
  | configurationWrite (o : CfgWrite)
  deriving DecidableEq, Repr

end Sys2Proof
end

