-- ==== Sys2Proof/Machine/State.lean ====
section
/-! DEFINITION. The state of the device: plain data, holding every register and every piece of internal state the spec
gives it, and the state after reset. Comments cite the rule that names each piece. -/
namespace Sys2Proof.Machine

/-! ### Shared kinds of data -/

/-- An ECC mark on a protected word (R23, R440): set by the environment (an upset), cleared by a rewrite. -/
inductive Ecc where
  | ok | ce | ue
  deriving DecidableEq, Repr

/-- What leaves the device: a frame, a message, a pin event. The list `State.outbox` is the model's own record of it. -/
inductive OutKind where
  | ethFrame | ethPause | ethVerify | ethRespond | txStamp
  | mirror | mirrorAck | hbWire | hbVox | handover | handoverAck | digest | verdict | health
  | replEpoch | replSweep | session | peer | voxAck | zttFrame | zttCut
  | qspi | jtag | imgRequest | imgData | hostWrite | hostRead | groom | ethFrag
  deriving DecidableEq, Repr

/-- One emission: kind, unit (port, link, channel, queue), bytes. -/
structure Out where
  kind : OutKind
  unit : Nat
  data : List Byte
  deriving DecidableEq, Repr

/-! ### Barns, engines, threads (spec/02 to spec/05) -/

/-- What a transaction slot carries (R36). -/
inductive TKind where
  | load | store | amo | fence | unit
  deriving DecidableEq, Repr

/-- The space of an access (R31). -/
inductive Space where
  | tack | barn | ctl | dram | host
  deriving DecidableEq, Repr

/-- A transaction in a slot of a thread, in issue order. Memory addresses are those of `State.mem`; control-space ones are
BAR0 offsets; host ones are host addresses. -/
structure Txn where
  id : Nat
  kind : TKind
  space : Space
  addr : Nat
  size : Nat
  /-- destination register, 0 for none or once a later result has superseded it -/
  rd : Nat
  /-- destination register as issued (R40) -/
  dst : Nat
  signed : Bool
  /-- atomic operation, fence kind, or unit operation group -/
  op : Nat
  acq : Bool
  rel : Bool
  /-- store data, atomic operand, or fence mask -/
  data : Nat
  /-- expected value of an AMOCAS -/
  cmp : Nat
  /-- engine address of the access (TVAL), or of the instruction for a fence -/
  ea : Nat
  /-- arguments of a unit operation: operation code, K6, registers -/
  args : List Nat
  /-- result word of a unit operation: STATUS and VALUE, once it has taken effect -/
  res : Option (Nat × Nat)
  /-- the operation waits (FRM.GET, Q.GET, TM.WAIT): the thread issues nothing more (R66) -/
  waits : Bool
  /-- tack bytes the operation reads or writes: address within `State.mem` and length (R92) -/
  tack : Nat
  tackLen : Nat
  /-- a DRAM request that the arbiters have granted (R115) -/
  granted : Bool
  /-- an access to tack that is performed after its issue (R82) -/
  late : Bool
  /-- its wait for a grant has been reported (R116) -/
  told : Bool
  /-- tick of issue -/
  since : Nat
  deriving DecidableEq, Repr

/-- A failed load not yet delivered (R40): order of issue, destination register, address, and what a fence needs of it. -/
structure LoadErr where
  id : Nat
  rd : Nat
  ea : Nat
  space : Space
  amo : Bool
  deriving DecidableEq, Repr

/-- A thread context beside its general registers. -/
structure Thread where
  /-- state code of BRN_THR_STAT: 0 STOPPED, 1 RUN, 2 WAIT, 3 YIELDED, 4 DRAIN, 5 HALTED -/
  st : Nat
  pc : Nat
  lastPc : Nat
  inTrap : Bool
  epc : Nat
  cause : Nat
  tval : Nat
  scratch : Nat
  instret : Nat
  txns : List Txn
  nextId : Nat
  errs : List LoadErr
  /-- a LOAD_ERROR pending at the stop is delivered before the first instruction after the restart (R47) -/
  redeliver : Bool
  /-- a thread that was HALTED when it was drained (R45) -/
  fromHalt : Bool
  /-- destination of a YLD that completes when the thread next issues (R75), and its cycle of yielding -/
  yieldRd : Option Nat
  yieldAt : Nat
  deriving DecidableEq, Repr

/-- A divider at work (R443): thread, destination, result, and the cycle on which it is delivered. -/
structure Divider where
  th : Nat
  rd : Nat
  val : Nat
  due : Nat
  deriving DecidableEq, Repr

/-- A paddock's periods beside its registers (R108 to R110). -/
structure PadSt where
  /-- next boundary, in whole counts of its domain -/
  next : Option Nat
  /-- next fallback boundary, in whole counts of domain 0 -/
  fbNext : Option Nat
  /-- kinds exhausted in this period -/
  exh : Nat
  deriving DecidableEq, Repr

/-- A tier of the memory-path arbiters (R115, R116): its active leaves with their weights as sampled last, the tick at which they last
changed, and the transfers granted to each since the shares hold (R118). Threads are leaves 0 to 511, LFT, SAX, EVR and QM 512 to 515. -/
structure Tier where
  leaves : List (Nat × Nat)
  since : Nat
  got : SMap Nat
  deriving DecidableEq, Repr

/-- The arbiters of the memory path: the two tiers, and the transfers that LFT, SAX, EVR and QM have asked for and not been granted. -/
structure ArbSt where
  priv : Tier
  norm : Tier
  req : List Nat
  deriving DecidableEq, Repr

/-- Barn state beside the registers and memories. -/
structure BrnSt where
  thr : SMap Thread
  /-- general registers: thread × 32 + number; g0 is never stored (R53) -/
  gpr : SMap (BitVec 64)
  /-- CCLK cycles of the engines of each barn since cold reset (R43, R44) -/
  cyc : List Nat
  /-- dividers by engine number -/
  div : SMap (Option Divider)
  /-- cycle at which a barn's block reset ends (R50) -/
  rstEnd : List (Option Nat)
  /-- accesses of threads reset before they were carried through (R50): thread and transaction -/
  orphans : List (Nat × Txn)
  /-- a paddock register has been written since cold reset (R44) -/
  padWritten : Bool
  pad : SMap PadSt
  /-- a further invalidation run is owed (R444), and the cycle bound of the running one -/
  icAgain : Bool
  /-- threads waiting in Q.GET, in the order in which they entered WAIT (R70): queue and thread -/
  qWait : List (Nat × Nat)
  /-- barns that an access to their memory has woken since PS2 gated them (R51): bit b -/
  woken : Nat
  deriving DecidableEq, Repr

/-! ### TBU (spec/06) -/

/-- A time domain (R121). `val` counts 2^-32 ns in domains 0 to 3 and 2^-80 cycle in domains 4 to 7. -/
structure Dom where
  val : Nat
  /-- a write of EN that takes effect on the next tick, domains 1 to 3 (R441) -/
  turn : Option Bool
  /-- increment in force, 2^-32 ns per tick (R122) -/
  incr : Nat
  /-- held low half of the increment (R122) -/
  low : Option Nat
  /-- slew still to be applied, 2^-32 ns (R123) -/
  slew : Int
  /-- step accepted in ACQUIRE, in ns, and the tick of acceptance (R123) -/
  step : Option (Int × Nat)
  /-- rate, 2^-80 cycle per tick (R127) -/
  rate : Nat
  /-- correction still to be spread, 2^-80 cycle, and the ticks left (R127) -/
  corr : Int
  corrTicks : Nat
  /-- tick of the last accepted event -/
  lastEv : Option Nat
  /-- tick of the last ENC_Z event and forward edges counted since -/
  lastZ : Option Nat
  edges : Nat
  /-- ticks of the events observed while UNLOCKED (R128) -/
  obs : List Nat
  /-- rejected events in a row -/
  rejects : Nat
  /-- tick at which HOLDOVER began -/
  holdAt : Nat
  /-- the domain has been LOCKED since cold reset (R125) -/
  locked : Bool
  deriving DecidableEq, Repr

/-- A pending scheduled action (R137 to R139); `time` is in the units of its domain's `val`. -/
structure Action where
  slot : Nat
  gen : Nat
  dom : Nat
  time : Nat
  kind : Nat
  queue : Nat
  pin : Nat
  arg : Nat
  thread : Nat
  /-- order of acceptance -/
  order : Nat
  /-- tick of acceptance -/
  since : Nat
  /-- entered late under LATE_POLICY = 1: runs on the next tick -/
  nextTick : Bool
  /-- the tick on which it first was due has passed (R139) -/
  deferred : Bool
  deriving DecidableEq, Repr

/-- A capture: its tag and its stamp record (R134). -/
structure Capture where
  tag : Nat
  stamp : BitVec 256
  deriving DecidableEq, Repr

/-- TBU state beside its registers. -/
structure TbuSt where
  dom : SMap Dom
  acts : List Action
  /-- generation of each action slot -/
  gens : SMap Nat
  order : Nat
  /-- actions run on the current tick (R139) -/
  ranTick : Nat
  ranCnt : Nat
  /-- a snapshot's capture tick (R133) -/
  snapAt : Option Nat
  /-- tick at which the captured snapshot becomes valid -/
  snapValid : Option Nat
  /-- captured words of the snapshot: 160 bits per domain -/
  snap : List Nat
  cap : List (List Capture)
  capTag : List Nat
  /-- level driven on each TOUT pin -/
  tout : List Bool
  /-- next leading edge of a periodic train, in whole counts of its domain (R136) -/
  train : List (Option Nat)
  /-- second inversions: due tick, pin, domain of the action (R446) -/
  pulses : List (Nat × Nat × Nat)
  /-- domain 0 just before each change of its value, era or state in the last 100 ms: tick, value, era, state byte of a stamp (R132) -/
  past : List (Nat × Nat × Nat × Nat)
  deriving DecidableEq, Repr

/-! ### LFT (spec/07) -/

/-- A staged put (R150): point, quality, value, expected value of a compare-and-put, the REPL captured from its map entry,
and the count of map writes before it (R169). -/
structure LPut where
  point : Nat
  q : Nat
  val : BitVec 128
  exp : Option (BitVec 128)
  repl : Bool
  gen : Nat
  deriving DecidableEq, Repr

/-- An open transaction: handle, owning thread, puts in order, first failure status or 0 (R72). -/
structure LTxn where
  handle : Nat
  owner : Nat
  puts : List LPut
  fail : Nat
  deriving DecidableEq, Repr

/-- An engine pin or a view's pin (R160): `expiry` is the tick at which the lease has run out. -/
structure LPin where
  handle : Nat
  owner : Nat
  epoch : Nat
  expiry : Nat
  broken : Bool
  deriving DecidableEq, Repr

/-- A version ordered by a commit and not yet written (R155). -/
structure LWrite where
  epoch : Nat
  point : Nat
  ver : BitVec 256
  repl : Bool
  deriving DecidableEq, Repr

/-- A held version and its epoch range (R162); `err` when the copy met an uncorrected error. -/
structure Held where
  point : Nat
  lo : Nat
  hi : Nat
  ver : BitVec 256
  err : Bool
  deriving DecidableEq, Repr

/-- A sweep channel (R166 to R168) beside its registers. -/
structure Sweep where
  epoch : Nat
  /-- points marked swept by push-ahead -/
  swept : SMap Bool
  /-- map entries captured with SWEEP = 0 -/
  skip : List Nat
  /-- push buffer, oldest first: point, version, error -/
  push : List (Nat × BitVec 256 × Bool)
  /-- count of map writes before the start (R169) -/
  gen : Nat
  /-- the sweep re-synchronises the partner (R273) -/
  rsync : Bool
  deriving DecidableEq, Repr

/-- The resume header (R147, R148): newest sealed epoch, SIZE_LOG2 and the bases it names. -/
structure LHdr where
  top : Nat
  size : Nat
  base : Nat
  aux : Nat
  deriving DecidableEq, Repr

/-- LFT state beside its registers and the slots in DRAM. -/
structure LftSt where
  /-- the open epoch, if any (R153, R157) -/
  opn : Option Nat
  /-- newest sealed epoch -/
  sealed : Nat
  /-- closed epochs not yet sealed, oldest first, and their boundary ticks (R154) -/
  closed : List (Nat × Nat)
  /-- versions waiting to be written, in commit order (R155) -/
  writes : List LWrite
  txns : List LTxn
  pins : List LPin
  /-- pins of the 16 host views (R164) -/
  views : List (Option LPin)
  held : List Held
  sweeps : SMap Sweep
  /-- next grid boundary, in whole counts of domain 0, and the interval in force, in µs (R153) -/
  next : Option Nat
  ivl : Nat
  /-- tick of an extra boundary (SEAL, SH2, a step) -/
  extra : Option Nat
  /-- tick of the last boundary -/
  lastB : Option Nat
  /-- the resume headers last written, newest first, each with the place of its free bytes (R148, log 43) -/
  headers : List (LHdr × Nat)
  /-- 0 none, 1 formatting, 2 reading the resume header -/
  work : Nat
  /-- work abandoned at SH2, to start again (R170) -/
  redo : Nat
  /-- LFT has been enabled since cold reset (R148) -/
  enabled : Bool
  /-- for each resume of a loft, its region and the epoch S resumed at: slots written before it with an EPOCH above S hold no committed
  value (R149, R447) -/
  cuts : List (Nat × Nat)
  /-- by slot address, how many of `cuts` came before its last write -/
  gens : SMap Nat
  /-- epochs of the partner that wait to be written: epoch, versions, and whether a re-synchronisation carried them (R272, R273) -/
  inbox : List (Nat × List (Nat × BitVec 256) × Bool)
  /-- the epoch that each view last pinned (R175) -/
  vep : List Nat
  /-- the boundary of SH2 has passed (R170) -/
  shedB : Bool
  /-- replicated versions of unsealed epochs: epoch, point, version (R272) -/
  repl : List (Nat × Nat × BitVec 256)
  /-- map writes so far (R169) -/
  mapSeq : Nat
  deriving DecidableEq, Repr

/-- VOX replication state (R273): epochs in the replication buffer, with their messages. -/
structure ReplEpoch where
  epoch : Nat
  data : List Byte
  deriving DecidableEq, Repr

/-! ### Frames, ports, queues (spec/08 to spec/10) -/

/-- A frame in the yard (R204): its handle (first cell), cells, how many came from each pool, input (8 for FRM.NEW, 9 for
the host), contents without FCS, references, and what classification captured (R211). -/
structure Frame where
  handle : Nat
  cells : List Nat
  /-- cells taken from the input's reserve, the shared pool, the privileged reserve (R205) -/
  rsv : Nat
  sh : Nat
  priv : Nat
  input : Nat
  data : List Byte
  refs : Nat
  /-- thread that holds it by engine handle (R67) -/
  owner : Option Nat
  /-- priority for flow control (R185), and whether the tag gave it -/
  pri : Nat
  pcp : Bool
  err : Bool
  flow : Nat
  fver : Nat
  hash : Nat
  stamp : BitVec 256
  /-- classified after this many flow-table writes, and not yet taken by FRM.GET (R211) -/
  gen : Option Nat
  /-- 8-byte words of the contents with an uncorrected error (R224): set by the environment -/
  bad : List Nat
  /-- position in `cells` of a cell whose link word has an uncorrected error (R224): set by the environment -/
  badLink : Option Nat
  deriving DecidableEq, Repr

/-- A queue token (R207): one frame on one VOQ or flow queue, in order of enqueueing. -/
structure Token where
  frame : Nat
  input : Nat
  out : Nat
  tc : Nat
  fq : Option Nat
  tick : Nat
  /-- tag of the frame's time-stamp entry -/
  ts : Option Nat
  hash : Nat
  deriving DecidableEq, Repr

/-- A flow-table entry (R210). -/
structure FtEnt where
  key : BitVec 128
  act : Nat
  act2 : Nat
  ver : Nat
  deriving DecidableEq, Repr

/-- A frame held by a pin change (R213): pin index and frame, and the pin group and h[25:16] that gave the index. -/
structure PinHeld where
  k : Nat
  frame : Nat
  via : Nat × Nat
  deriving DecidableEq, Repr

/-- A change of a pin group that moved flows to other threads (R213): the group, its base and size before, and the frames that the
previous threads had not taken then, with the pin index of each. -/
structure PinMove where
  grp : Nat
  base : Nat
  size : Nat
  left : List (Nat × Nat)
  deriving DecidableEq, Repr

/-- YRD state beside its registers. -/
structure YrdSt where
  frames : List Frame
  toks : List Token
  /-- delivery list of each thread: frame and pin index (R212) -/
  dlv : SMap (List (Nat × Option Nat))
  pinHeld : List PinHeld
  /-- changes of pin groups whose earlier frames have not all been taken -/
  moves : List PinMove
  ft : SMap FtEnt
  /-- entries with an uncorrected error: set by the environment (R224) -/
  ftBad : SMap Bool
  /-- flow-table writes so far (R211) -/
  ftSeq : Nat
  retired : List Nat
  /-- frames counted by each sampler (R220) -/
  smp : SMap Nat
  deriving DecidableEq, Repr

/-- An entry of a port's transmit time-stamp queue (R195): state 0 PENDING, 1 DONE, 2 NOT_SENT. -/
structure TsEnt where
  tag : Nat
  st : Nat
  stamp : BitVec 256
  since : Nat
  deriving DecidableEq, Repr

/-- A frame on the line or pre-empted (R186, R192): frame bytes already sent in earlier fragments, fragments sent, tick and
bytes of the piece on the line, whether it is the last piece. -/
structure Line where
  tok : Token
  data : List Byte
  pre : Bool
  done : Nat
  frags : Nat
  start : Nat
  piece : Nat
  last : Bool
  /-- time of its SFD or SMD-S since reset, in 2^-32 ns -/
  sfd : Nat
  /-- end of the admitted transmission, for overruns (R246) -/
  fitEnd : Nat
  /-- a yard read failed: the frame ends with an inverted FCS (R187) -/
  err : Bool
  deriving DecidableEq, Repr

/-- A frame being reassembled (R194): its handle in the yard, or none once it has found no cell (R206); bytes, next fragment count, the
receive stamp of its SMD-S; the captured result of its classification, once made: the entry it hit, if any (R208, R211). -/
structure Assy where
  h : Option Nat
  data : List Byte
  next : Nat
  stamp : BitVec 256
  bad : Bool
  cls : Option (Option FtEnt)
  deriving DecidableEq, Repr

/-- What a port in loopback returns to its own receive path (R181): what left it, as what it is received, bytes without the FCS, whether
the FCS is bad, and the time of its SFD since reset in 2^-32 ns. -/
structure Looped where
  kind : OutKind
  rx : RxKind
  data : List Byte
  bad : Bool
  sfd : Nat
  deriving DecidableEq, Repr

/-- A port beside its registers. -/
structure Port where
  /-- counters of 40 bits (R199) -/
  cnt : SMap Nat
  /-- received holds: start and end tick, for pause and each priority (R188) -/
  pause : Option (Nat × Nat)
  pfc : List (Option (Nat × Nat))
  /-- tick since which a received hold has been in force, and the quanta of it counted so far -/
  heldSince : Option Nat
  heldQ : Nat
  /-- what the PCS and the PHY reported last (R178) -/
  cond : LinkCond
  /-- tick of the last remote fault sequence reported (R178) -/
  rfLast : Option Nat
  /-- restarted in SHED_MODE by a DEGRADE reaction (R360) -/
  degraded : Bool
  /-- tick of the last XOFF sent: pause, and each priority (R189) -/
  xoff : Nat
  xoffP : List Nat
  tsq : List TsEnt
  /-- selected by SCH and not yet started -/
  sel : Option Token
  selPre : Bool
  tx : Option Line
  /-- a pre-empted frame waiting to go on -/
  cut : Option Line
  /-- tick from which the line is free after MAC control frames and gaps (R190) -/
  free : Nat
  /-- MAC control frames that wait for the next frame or fragment boundary: opcode and bytes (R190) -/
  ctl : List (Nat × List Byte)
  /-- what loopback returns, in order (R181), and the groom frames that returned intact (R270) -/
  loop : List Looped
  groomRx : Nat
  rx : Option Assy
  /-- end of the running verify wait (R191) -/
  verEnd : Option Nat
  /-- tick at which CNT_CLR-independent LOOP of a groom round ends (R270) -/
  loopEnd : Option Nat
  deriving DecidableEq, Repr

/-- A leaf in a round list (R232), or a class in the class round (R233): identity, deficit, whether its turn has started. -/
structure RLeaf where
  id : Nat
  def_ : Nat
  turn : Bool
  deriving DecidableEq, Repr

/-- A running shaper (R248 to R250): buckets in 2^-24 byte. -/
structure Shaper where
  mode : Nat
  cir : Nat
  eir : Nat
  cbs : Nat
  ebs : Nat
  cb : Int
  eb : Int
  deriving DecidableEq, Repr

/-- Gate state of a port beside its registers: start of a pending swap (R238), longest open runs (R247), whether a list whose
domain fell back waits for lock (R240). -/
structure Gcl where
  pend : Option Nat
  runs : List (Option Nat)
  wait : Bool
  /-- start at which a list in fallback runs again (R240) -/
  re : Option Nat
  /-- domain and start of the SET_HOLD entry for which the hold was asserted (R244) -/
  holdAt : Option (Nat × Nat)
  /-- cycle of the list in which the entry in effect was last taken -/
  cyc : Nat
  deriving DecidableEq, Repr

/-- SCH state beside its registers. -/
structure SchSt where
  gcl : SMap Gcl
  shp : SMap Shaper
  /-- round lists: of class queue (o, c) at 8·o + c; of the express classes of output o at 2·o, of its preemptable classes at 2·o + 1 -/
  rounds : SMap (List RLeaf)
  crounds : SMap (List RLeaf)
  /-- gate entries that fail parity, at 2048·p + k: set by the environment (R251) -/
  bad : SMap Bool
  /-- frame selected for P9 (R327) -/
  sel9 : Option Token
  /-- tick from which the line of P9 is free -/
  free9 : Nat
  deriving DecidableEq, Repr

/-! ### RED and VOX (spec/11) -/

/-- A generation stream (R256, R258): event counter, position in the stream cycle, last stream cycle. -/
structure GenSt where
  next : Nat
  j : Nat
  lastM : Option Int
  deriving DecidableEq, Repr

/-- A recovery stream (R262): RECOV, marked numbers within the window, tick of the last pass, counters. -/
structure RecSt where
  takeAny : Bool
  recov : Nat
  hist : List Nat
  last : Nat
  pass : Nat
  dup : Nat
  rogue : Nat
  lost : Nat
  notag : Nat
  resets : Nat
  deriving DecidableEq, Repr

/-- A frame that RED holds (R258, R259): `seq` when it is numbered and waits for its mirror's acknowledgement. -/
structure RedHeld where
  stream : Nat
  tok : Token
  key : Nat
  seq : Option Nat
  since : Nat
  deriving DecidableEq, Repr

/-- A mirror entry stored on the standby (R259). -/
structure Mirror where
  stream : Nat
  seq : Nat
  key : Nat
  since : Nat
  deriving DecidableEq, Repr

/-- A cycle's output digest (R268): cycle number, exclusive-or, count. -/
structure Digest where
  n : Int
  d : Nat
  cnt : Nat
  deriving DecidableEq, Repr

/-- RED state beside its registers. -/
structure RedSt where
  gen : SMap GenSt
  recs : SMap RecSt
  /-- held frames in the order of their puts -/
  held : List RedHeld
  mirrors : List Mirror
  /-- COUNT of the next heartbeat word, and the tick of the last word sent (R263) -/
  hbCnt : Nat
  hbLast : Option Nat
  /-- tick of the last valid word on each path (R264) -/
  wireAt : Option Nat
  voxAt : Option Nat
  /-- tick from which silence counts while no word has arrived (R408) -/
  since : Nat
  /-- tick since which the partner's words have shown RESOLVING (R408) -/
  resolving : Option Nat
  /-- tick at which the member became ACTIVE on a RESOLVING or STANDBY word (R408) -/
  actAt : Option Nat
  /-- RESOLVING was entered after a RED block reset -/
  afterRst : Bool
  /-- shed level in the partner's last valid word -/
  peerShed : Nat
  /-- orderly hand-over on the active: 0 none, 1 waiting for acknowledgements, 2 HANDOVER sent (R266) -/
  ho : Nat
  /-- the hand-over follows a verdict: the old active goes OUT (R269) -/
  outAfter : Bool
  /-- digests of our cycles not yet compared, and the partner's (R268) -/
  digs : List Digest
  /-- the last cycle whose digest was sent -/
  digSent : Option Int
  peerDigs : List Digest
  digRun : Nat
  /-- tick of the DIVERGED declaration and this member's verdict (R269) -/
  divAt : Option Nat
  myV : Option Bool
  /-- start tick of the running round, and whether it is a verdict round (R270) -/
  round : Option Nat
  roundV : Bool
  loopOk : Option Bool
  /-- error counts at the previous round: DRAM uncorrected, DRAM corrected, barn SRAM uncorrected -/
  ueSeen : Nat
  ceSeen : Nat
  sramSeen : Nat
  /-- DRAM corrected, DRAM uncorrected and SRAM uncorrected errors between the last two rounds (R271) -/
  delta : List Nat
  /-- start tick of the last round -/
  lastRound : Nat
  /-- the partner's last valid word showed DIVERGED -/
  peerDiv : Bool
  /-- the present silence of a path has been reported (R264) -/
  wireRep : Bool
  voxRep : Bool
  /-- heartbeat summary bits last reported (R271) -/
  health : Nat
  /-- the final word of SH4 has been sent (R265) -/
  stopped : Bool
  deriving DecidableEq, Repr

/-- VOX state beside its registers: consecutive replays of each link (R275), the replication buffer (R273). -/
structure VoxSt where
  replays : List Nat
  replBuf : List ReplEpoch
  deriving DecidableEq, Repr


/-! ### ZTT (spec/12). Times are in 2^-16 tick; bit counts are from the start of the basic cycle. -/

/-- A message buffer beside its registers: committed page and the basic cycle of its commit (R301); basic cycle of the last frame
stored, and whether it was NULL (R304). -/
structure ZBuf where
  page : Option (List Byte)
  born : Nat
  got : Option (Nat × Bool)
  deriving DecidableEq, Repr

/-- The current window as checked and latched at its start (R283, R284, R301). `latch`, per channel: nothing to send, or NULL, or
the payload. -/
structure ZWin where
  w : Nat
  kind : Nat
  owner : Nat
  en : List Bool
  buf : List Nat
  start : Nat
  len : Nat
  latch : List (Option (Option (List Byte)))
  /-- a valid frame arrived, per channel (R306) -/
  got : List Bool
  judged : Bool
  sent : Bool
  /-- node polled, channels of the poll, answered (R287) -/
  poll : Option (Nat × List Bool)
  answered : Bool
  deriving DecidableEq, Repr

/-- A frame on the bus (R288, R296): channels, end, end of the permission, read-back mismatch seen and its channel, the buffer an
answer consumes. -/
structure ZTx where
  chans : List Bool
  tss : Int
  fin : Int
  perm : Int
  mism : Option Nat
  ans : Option Nat
  deriving DecidableEq, Repr

/-- ZTT state beside its registers. -/
structure ZttSt where
  buf : SMap ZBuf
  /-- words with an uncorrected error, set by the environment (R309): window entries, buffers -/
  badEnt : SMap Bool
  badBuf : SMap Bool
  /-- start of the current basic cycle, while one runs -/
  s : Option Int
  /-- parameters of the current basic cycle: NCYC, NWIN, BASE, CYC_BT, L0 -/
  ncyc : Nat
  nwin : Nat
  base : Nat
  cycBt : Nat
  l0 : Nat
  /-- basic cycles since cold reset -/
  abs : Nat
  win : Option ZWin
  /-- end of the last window not treated as FREE for its times (R283) -/
  prevEnd : Nat
  /-- the reference accepted in this window 0: channel and bytes (R291) -/
  refGot : Option (Nat × List Byte)
  refSent : Bool
  refJudged : Bool
  /-- basic cycles in a row without a reference (R293) -/
  missRun : Nat
  /-- last derived cycle start, with its MODE and count (R281) -/
  der : Option (Int × Nat × Nat)
  /-- the first reference of INTEGRATE: CYCLE, MCOUNT (R295) -/
  first : Option (Nat × Nat)
  tx : Option ZTx
  /-- frames in a row with a mismatch in RUN (R297); intact references in COLDSTART (R295) -/
  rbRun : Nat
  intact : Nat
  /-- end of the cold-start back-off (R296) -/
  back : Option Int
  /-- tick of entry to LISTEN or of the last falling edge on an enabled channel since; tick of the last falling edge -/
  listen : Nat
  edge : Option Nat
  /-- the master role was taken as a backup (R292, R307) -/
  asBackup : Bool
  /-- mode that firmware requested, and whether a reference has carried it (R298) -/
  req : Option Nat
  reqSent : Bool
  /-- RQ of each node's most recent valid frame (R286) -/
  rq : List Bool
  /-- node last polled in each group -/
  lastPoll : List Nat
  /-- stamp record of the last reference -/
  refW : BitVec 256
  /-- recent writes of mode descriptors and entries: offset, value before, tick (R284) -/
  hist : List (Nat × Nat × Nat)
  deriving DecidableEq, Repr

/-! ### QM (spec/13) -/

/-- An internal queue (R323): a ring in DRAM. -/
structure Iq where
  made : Bool
  event : Bool
  log2N : Nat
  base : Nat
  /-- 64-byte entries -/
  wide : Bool
  p : Nat
  c : Nat
  deriving DecidableEq, Repr

/-- A fetched SQ entry: its index and bytes. -/
structure SqEnt where
  idx : Nat
  data : List Byte
  deriving DecidableEq, Repr

/-- A completion that waits for a transmit stamp: port and tag of the stamp entry, SQ index, entry tag, length. -/
structure TsWait where
  port : Nat
  tsTag : Nat
  idx : Nat
  tag : Nat
  len : Nat
  deriving DecidableEq, Repr

/-- A host queue pair (R315 to R321). Indices are free-running 16-bit counters. -/
structure Pair where
  state : Nat
  kind : Nat
  nSq : Nat
  nCq : Nat
  sqBase : Nat
  cqBase : Nat
  idxAddr : Nat
  sqWide : Bool
  cqWide : Bool
  vector : Nat
  noInt : Bool
  coalCnt : Nat
  coalUs : Nat
  sqP : Nat
  sqC : Nat
  cqP : Nat
  cqC : Nat
  gen : Nat
  err : Nat
  /-- entries fetched and not yet taken, in SQ order -/
  ents : List SqEnt
  /-- D2H requests accepted and not yet processed (R328) -/
  d2h : List (List Byte)
  /-- TX completions that wait for a stamp (R326) -/
  tsWait : List TsWait
  /-- completions not yet signalled and the tick of the oldest (R332) -/
  unsig : Nat
  oldest : Nat
  /-- an index word is owed; CQ entries stand behind it; the tick of the last one (R332) -/
  idxDue : Bool
  batch : Bool
  idxAt : Nat
  deriving DecidableEq, Repr

/-- An admin command waiting: from the admin queue (its SQ index) or from the registers. -/
structure AdmCmd where
  fromRegs : Bool
  idx : Nat
  data : List Byte
  deriving DecidableEq, Repr

/-- QM state beside its registers. Pair 65536 is the admin pair. -/
structure QmSt where
  iq : SMap Iq
  pair : SMap Pair
  cmds : List AdmCmd
  /-- MSI-X table: masked vectors and the function mask (R333) -/
  vecMask : Nat
  funcMask : Bool
  /-- end tick of a QM block reset -/
  rstEnd : Option Nat
  /-- SPI STATUS bits: ERR and WRITE_BUSY (R314) -/
  spiErr : Bool
  /-- host writes waiting while Bus Master Enable is 0 or QM is fenced (R334, R335) -/
  posted : List (Nat × List Byte)
  /-- deliveries to queues waiting while QM is fenced or not enabled: queue, bytes, and the fields that advance if the queue does not take
  the entry -/
  held : List (Nat × List Byte × List Fld)
  deriving DecidableEq, Repr

/-- Interrupts (R333): cause bits, pending MSI-X messages, requests up, messages sent (the model's own record). -/
structure IrqSt where
  stat : Nat
  pend : Nat
  prev : List Nat
  sent : List Nat
  deriving DecidableEq, Repr

/-! ### SAX (spec/14) -/

/-- A receive or transmit key of a session (R340): epoch, static IV, AES key, record-number key; the next record number, the 64
numbers below it as marks (bit 0 the highest, R343); records sent under it (R344). -/
structure SKey where
  epoch : Nat
  iv : List Byte
  key : List Byte
  sn : List Byte
  next : Nat
  win : Nat
  used : Nat
  deriving DecidableEq, Repr

/-- A session (R337, R340). Buckets are in 1/250,000,000 byte, brought up to date at tick `at_` (R346); timers hold the tick at
which they expire (R347). -/
structure Sess where
  opn : Bool
  mode : Nat
  aes256 : Bool
  cir : Nat
  cbs : Nat
  eir : Nat
  ebs : Nat
  cb : Nat
  eb : Nat
  at_ : Nat
  idleMs : Nat
  kaMs : Nat
  fw : List Byte
  rx : Option SKey
  old : Option SKey
  tx : Option SKey
  ka : Option Nat
  idle : Option Nat
  cnt : List Nat
  deriving DecidableEq, Repr

/-- SAX state beside its registers. -/
structure SaxSt where
  sess : SMap Sess
  /-- entries with an uncorrected error: set by the environment (R352) -/
  bad : SMap Bool
  /-- a table key is being drawn and sessions are being cleared (R336) -/
  clearing : Bool
  /-- the millisecond of the last timer event, and timer events posted in it (R348) -/
  ms : Nat
  msCnt : Nat
  /-- received session records that wait (R351, R352) -/
  inWait : List (List Byte)
  /-- a RESYNC whose records have not been sent (R349) -/
  resync : Bool
  /-- the timers were armed for the ACTIVE role (R350) -/
  active : Bool
  /-- SAX is unpowered (R351) -/
  dark : Bool
  deriving DecidableEq, Repr

/-! ### FCU and EVR (spec/15) -/

/-- A fault message on its way to the FCU (R354). -/
structure FaultMsg where
  src : Nat
  kind : Nat
  detail : Nat
  injected : Bool
  /-- tick of detection -/
  tick : Nat
  deriving DecidableEq, Repr

/-- A fault taken, whose reactions start at tick `due` (R358): `byte` is the reaction byte in force for it. -/
structure React where
  src : Nat
  kind : Nat
  detail : Nat
  real : Bool
  inj : Bool
  byte : Nat
  first : Bool
  cnt : Nat
  due : Nat
  deriving DecidableEq, Repr

/-- FCU state beside its registers. -/
structure FcuSt where
  /-- messages sent and not yet taken (R356) -/
  inbox : List FaultMsg
  /-- faults taken whose reactions have not started (R358) -/
  react : List React
  /-- sources whose block reset is running (R361, R362) -/
  inReset : List Nat
  /-- cascade tails: source and the tick at which the interval ends (R362) -/
  tail : List (Nat × Nat)
  /-- end tick of the running ERR_N pulse (R365) -/
  pulseEnd : Option Nat
  /-- HOLD = 0 was written during a pulse (R365) -/
  holdOff : Bool
  deriving DecidableEq, Repr

/-- One event record (R372) before acceptance; `dropped` and RESERVE are filled in on acceptance. -/
structure ERec where
  stamp : Nat
  era : Nat
  code : Nat
  writer : Nat
  flags : Nat
  arg0 : Nat
  arg1 : Nat
  deriving DecidableEq, Repr

/-- EVR state beside its registers. Records are 256-bit numbers, byte 0 in the low bits. -/
structure EvrSt where
  /-- records offered by blocks and not yet accepted (R373) -/
  offered : List ERec
  /-- next sequence number (R375) -/
  head : Nat
  /-- oldest readable sequence number (R375) -/
  tail : Nat
  /-- on-chip records by sequence -/
  chip : SMap (Option (BitVec 256))
  /-- records of the 16-entry reserve by sequence (R377) -/
  resv : SMap (Option (BitVec 256))
  /-- sequences held in the DRAM spill ring -/
  spilled : SMap Bool
  /-- next sequence to be copied to the spill ring -/
  spillNext : Nat
  /-- first missing sequence and number missing of the current run (R375) -/
  gap : Option (Nat × Nat)
  /-- records of each code index accepted in the window (R373) -/
  winCnt : SMap Nat
  /-- records of each code index suppressed since its last record -/
  dropCnt : SMap Nat
  /-- first tick of the current rate window -/
  winStart : Nat
  /-- cursor positions (R378) -/
  cur : List Nat
  /-- retention reserve, newest first (R377) -/
  ret : List (BitVec 256)
  deriving DecidableEq, Repr

/-! ### PWR, GCTL, SEC (spec/16, spec/17) -/

/-- PWR state beside its registers. -/
structure PwrSt where
  /-- tick at which a wake completes (R386) -/
  wakeDue : Option Nat
  /-- the last temperature measurement was at or above the limit (R393) -/
  hot : Bool
  /-- tick at which the current power state was entered, and ticks spent in each state (R387) -/
  psSince : Nat
  psTicks : List Nat

  deriving DecidableEq, Repr

/-- Fuses (R400, R419): the environment's, read before the boot ROM starts. -/
structure Fuses where
  grade : Nat
  debug : Bool
  serial : Nat
  keyHash : List (List Byte)
  prog : Nat
  revoked : Nat
  svnMin : Nat
  deviceKey : List Byte
  deriving DecidableEq, Repr

/-- GCTL and boot state beside the registers. -/
structure GctlSt where
  /-- a cold reset holds the device (R397) -/
  inReset : Bool
  /-- RST_N is asserted since this tick -/
  rstLow : Option Nat
  /-- FRZ_N is held asserted -/
  frzLow : Bool
  /-- brown-out holds the reset (R392) -/
  brown : Bool
  /-- the device is frozen (R416) -/
  frozen : Bool
  /-- tick of the last of the events of R397, from which the release counts -/
  relFrom : Nat
  fuses : Fuses
  /-- usable DRAM fitted, in MiB, and whether training succeeds (environment) -/
  dramMiB : Nat
  dramOk : Bool
  /-- GCTL_RST_CAUSE fields, retained -/
  cause : Nat
  warmCnt : Nat
  froze : Bool
  wasSafe : Bool
  /-- the staging region holds an image that passed step 6 at the last cold boot, and its length (R401) -/
  staged : Bool
  /-- FLAGS of the running image (R404) -/
  imgFlags : Nat
  ownerHash : List Byte
  /-- LOCK bits the ROM holds until step 9: register offsets (R400) -/
  heldLocks : List Nat
  /-- last failure code reported (R403) -/
  lastFail : Nat
  /-- tick before which a twin boot does not ask again (R402) -/
  twinRetry : Option Nat
  /-- a warm reset has happened and the warm reload has not run yet -/
  reloadDue : Bool
  /-- PE_PERST_N is low (R422) -/
  perst : Bool
  /-- the boot ROM: 0 not run, 1 fetching from flash, 2 fetching copy B, 3 waiting for the host, 4 waiting for the twin,
  5 stopped after a failure, 6 done -/
  phase : Nat
  /-- key slot of the running image (R419) -/
  keySlot : Nat
  deriving DecidableEq, Repr

/-- SEC state beside its registers. -/
structure SecSt where
  /-- nonce drawn and the tick at which it ends (R412) -/
  nonce : Option (List Byte × Nat)
  /-- failures and the tick at which the wait ends (R414), retained -/
  fails : Nat
  waitEnd : Option Nat
  /-- retention was lost: a wait of 60 s starts at the release of the internal reset -/
  relWait : Bool
  /-- a fuse command being programmed: end tick, result code, new SVN minimum, revocations (R419) -/
  fuse : Option (Nat × Nat × Nat × Nat)
  /-- bytes written to SEC_DBG_DATA (reads return 0) -/
  data : List Byte
  /-- JTAG: result of the previous access, and whether it is valid (R410) -/
  jtagData : Nat
  jtagValid : Bool
  /-- boundary-scan values preloaded, and whether EXTEST drives the pins with them (R410) -/
  bsr : Nat
  extest : Bool
  deriving DecidableEq, Repr

/-! ### Reset values of the parts -/

/-- FcuSt at reset. -/
def FcuSt.init : FcuSt :=
  { inbox := [], react := [], inReset := [], tail := [], pulseEnd := none, holdOff := false }

/-- EvrSt at reset. -/
def EvrSt.init : EvrSt :=
  { offered := [], head := 0, tail := 0, chip := [], resv := [], spilled := [], spillNext := 0, gap := none,
    winCnt := [], dropCnt := [], winStart := 0, cur := [0, 0, 0, 0], ret := [] }

/-- QmSt at reset. -/
def QmSt.init : QmSt :=
  { iq := [], pair := [], cmds := [], vecMask := 2 ^ 64 - 1, funcMask := false, rstEnd := none,
    spiErr := false, posted := [], held := [] }

/-- IrqSt at reset. -/
def IrqSt.init : IrqSt :=
  { stat := 0, pend := 0, prev := [], sent := [] }

/-- PwrSt at reset. -/
def PwrSt.init : PwrSt :=
  { wakeDue := none, hot := false, psSince := 0, psTicks := [0, 0, 0, 0, 0] }

/-- Fuses at reset. -/
def Fuses.init : Fuses :=
  { grade := 1, debug := false, serial := 0, keyHash := [[], [], [], []], prog := 0, revoked := 0,
    svnMin := 0, deviceKey := [] }

/-- GctlSt at reset. -/
def GctlSt.init : GctlSt :=
  { inReset := false, rstLow := none, frzLow := false, brown := false, frozen := false, relFrom := 0,
    fuses := Fuses.init, dramMiB := 3584, dramOk := true, cause := 1, warmCnt := 0, froze := false,
    wasSafe := false, staged := false, imgFlags := 0, ownerHash := [], heldLocks := [], lastFail := 0,
    twinRetry := none, reloadDue := false, perst := false, phase := 0, keySlot := 0 }

/-- SecSt at reset. -/
def SecSt.init : SecSt :=
  { nonce := none, fails := 3, waitEnd := some 15000000000, relWait := false, fuse := none, data := [],
    jtagData := 0, jtagValid := false, bsr := 0, extest := false }

/-- Thread at reset. -/
def Thread.init : Thread :=
  { st := 0, pc := 0, lastPc := 0, inTrap := false, epc := 0, cause := 0, tval := 0, scratch := 0,
    instret := 0, txns := [], nextId := 0, errs := [], redeliver := false, fromHalt := false, yieldRd := none,
    yieldAt := 0 }

/-- PadSt at reset. -/
def PadSt.init : PadSt :=
  { next := none, fbNext := none, exh := 0 }

/-- Tier at reset. -/
def Tier.init : Tier := { leaves := [], since := 0, got := [] }

/-- ArbSt at reset. -/
def ArbSt.init : ArbSt := { priv := Tier.init, norm := Tier.init, req := [0, 0, 0, 0] }

/-- BrnSt at reset. -/
def BrnSt.init : BrnSt :=
  { thr := [], gpr := [], cyc := [0, 0, 0, 0, 0, 0, 0, 0], div := [], rstEnd := List.replicate 8 none,
    orphans := [], padWritten := false, pad := [], icAgain := false, qWait := [],
    woken := 0 }

/-- LPin at reset. -/
def LPin.init : LPin :=
  { handle := 0, owner := 0, epoch := 0, expiry := 0, broken := true }

/-- Sweep at reset. -/
def Sweep.init : Sweep :=
  { epoch := 0, swept := [], skip := [], push := [], gen := 0, rsync := false }

/-- LftSt at reset. -/
def LftSt.init : LftSt :=
  { opn := none, sealed := 0, closed := [], writes := [], txns := [], pins := [],
    views := List.replicate 16 none, held := [], sweeps := [], next := none, ivl := 100000, extra := none,
    lastB := none, headers := [], work := 0, redo := 0, enabled := false, cuts := [], gens := [],
    inbox := [], vep := List.replicate 16 0,
    shedB := false, repl := [], mapSeq := 0 }

/-- YrdSt at reset. -/
def YrdSt.init : YrdSt :=
  { frames := [], toks := [], dlv := [], pinHeld := [], moves := [], ft := [], ftBad := [], ftSeq := 0, retired := [],
    smp := [] }

/-- LinkCond at reset. -/
def LinkCond.init : LinkCond :=
  { lock := false, localFault := false, remoteFault := false, anDone := false, speed := none }

/-- Port at reset. -/
def Port.init : Port :=
  { cnt := [], pause := none, pfc := List.replicate 8 none, heldSince := none, heldQ := 0, cond := LinkCond.init,
    rfLast := none, degraded := false, xoff := 0, xoffP := List.replicate 8 0, tsq := [], sel := none, selPre := false,
    tx := none, cut := none, free := 0, ctl := [], loop := [], groomRx := 0, rx := none, verEnd := none, loopEnd := none }

/-- FtEnt at reset. -/
def FtEnt.init : FtEnt :=
  { key := 0, act := 0, act2 := 0, ver := 0 }

/-- Gcl at reset. -/
def Gcl.init : Gcl :=
  { pend := none, runs := List.replicate 8 none, wait := false, re := none, holdAt := none, cyc := 0 }

/-- Shaper at reset. -/
def Shaper.init : Shaper :=
  { mode := 0, cir := 0, eir := 0, cbs := 24, ebs := 24, cb := 24 * 64 * 2 ^ 24, eb := 24 * 64 * 2 ^ 24 }

/-- SchSt at reset. -/
def SchSt.init : SchSt :=
  { gcl := [], shp := [], rounds := [], crounds := [], bad := [], sel9 := none, free9 := 0 }

/-- GenSt at reset. -/
def GenSt.init : GenSt :=
  { next := 0, j := 0, lastM := none }

/-- RecSt at reset. -/
def RecSt.init : RecSt :=
  { takeAny := true, recov := 0, hist := [], last := 0, pass := 0, dup := 0, rogue := 0, lost := 0,
    notag := 0, resets := 0 }

/-- RedSt at reset. -/
def RedSt.init : RedSt :=
  { gen := [], recs := [], held := [], mirrors := [], hbCnt := 0, hbLast := none, wireAt := none,
    voxAt := none, since := 0, resolving := none, actAt := none, afterRst := false, peerShed := 0, ho := 0,
    outAfter := false, digs := [], digSent := none, peerDigs := [], digRun := 0, divAt := none, myV := none,
    round := none, roundV := false, loopOk := none, ueSeen := 0, ceSeen := 0, sramSeen := 0, delta := [0, 0,
    0], lastRound := 0, peerDiv := false, wireRep := false, voxRep := false, health := 0, stopped := false }

/-- VoxSt at reset. -/
def VoxSt.init : VoxSt :=
  { replays := [0, 0], replBuf := [] }

/-- ZBuf at reset. -/
def ZBuf.init : ZBuf :=
  { page := none, born := 0, got := none }

/-- ZttSt at reset. -/
def ZttSt.init : ZttSt :=
  { buf := [], badEnt := [], badBuf := [], s := none, ncyc := 1, nwin := 1, base := 0, cycBt := 0, l0 := 0,
    abs := 0, win := none, prevEnd := 0, refGot := none, refSent := false, refJudged := false, missRun := 0,
    der := none, first := none, tx := none, rbRun := 0, intact := 0, back := none, listen := 0, edge := none,
    asBackup := false, req := none, reqSent := false, rq := List.replicate 64 false,
    lastPoll := List.replicate 8 63, refW := 0, hist := [] }

/-- Sess at reset. -/
def Sess.init : Sess :=
  { opn := false, mode := 0, aes256 := false, cir := 0, cbs := 0, eir := 0, ebs := 0, cb := 0, eb := 0,
    at_ := 0, idleMs := 0, kaMs := 0, fw := [], rx := none, old := none, tx := none, ka := none, idle := none,
    cnt := [0, 0, 0, 0, 0, 0] }

/-- SaxSt at reset. -/
def SaxSt.init : SaxSt :=
  { sess := [], bad := [], clearing := false, ms := 0, msCnt := 0, inWait := [], resync := false,
    active := false, dark := false }

/-- A domain at cold reset (R142): value 0; domains 0 to 3 at the nominal increment. -/
def Dom.init (n : Nat) : Dom :=
  { val := 0, turn := none, incr := if n < 4 then 4 * 2 ^ 32 else 0, low := none, slew := 0, step := none, rate := 0, corr := 0,
    corrTicks := 0, lastEv := none, lastZ := none, edges := 0, obs := [], rejects := 0, holdAt := 0, locked := false }

/-- The TBU at cold reset (R142). -/
def TbuSt.init : TbuSt :=
  { dom := [], acts := [], gens := [], order := 0, ranTick := 0, ranCnt := 0, snapAt := none,
    snapValid := none, snap := List.replicate 8 0, cap := List.replicate 8 [], capTag := List.replicate 8 0,
    tout := List.replicate 8 false, train := List.replicate 8 none, pulses := [], past := [] }

/-- A pair that has not been created. -/
def Pair.none : Pair :=
  { state := 0, kind := 0, nSq := 0, nCq := 0, sqBase := 0, cqBase := 0, idxAddr := 0, sqWide := false, cqWide := false,
    vector := 0, noInt := false, coalCnt := 0, coalUs := 0, sqP := 0, sqC := 0, cqP := 0, cqC := 0, gen := 0, err := 0,
    ents := [], d2h := [], tsWait := [], unsig := 0, oldest := 0, idxDue := false, batch := false, idxAt := 0 }

/-- An internal queue that has not been created. -/
def Iq.none : Iq := { made := false, event := false, log2N := 0, base := 0, wide := false, p := 0, c := 0 }

/-- The machine's state. -/
structure State where
  /-- the control-space registers by BAR0 offset; an unlisted one holds `resetAt` (R437) -/
  regs : SMap (BitVec 32)
  /-- device memories by the addresses of R410 MEM_READ; an unlisted byte reads 0 -/
  mem : SMap Byte
  /-- host memory by host address; an unlisted byte reads 0 -/
  host : SMap Byte
  /-- ECC marks of protected 8-byte words (4-byte words of the code store) by address -/
  ecc : SMap Ecc
  /-- values captured for the _HI register by a read of an _LO register (R175) -/
  hiCap : SMap (BitVec 32)
  /-- 250 MHz ticks since reset (R120) -/
  tick : Nat
  /-- the model's own counter for free values: each use of one advances it -/
  free : Nat
  /-- the model's own record of what left the device, oldest first -/
  outbox : List Out
  /-- fault collection -/
  fcu : FcuSt
  /-- event recorder -/
  evr : EvrSt
  /-- time base -/
  tbu : TbuSt
  /-- host interface and queues -/
  qm : QmSt
  /-- interrupts -/
  irq : IrqSt
  /-- supply and power states -/
  pwr : PwrSt
  /-- resets and boot -/
  gctl : GctlSt
  /-- debug lock and fuses -/
  sec : SecSt
  /-- barns, engines, threads, paddocks -/
  brn : BrnSt
  /-- arbiters of the memory path -/
  arb : ArbSt
  /-- Ethernet ports -/
  eth : SMap Port
  /-- yard -/
  yrd : YrdSt
  /-- gates, shapers, queue service -/
  sch : SchSt
  /-- loft -/
  lft : LftSt
  /-- twin operation and sequence recovery -/
  red : RedSt
  /-- Voxam links and the replication buffer -/
  vox : VoxSt
  /-- Zunto-TT -/
  ztt : ZttSt
  /-- RTU session assist -/
  sax : SaxSt
  /-- commands waiting, first in first out -/
  pending : List Instr
  deriving DecidableEq, Repr

/-- Why a step can stop with a fault. -/
inductive Fault where
  /-- Raised by RST_N when the pin is released less than 1 µs after its assertion: R397 obliges the board to hold
  it for 1 µs and the spec gives a shorter pulse no effect. Safe: nothing is claimed of what follows. -/
  | rstHeldTooShort
  deriving DecidableEq, Repr

/-- Why a step can be refused. -/
inductive Refusal where
  /-- Raised by an arm of `exec` whose command has no meaning in the model yet. Safe: nothing is claimed of it. -/
  | notModelled (mnemonic : String)
  deriving DecidableEq, Repr

/-- The state after reset: the internal reset has just been released after power-up (R397, R437) and the boot ROM has not
run; every register at its reset value, no command waiting. Values the spec does not give are named in the log. -/
def State.reset : State :=
  { regs := [],
    mem := [],
    host := [],
    ecc := [],
    hiCap := [],
    tick := 0,
    free := 0,
    outbox := [],
    fcu := FcuSt.init,
    evr := EvrSt.init,
    tbu := TbuSt.init,
    qm := QmSt.init,
    irq := IrqSt.init,
    pwr := PwrSt.init,
    gctl := GctlSt.init,
    sec := SecSt.init,
    brn := BrnSt.init,
    arb := ArbSt.init,
    eth := [],
    yrd := YrdSt.init,
    sch := SchSt.init,
    lft := LftSt.init,
    red := RedSt.init,
    vox := VoxSt.init,
    ztt := ZttSt.init,
    sax := SaxSt.init, pending := [] }

end Sys2Proof.Machine
end

