-- ==== Sys2Proof/Machine/Ops.lean ====
section
/-! DEFINITION. The named operations over registers, memory, time, faults, records, queues and interrupts. -/
namespace Sys2Proof.Machine

/-! ### Registers (R8 to R11) -/

/-- A register's value. -/
def State.reg (s : State) (off : Nat) : Nat := (s.regs.get resetAt off).toNat

/-- Replace a register's value. -/
def State.setReg (s : State) (off v : Nat) : State :=
  { s with regs := s.regs.set resetAt off (BitVec.ofNat 32 v) }

/-- A field's value. -/
def State.gf (s : State) (f : Fld) : Nat := bits (s.reg f.reg) f.hi f.lo

/-- Set a field. -/
def State.sf (s : State) (f : Fld) (v : Nat) : State := s.setReg f.reg (setBits (s.reg f.reg) f.hi f.lo v)

/-- A one-bit field as a Bool. -/
def State.bf (s : State) (f : Fld) : Bool := s.gf f != 0

/-- Advance a counter field by `n`, saturating at its largest value. -/
def State.addf (s : State) (f : Fld) (n : Nat) : State := s.sf f (satAdd (f.hi + 1 - f.lo) (s.gf f) n)

/-- Advance a counter field by one, saturating. -/
def State.incf (s : State) (f : Fld) : State := s.addf f 1

/-- Set fields in order. -/
def State.sfs (s : State) (l : List (Fld × Nat)) : State := l.foldl (fun s p => s.sf p.1 p.2) s

/-- Return every register from `lo` to below `hi` to its reset value. -/
def State.resetRegs (s : State) (lo hi : Nat) : State := { s with regs := s.regs.clearRange lo hi }

/-- The new value of a register of row `r` that holds `old` when `v` is written (R11); `locked` is the block's LOCK. -/
def writeVal (r : RegDesc) (old v : Nat) (locked : Bool) : Nat :=
  let m := r.mask (if locked then [.rw, .rws] else [.rw, .rws, .rwl])
  let full := 2 ^ 32 - 1
  let kept := old &&& (full - m)
  let set := (v &&& m) ||| kept ||| (v &&& r.mask [.w1s])
  set - (set &&& v &&& r.mask [.w1c])

/-- The plain effect of a write of `v` at an offset under R9 to R11. -/
def State.plainWrite (s : State) (off v : Nat) (locked : Bool) : State :=
  match findReg off with
  | none => s
  | some (r, _) => s.setReg off (writeVal r (s.reg off) v locked)

/-- The addressed bytes of a register's value `v`, in ascending order: `be` are the byte enables of the read (R8, R312). -/
def rdBytes (be v : Nat) : List Byte := ((List.range 4).filter (bit be)).map (fun k => BitVec.ofNat 8 (v / 2 ^ (8 * k)))

/-! ### Free values -/

/-- A free value of up to 64 bits: nothing is known of it. -/
def State.freeBits (s : State) : BitVec 64 := Config.freeVal s.free

/-- A free value of 256 bits. -/
def State.free256 (s : State) : BitVec 256 :=
  (Config.freeVal s.free).append ((Config.freeVal (s.free + 1)).append
    ((Config.freeVal (s.free + 2)).append (Config.freeVal (s.free + 3))))

/-- The next free value will be another. -/
def State.useFree (s : State) : State := { s with free := s.free + 1 }

/-! ### Emissions -/

/-- Append to the record of what left the device. -/
def State.emit (s : State) (k : OutKind) (unit : Nat) (data : List Byte) : State :=
  { s with outbox := s.outbox ++ [⟨k, unit, data⟩] }

/-! ### Memory

One map from the addresses of R410 MEM_READ: barn b at 0x2_0000_0000 + 0x1000_0000·b, code store at 0x30_0000_0000,
tack of engine e of barn b at 0x31_0000_0000 + 0x1_0000·(16b + e), DRAM at 0x80_0000_0000. -/

def dramBase : Nat := 0x8000000000
def codeBase : Nat := 0x3000000000
def tackBase (b e : Nat) : Nat := 0x3100000000 + (16 * b + e) * 0x10000
def barnBase (b : Nat) : Nat := 0x200000000 + b * 0x10000000

/-- A byte of memory. -/
def State.rd8 (s : State) (a : Nat) : Byte := s.mem.get (fun _ => 0) a

/-- Bytes from an address. -/
def State.rdB (s : State) (a : Nat) : Nat → List Byte
  | 0 => []
  | n + 1 => s.rd8 a :: s.rdB (a + 1) n

/-- Little-endian number at an address. -/
def State.rdN (s : State) (a n : Nat) : Nat := leNat (s.rdB a n)

/-- Write one byte. -/
def State.wr8 (s : State) (a : Nat) (b : Byte) : State := { s with mem := s.mem.set (fun _ => 0) a b }

/-- Write bytes from an address upwards. -/
def State.wrB (s : State) (a : Nat) : List Byte → State
  | [] => s
  | b :: bs => (s.wr8 a b).wrB (a + 1) bs

/-- Write the low `n` bytes of a number, little-endian. -/
def State.wrN (s : State) (a n v : Nat) : State := s.wrB a (leBytes n v)

/-- Bytes of host memory. -/
def State.hostB (s : State) (a : Nat) : Nat → List Byte
  | 0 => []
  | n + 1 => s.host.get (fun _ => 0) a :: s.hostB (a + 1) n

/-- Write bytes of host memory. -/
def State.hostW (s : State) (a : Nat) : List Byte → State
  | [] => s
  | b :: bs => ({ s with host := s.host.set (fun _ => 0) a b } : State).hostW (a + 1) bs

/-- Bytes of the protected word that holds an address: 4 in the code store, 8 elsewhere (R23, R442). -/
def eccWord (a : Nat) : Nat := if codeBase ≤ a ∧ a < codeBase + 0x200000 then 4 else 8

/-- The first address of the protected word that holds an address. -/
def eccKey (a : Nat) : Nat := a / eccWord a * eccWord a

def State.eccOf (s : State) (a : Nat) : Ecc := s.ecc.get (fun _ => .ok) (eccKey a)

/-- Clear or set the mark of a word. -/
def State.setEcc (s : State) (a : Nat) (e : Ecc) : State := { s with ecc := s.ecc.set (fun _ => .ok) (eccKey a) e }

/-- Is some word of `n` bytes from `a` marked uncorrectable? Returns the first such word. -/
def State.ueIn (s : State) (a n : Nat) : Option Nat :=
  match firstIdx (fun i => s.eccOf (a / 8 * 8 + 8 * i) == .ue) (ceilDiv (a % 8 + n) 8) with
  | none => none
  | some i => some (a / 8 * 8 + 8 * i)

/-! ### Time (R120, R121) -/

def nsPerS : Nat := 1000000000

/-- A time domain. -/
def State.dom (s : State) (n : Nat) : Dom := s.tbu.dom.get Dom.init n

/-- Replace a time domain. -/
def State.setDom (s : State) (n : Nat) (d : Dom) : State := { s with tbu := { s.tbu with dom := s.tbu.dom.set Dom.init n d } }

/-- Units of `Dom.val` in one unit of the whole count (R121): 1 ns, or 2^-24 cycle. -/
def wholeUnit (n : Nat) : Nat := if n < 4 then 2 ^ 32 else 2 ^ 56

/-- The whole count of a domain (R121). -/
def State.whole (s : State) (n : Nat) : Nat := (s.dom n).val / wholeUnit n

/-- The WHOLE, PART and SUB fields of a stamp (R131). -/
def stampParts (n val : Nat) : Nat × Nat × Nat :=
  if n < 4 then ((val / 2 ^ 32 / nsPerS) % 2 ^ 64, val / 2 ^ 32 % nsPerS, val % 2 ^ 32)
  else ((val / 2 ^ 80) % 2 ^ 64, val / 2 ^ 48 % 2 ^ 32, 0)

def State.era (s : State) (n : Nat) : Nat := s.gf (F.TBU_DOM_STAT_ERA n)
def State.domState (s : State) (n : Nat) : Nat := s.gf (F.TBU_DOM_STAT_STATE n)

/-- State codes of TBU_DOM_STAT (R121). -/
def dOFF : Nat := 0
def dACQUIRE : Nat := 1
def dTRACK : Nat := 2
def dUNLOCKED : Nat := 4
def dLOCKED : Nat := 5
def dHOLDOVER : Nat := 6

/-- Does the domain carry a usable time (neither OFF nor UNLOCKED)? -/
def State.domOk (s : State) (n : Nat) : Bool := s.domState n != dOFF && s.domState n != dUNLOCKED

/-- A 32-byte stamp record of a value of domain `n` in an era, with a state byte (R131). -/
def stampRec (n val era st origin unit tag : Nat) : List Byte :=
  let (w, p, f) := stampParts n val
  leBytes 8 w ++ leBytes 4 p ++ leBytes 4 f ++ leBytes 2 era ++ leBytes 1 n ++ leBytes 1 st ++ leBytes 2 tag ++ leBytes 1 origin ++
    leBytes 1 unit ++ List.replicate 8 0

/-- The state byte of a stamp record of domain `n`. -/
def State.stampState (s : State) (n : Nat) : Nat := s.domState n + 8 * b2n (s.bf (F.TBU_DOM_STAT_SLEWING n))

/-- A stamp record of a value of domain `n` in its state now. -/
def State.stampOf (s : State) (n val origin unit tag : Nat) : List Byte := stampRec n val (s.era n) (s.stampState n) origin unit tag

/-- A stamp record of the domain's value now. -/
def State.stampNow (s : State) (n origin unit tag : Nat) : List Byte := s.stampOf n (s.dom n).val origin unit tag

/-- Ticks in a number of nanoseconds, rounded up. -/
def ticksOfNs (ns : Nat) : Nat := ceilDiv ns 4

/-! ### Fault messages (R354, R355) -/

def kCE : Nat := 0
def kUE : Nat := 1
def kPARITY : Nat := 2
def kPROTOCOL : Nat := 3
def kLINK_DOWN : Nat := 4
def kTIMEOUT : Nat := 5
def kOVERFLOW : Nat := 6
def kACCESS : Nat := 7
def kTRAP : Nat := 8
def kCONFIG : Nat := 9
def kCLOCK : Nat := 10
def kTHERMAL : Nat := 11
def kSUPPLY : Nat := 12
def kSTATE : Nat := 13
def kSAFETY : Nat := 14
def kFW : Nat := 15

/-- A block sends the FCU a fault message (R354). -/
def State.raise (s : State) (src kind detail : Nat) : State :=
  { s with fcu := { s.fcu with inbox := s.fcu.inbox ++ [⟨src, kind, detail % 2 ^ 64, false, s.tick⟩] } }

/-- Is a source fenced (R359)? -/
def State.fenced (s : State) (src : Nat) : Bool := bit (s.reg (R.FCU_FENCE (src / 32))) (src % 32)

/-- A block reset ends the source's fence. -/
def State.endFence (s : State) (src : Nat) : State :=
  s.setReg (R.FCU_FENCE (src / 32)) (setBits (s.reg (R.FCU_FENCE (src / 32))) (src % 32) (src % 32) 0)

/-- Is the FCU in the safe state (R366)? -/
def State.safe (s : State) : Bool := s.bf F.FCU_STAT_SAFE

/-! ### Event records (R370 to R373) -/

/-- Do records reach the recorder? Not while it is unpowered, in PS4 (R380; power states of spec/16). -/
def State.evrOn (s : State) : Bool := s.gf F.PWR_STAT_PS != 4

/-- A record as it arises now: stamped in domain 0 with its era (R372). -/
def State.mkRec (s : State) (code writer a0 a1 : Nat) : ERec :=
  { stamp := s.whole 0 % 2 ^ 64, era := s.era 0, code := code, writer := writer,
    flags := 2 * b2n (s.domState 0 == dACQUIRE) + 4 * b2n (s.bf (F.TBU_DOM_STAT_SLEWING 0)), arg0 := a0 % 2 ^ 64, arg1 := a1 % 2 ^ 64 }

/-- Records of a block that wait behind the one accepted on this tick: the least WRITER goes first (R373). -/
def waitingOf (w : Nat) (l : List ERec) : Nat :=
  (l.filter (fun r => r.writer == w)).length - b2n (l.all (fun r => decide (w ≤ r.writer)))

/-- A block offers a record; one is accepted on each tick, a block holds four that wait, and a record beyond those is lost (R373). -/
def State.logRec (s : State) (src code a0 a1 : Nat) : State :=
  if !s.evrOn then s
  else if 4 ≤ waitingOf (0x8000 + src) s.evr.offered then s.incf F.EVR_CNT_HW_LOST_COUNT
  else { s with evr := { s.evr with offered := s.evr.offered ++ [s.mkRec code (0x8000 + src) a0 a1] } }

/-- The code of hardware event `n` of a source (R370). -/
def evCode (src n : Nat) : Nat := src / 16 * 0x1000 + src % 16 * 16 + n

/-! ### Waking (R386, R387) -/

/-- Wake time of a power state in ticks. -/
def wakeTicks (ps : Nat) : Nat := [0, 250, 12500, 500000, 5000000].getD ps 0

/-- Enter a power state: accounting, PS_CHG, and the PSTATE_CHANGE record (R387). -/
def State.enterPs (s : State) (ps : Nat) : State :=
  let old := s.gf F.PWR_STAT_PS
  if old = ps then s
  else
    let t := s.pwr.psTicks
    let s := { s with pwr := { s.pwr with psTicks := setAt t old (t.getD old 0 + (s.tick - s.pwr.psSince)), psSince := s.tick } }
    let s := (s.sf F.PWR_STAT_PS 0).sf F.PWR_STAT_PS_CHG 1
    let s : State := { s.logRec 2 0x0023 (ps + 8 * old) 0 with brn := { s.brn with woken := 0 } }
    s.sf F.PWR_STAT_PS ps

/-- An untimed wake event (R386), or a timed one (cause 1): the device moves to PS0; the wake completes after W. -/
def State.wake (s : State) (cause : Nat) : State :=
  let old := s.gf F.PWR_STAT_PS
  if old = 0 then s
  else
    let s := (s.sf F.PWR_WAKE_FROM old).sf F.PWR_WAKE_CAUSE cause
    let s := (s.enterPs 0).sf F.PWR_STAT_PS_TARGET 0
    { s with pwr := { s.pwr with wakeDue := some (s.tick + wakeTicks old) } }

/-! ### Memory errors (R23, R440, R448) -/

/-- Barn, engine and thread within the engine of a global thread index (spec/02). -/
def barnOf (t : Nat) : Nat := t / 64
def engOf (t : Nat) : Nat := t / 4 % 16
def thrOf (t : Nat) : Nat := t % 4

/-- An ECC error at a word of tack, barn memory or code store met by thread `t` (R23, R448). -/
def State.sramError (s : State) (a t : Nat) (ue : Bool) : State :=
  let code := codeBase ≤ a ∧ a < codeBase + 0x200000
  let tack := tackBase 0 0 ≤ a ∧ a < tackBase 8 0
  let eng := if tack then (a - tackBase 0 0) / 0x10000 % 16 else engOf t
  let b := if code then barnOf t else if tack then (a - tackBase 0 0) / 0x100000 else (a - barnBase 0) / 0x10000000
  let off := if code then (a - codeBase) / 4 else if tack then (a - tackBase 0 0) % 0x10000 / 8 * 8 else (a - barnBase b) / 8 * 8
  let area := if code then 2 else if tack then 1 else 0
  let s := s.raise (0x30 + b) (if ue then kUE else kCE) (off + eng * 2 ^ 24 + area * 2 ^ 28 + b * 2 ^ 32)
  if ue then
    let s := (s.incf (F.BRN_ECC_CNT_UE b)).sf (F.BRN_STAT_ECC_UE b) 1
    if s.bf (F.BRN_ECC_ADDR_VALID b) then s
    else s.sfs [(F.BRN_ECC_ADDR_VALID b, 1), (F.BRN_ECC_ADDR_CODE b, b2n code), (F.BRN_ECC_ADDR_TACK b, b2n tack),
      (F.BRN_ECC_ADDR_ENGINE b, if tack ∨ code then eng else 0), (F.BRN_ECC_ADDR_OFFSET b, off)]
  else (s.incf (F.BRN_ECC_CNT_CE b)).sf (F.BRN_STAT_ECC_CE b) 1

/-- The channel that holds a DRAM offset: the spec does not say how two channels share the offsets (log 31). -/
def State.chanOf (s : State) (off : Nat) : Nat := if s.gctl.dramMiB ≤ 1792 then 0 else b2n (Config.dramChannel off)

/-- A DRAM error at an address (R440). -/
def State.dramError (s : State) (a : Nat) (ue : Bool) : State :=
  let off := (a - dramBase) / 8
  let c := s.chanOf (a - dramBase)
  let s := s.raise 0x22 (if ue then kUE else kCE) (off % 2 ^ 29 + c * 2 ^ 32)
  if ue then
    let s := (s.incf (F.DMC_ECC_CNT_UE c)).sf F.DMC_STAT_MEM_UE 1
    if s.bf (F.DMC_ECC_ADDR_VALID c) then s else s.sfs [(F.DMC_ECC_ADDR_VALID c, 1), (F.DMC_ECC_ADDR_OFFSET c, off)]
  else (s.incf (F.DMC_ECC_CNT_CE c)).sf F.DMC_STAT_MEM_CE 1

/-- The error, if any, of the word at `a` is counted, captured and reported. -/
def State.memError (s : State) (a t : Nat) : State :=
  match s.eccOf a with
  | .ok => s
  | e => if dramBase ≤ a then s.dramError a (e == .ue) else s.sramError a t (e == .ue)

/-- A block reads `n` bytes of DRAM from `a`: the DMC counts each error met (R440); the first uncorrected word is named. -/
def State.dramScan (s : State) (a n : Nat) : State × Option Nat :=
  ((List.range (ceilDiv (a % 8 + n) 8)).foldl (fun s i => s.memError (a / 8 * 8 + 8 * i) 0) s, s.ueIn a n)

/-- A write of bytes within one protected word that does not cover it (R442): a corrected error is counted and goes; where the word has
an uncorrected error it is counted and the word stays as it is. -/
def State.wrPart (s : State) (a : Nat) (l : List Byte) : State :=
  match l with
  | [] => s
  | _ => match s.eccOf a with
    | .ok => s.wrB a l
    | .ce => ((s.memError a 0).wrB a l).setEcc a .ok
    | .ue => s.memError a 0

/-- Bytes of a write of `n` bytes from `a` that lie before the first protected word that it covers whole. -/
def headLen (a n : Nat) : Nat := min n ((eccWord a - a % eccWord a) % eccWord a)

/-- A block's write of bytes (R442): the words that it covers lose their errors, those at its ends are read and merged. -/
def State.wrL (s : State) (a : Nat) (l : List Byte) : State :=
  let w := eccWord a
  let h := headLen a l.length
  let m := (l.length - h) / w * w
  let s := s.wrPart a (l.take h)
  let s := s.wrB (a + h) ((l.drop h).take m)
  let s : State := { s with ecc := s.ecc.clearRange (a + h) (a + h + m) }
  s.wrPart (a + h + m) (l.drop (h + m))

/-- A unit reads `n` bytes of a tack area (R23): each error met is counted and reported; a result word has no place for it (log 139). -/
def State.tackScan (s : State) (a n : Nat) : State :=
  (List.range (ceilDiv (a % 8 + n) 8)).foldl (fun s i => s.memError (a / 8 * 8 + 8 * i) 0) s

/-! ### Transfers of the unit clients on the memory path (R115) -/

/-- The unit clients of the device arbiter, by their place in `ArbSt.req`. -/
def cLFT : Nat := 0
def cSAX : Nat := 1
def cEVR : Nat := 2
def cQM : Nat := 3

/-- Unit client `k` asks for `n` transfers of 64 bytes. The command that makes them has its effect at once; the client's next work in DRAM
waits for their grants (log 134). -/
def State.dramAsk (s : State) (k n : Nat) : State :=
  { s with arb := { s.arb with req := setAt s.arb.req k (s.arb.req.getD k 0 + n) } }

/-- Has client `k` no transfer waiting for a grant? -/
def State.dramIdle (s : State) (k : Nat) : Bool := s.arb.req.getD k 0 == 0

/-! ### Queues (R315, R316, R329, R330) -/

def State.iq (s : State) (q : Nat) : Iq := s.qm.iq.get (fun _ => Iq.none) q
def State.setIq (s : State) (q : Nat) (v : Iq) : State :=
  { s with qm := { s.qm with iq := s.qm.iq.set (fun _ => Iq.none) q v } }
def State.pairOf (s : State) (i : Nat) : Pair := s.qm.pair.get (fun _ => Pair.none) i
def State.setPair (s : State) (i : Nat) (v : Pair) : State :=
  { s with qm := { s.qm with pair := s.qm.pair.set (fun _ => Pair.none) i v } }

/-- Entries a ring holds (R316). -/
def ringHeld (log2N p c : Nat) : Nat := ((p + 0x10000 - c) % 0x10000) % (2 * 2 ^ log2N)

/-- The next index of a ring (R316). -/
def idxNext (i : Nat) : Nat := (i + 1) % 0x10000

/-- May QM issue requests to the host (R334, R335)? -/
def State.dmaOk (s : State) : Bool :=
  s.bf F.QM_PCIE_STAT_LINK_UP && s.bf F.QM_PCIE_STAT_BME && !(s.fenced 0x1D || s.fenced 0x1E)

/-- QM writes host memory; a write that may not be issued now waits in order (R334, R335). -/
def State.hostPost (s : State) (a : Nat) (l : List Byte) : State :=
  if s.dmaOk && s.qm.posted.isEmpty then s.hostW a l
  else { s with qm := { s.qm with posted := s.qm.posted ++ [(a, l)] } }

/-- Is there a free slot in the pair's CQ? -/
def Pair.cqFree (p : Pair) : Nat := 2 ^ p.nCq - ringHeld p.nCq p.cqP p.cqC

/-- Bytes of an SQ or CQ entry. -/
def entSize (wide : Bool) : Nat := if wide then 64 else 32

/-- QM writes one CQ entry of a pair (padded or cut to the entry size) and owes an index word (R331, R332). -/
def State.cqWrite (s : State) (i : Nat) (l : List Byte) : State :=
  let p := s.pairOf i
  let n := entSize p.cqWide
  let s := s.hostPost (p.cqBase + p.cqP % 2 ^ p.nCq * n) (sliceB l 0 n)
  s.setPair i { p with cqP := idxNext p.cqP, unsig := p.unsig + 1, oldest := if p.unsig = 0 then s.tick else p.oldest,
                       idxDue := true, batch := true }

/-- Append an entry to an internal ring in DRAM (R316). -/
def State.iqAppend (s : State) (q : Nat) (l : List Byte) : State :=
  let v := s.iq q
  let n := entSize v.wide
  let s := (s.wrL (dramBase + v.base + v.p % 2 ^ v.log2N * n) (sliceB l 0 n)).dramAsk cQM 1
  s.setIq q { v with p := idxNext v.p }

/-- Does DRAM answer: out of self-refresh, with both its rails in range (R382, R390)? -/
def State.dramUp (s : State) : Bool :=
  !s.bf F.DMC_STAT_SREF && bit (s.gf F.PWR_RAIL_STAT_GOOD) 2 && bit (s.gf F.PWR_RAIL_STAT_GOOD) 3

/-- Is the rail of the VIO_A pins in range? While it is not, they are inputs at their idle levels (R382). -/
def State.vioA (s : State) : Bool := bit (s.gf F.PWR_RAIL_STAT_GOOD) 0

/-- A block delivers an entry to a queue (R329): the new state, and whether the queue took it. A 64-byte record does not
fit 32-byte entries; a delivery that is discarded advances QM_CNT_HW_DROP. -/
def State.deliverNow (s : State) (q : Nat) (l : List Byte) : State × Bool :=
  let lost := (s.incf F.QM_CNT_HW_DROP_COUNT, false)
  if q < 0x1000 then
    let v := s.iq q
    if !v.made || ringHeld v.log2N v.p v.c ≥ 2 ^ v.log2N || (l.length > 32 && !v.wide) then lost
    else (let s := s.iqAppend q l; if s.brn.qWait.any (fun w => w.1 == q) then s.wake 2 else s, true)
  else if q < 0x2000 then
    let p := s.pairOf (q - 0x1000)
    if p.kind != 3 || !(p.state == 1 || p.state == 2) || p.cqFree == 0 || (l.length > 32 && !p.cqWide) then lost
    else (s.cqWrite (q - 0x1000) l, true)
  else lost

/-- As `deliverNow`; an entry that is not taken advances the fields `drop` of the block it came from. -/
def State.deliverOr (s : State) (q : Nat) (l : List Byte) (drop : List Fld) : State × Bool :=
  match s.deliverNow q l with
  | (s, true) => (s, true)
  | (s, false) => (drop.foldl State.incf s, false)

/-- Does a delivery to queue `q` wait: QM is fenced or not enabled, or the ring's DRAM does not answer (R335, R390)? -/
def State.heldOff (s : State) (q : Nat) : Bool :=
  s.fenced 0x1D || s.fenced 0x1E || !s.bf F.QM_CTL_EN || (q < 0x1000 && !s.dramUp)

/-- As `deliverOr`; a delivery that has to wait is made in order, and judged when it is made (log 20). -/
def State.deliver (s : State) (q : Nat) (l : List Byte) (drop : List Fld := []) : State × Bool :=
  if s.heldOff q || s.qm.held.any (fun w => w.1 == q) then
    ({ s with qm := { s.qm with held := s.qm.held ++ [(q, l, drop)] } }, true)
  else s.deliverOr q l drop

/-- The 32-byte event entry of R330. -/
def State.eventEntry (s : State) (value source : Nat) : List Byte :=
  leBytes 6 value ++ leBytes 2 source ++ leBytes 8 (s.whole 0) ++ leBytes 2 (s.era 0) ++ List.replicate 14 0

/-- A block posts an event to a queue (R330). -/
def State.postEvent (s : State) (q value src : Nat) (drop : List Fld := []) : State × Bool :=
  s.deliver q (s.eventEntry value (0x8000 + src)) drop

/-! ### Interrupts (R333) -/

/-- The sources that have an interrupt request. -/
def irqSources : List Nat := [0x00, 0x10, 0x11, 0x12, 0x13, 0x14, 0x15, 0x16, 0x17, 0x1C, 0x21]

/-- Is a HALF bit of the port set and enabled (R200)? -/
def State.ethHalf (s : State) (p : Nat) : Bool :=
  (s.reg (R.ETH_HALF_STAT p 0) &&& s.reg (R.ETH_HALF_EN p 0)) != 0 ||
  (s.reg (R.ETH_HALF_STAT p 1) &&& s.reg (R.ETH_HALF_EN p 1)) != 0

/-- A block's interrupt request (R200, R368; ZTT_INT_STAT; SAX_STAT). -/
def State.irqLevel (s : State) (k : Nat) : Bool :=
  if k = 0 then s.bf F.FCU_STAT_INT_REQ
  else if 0x10 ≤ k ∧ k ≤ 0x17 then
    let p := k - 0x10
    (s.reg (R.ETH_INT_STAT p) &&& s.reg (R.ETH_INT_EN p)) != 0 || (s.bf (F.ETH_INT_EN_HALF p) && s.ethHalf p)
  else if k = 0x1C then (s.reg R.ZTT_INT_STAT &&& s.reg R.ZTT_INT_EN) != 0
  else (s.reg R.SAX_STAT &&& s.reg R.SAX_INT_EN) != 0

/-- Is MSI-X the delivery mode (R333)? -/
def State.msixMode (s : State) : Bool := s.bf F.QM_PCIE_STAT_MSIX_EN && !s.bf F.QM_INT_CFG_PIN

/-- An interrupt cause for vector `v` (R333): its bit, and its MSI-X message or pending bit. -/
def State.signal (s : State) (v : Nat) : IrqSt :=
  let q := s.irq
  let q := { q with stat := q.stat ||| 2 ^ v }
  if !s.msixMode then q
  else if s.qm.funcMask || bit s.qm.vecMask v || !s.bf F.QM_PCIE_STAT_BME then { q with pend := q.pend ||| 2 ^ v }
  else { q with sent := q.sent ++ [v] }

/-- INT_N is asserted (R333). -/
def State.intPin (s : State) : Bool :=
  !s.msixMode && (s.irq.stat &&& (s.reg (R.QM_INT_EN 0) + s.reg (R.QM_INT_EN 1) * 2 ^ 32)) != 0

/-- Requests that have risen signal their vectors (R333). Only `irq` changes. -/
def State.irqSync (s : State) : State :=
  let up := irqSources.filter s.irqLevel
  let risen := up.filter (fun k => !s.irq.prev.contains k && s.bf (F.QM_IRQ_MAP_EN k))
  let q := risen.foldl (fun q k => ({ s with irq := q } : State).signal (s.gf (F.QM_IRQ_MAP_VECTOR k))) s.irq
  { s with irq := { q with prev := up } }

/-- Is the device held in a cold reset, or frozen (R397, R416)? -/
def State.stopped (s : State) : Bool := s.gctl.inReset || s.gctl.frozen

/-- The end of every command that completes: interrupt requests that rose are signalled. -/
def finish (s : State) : Host.Outcome State Fault Refusal := .next s.irqSync

/-- A command of a running device: it has its effect unless a cold reset or a freeze holds the device. -/
def live (s : State) (f : State → State) : Host.Outcome State Fault Refusal :=
  if s.stopped then .next s else finish (f s)

end Sys2Proof.Machine
end

