-- ==== Sys2Proof/Machine/Fcu.lean ====
section
/-! DEFINITION. Fault collection (spec/15, R354 to R369): taking messages, the cascade rule, first error, ERR_N,
fences, injection. The reactions that reach other blocks stand in Machine/Reaction.lean. -/
namespace Sys2Proof.Machine

/-! ### Reaction bytes (R357) and dependents (R362) -/

/-- The reaction byte of a source and kind. -/
def State.rctByte (s : State) (src kind : Nat) : Nat :=
  bits (s.reg (R.FCU_RCT src (kind / 4))) (8 * (kind % 4) + 7) (8 * (kind % 4))

/-- The sources FENCE applies to (R359). -/
def fenceable (k : Nat) : Bool :=
  (0x10 ≤ k && k ≤ 0x1A) || k == 0x1C || k == 0x1D || k == 0x1E || k == 0x20 || k == 0x21 || (0x30 ≤ k && k ≤ 0x37)

/-- The sources with a degrade action (R360). -/
def degradable (k : Nat) : Bool := (0x30 ≤ k && k ≤ 0x37) || k == 0x10 || k == 0x11 || k == 0x1B || k == 0x1C

/-- The sources with a block reset (R361). -/
def resettable (k : Nat) : Bool :=
  (0x30 ≤ k && k ≤ 0x37) || (0x10 ≤ k && k ≤ 0x1E) || k == 0x20 || k == 0x21 || k == 5 || k == 3

/-- The bits of a reaction byte that can be set for a source (R357). -/
def rctMask (src : Nat) : Nat :=
  if !assignedSource src then 0
  else 0x47 + 8 * b2n (fenceable src) + 16 * b2n (degradable src) + 32 * b2n (resettable src)

/-- The value FCU_RCT[src][w] reads after a write: bits of reactions the source lacks read 0 (R357). -/
def rctClean (src v : Nat) : Nat :=
  let m := rctMask src
  v &&& (m + m * 2 ^ 8 + m * 2 ^ 16 + m * 2 ^ 24)

/-- Does source `r` count `t` among its dependents (R362)? -/
def State.depends (s : State) (r t : Nat) : Bool :=
  r == t || bit (s.reg (R.FCU_CASCADE_MASK r (t / 32))) (t % 32)

/-- Is source `r` fenced, in block reset, or in its cascade tail? -/
def State.cascading (s : State) (r : Nat) : Bool :=
  s.fenced r || s.fcu.inReset.contains r || s.fcu.tail.any (fun p => p.1 == r && s.tick < p.2)

/-- A fault of source `t` taken now is a cascade (R362). -/
def State.isCascade (s : State) (t : Nat) : Bool :=
  (firstIdx (fun r => s.cascading r && s.depends r t) 64).isSome

/-! ### Block resets seen by the FCU (R361, R362) -/

/-- The block reset of a source starts. -/
def State.beginReset (s : State) (src : Nat) : State :=
  { s with fcu := { s.fcu with inReset := if s.fcu.inReset.contains src then s.fcu.inReset else s.fcu.inReset ++ [src] } }

/-- The block reset of a source ends: its cascade tail runs for CASCADE_TAIL µs. -/
def State.endReset (s : State) (src : Nat) : State :=
  { s with fcu := { s.fcu with
      inReset := s.fcu.inReset.filter (· != src),
      tail := s.fcu.tail.filter (·.1 != src) ++ [(src, s.tick + 250 * s.gf F.FCU_CFG_CASCADE_TAIL)] } }

/-- CASCADE_TAIL_END (R362): the interval after a block reset of `src` is over. -/
def tailEnd (src : Nat) (s : State) : State :=
  { s with fcu := { s.fcu with tail := s.fcu.tail.filter (fun p => !(p.1 == src && p.2 ≤ s.tick)) } }

/-! ### Taking a message (R356) -/

/-- Is message `a` served before `b`: earlier cycle, then source, then kind? -/
def FaultMsg.before (a b : FaultMsg) : Bool :=
  a.tick < b.tick || (a.tick == b.tick && (a.src < b.src || (a.src == b.src && a.kind < b.kind)))

/-- The message to be taken next. -/
def firstMsg : List FaultMsg → Option FaultMsg
  | [] => none
  | m :: ms => match firstMsg ms with
    | none => some m
    | some b => if b.before m then some b else some m

/-- The faults of one cycle, source and kind, real and injected together (R358, R364). -/
def sameFault (m x : FaultMsg) : Bool := x.src == m.src && x.kind == m.kind && x.tick == m.tick

/-- Is there, on this cycle, a real fault still to be offered to the capture, when this one is injected only (R363)? -/
def realLater (m : FaultMsg) (l : List FaultMsg) : Bool := l.any (fun x => x.tick == m.tick && !x.injected)

/-- Offer a fault to the first-error capture (R363). -/
def State.captureFirst (s : State) (src kind detail : Nat) (inj : Bool) : State :=
  s.sfs [(F.FCU_FIRST_VALID, 1), (F.FCU_FIRST_INJECTED, b2n inj), (F.FCU_FIRST_KIND, kind), (F.FCU_FIRST_SOURCE, src),
    (F.FCU_FIRST_DET_DETAIL 0, detail), (F.FCU_FIRST_DET_DETAIL 1, detail / 2 ^ 32)]

/-- FAULT_MESSAGE (R356): the FCU takes the next fault: cascade check, status and count, first error, and the reactions
queued for eight YCLK cycles (two ticks) later. -/
def takeFault (s : State) : State :=
  match firstMsg s.fcu.inbox with
  | none => s
  | some m =>
    let same := s.fcu.inbox.filter (sameFault m)
    let rest := s.fcu.inbox.filter (fun x => !sameFault m x)
    let reals := same.filter (fun x => !x.injected)
    let nInj := same.length - reals.length
    let s := { s with fcu := { s.fcu with inbox := rest } }
    if s.isCascade m.src then
      (s.addf (F.FCU_SRC_CNT_CASCADE m.src) same.length).addf F.FCU_CNT_CASCADE_COUNT same.length
    else
      let real := !reals.isEmpty
      let inj := nInj != 0
      let detail := (reals.head?.map (·.detail)).getD 0
      let st := s.reg (R.FCU_SRC_STAT m.src) ||| (if real then 2 ^ m.kind else 0) ||| (if inj then 2 ^ (16 + m.kind) else 0)
      let s := s.setReg (R.FCU_SRC_STAT m.src) st
      let s := s.addf (F.FCU_SRC_CNT_COUNT m.src) reals.length
      let s := s.addf F.FCU_CNT_INJ_COUNT nInj
      let byte := s.rctByte m.src m.kind
      let eff := if real || s.bf F.FCU_CFG_INJ_REACT then byte else byte &&& 1
      let first := byte != 0 && !s.bf F.FCU_FIRST_VALID && (real || !realLater m rest)
      let s := if first then s.captureFirst m.src m.kind detail (!real) else s
      let r : React := ⟨m.src, m.kind, detail, real, inj, eff, first, s.reg (R.FCU_SRC_CNT m.src), s.tick + 2⟩
      let s := { s with fcu := { s.fcu with react := s.fcu.react ++ [r] } }
      if byte != 0 then s.wake 5 else s

/-! ### ERR_N (R365) -/

/-- ERR_N is asserted. -/
def State.errPin (s : State) : Bool :=
  s.fcu.pulseEnd.isSome || s.bf F.FCU_ERR_CTL_HOLD || s.safe || s.gf F.PWR_STAT_SH == 4 || s.gctl.inReset || s.gctl.frozen

/-- An ERR reaction: start or restart the pulse, and set HOLD. -/
def State.errPulse (s : State) : State :=
  let ms := max 1 (s.gf F.FCU_ERR_CTL_PULSE_MS)
  let s := s.sf F.FCU_ERR_CTL_HOLD 1
  { s with fcu := { s.fcu with pulseEnd := some (s.tick + 250000 * ms), holdOff := false } }

/-- ERR_PULSE_END (R365). -/
def pulseEndStep (s : State) : State :=
  match s.fcu.pulseEnd with
  | none => s
  | some t =>
    if s.tick < t then s
    else
      let off := s.fcu.holdOff
      let s := { s with fcu := { s.fcu with pulseEnd := none, holdOff := false } }
      if off then s.sf F.FCU_ERR_CTL_HOLD 0 else s

/-- HOLD (R365): a write of FCU_ERR_CTL.HOLD; 0 during a pulse takes effect when the pulse ends. In the safe state the
pin stays asserted (R366). -/
def holdWrite (v : Bool) (s : State) : State :=
  if v then
    let s := { s with fcu := { s.fcu with holdOff := false } }
    s.sf F.FCU_ERR_CTL_HOLD 1
  else if s.fcu.pulseEnd.isSome then { s with fcu := { s.fcu with holdOff := true } }
  else s.sf F.FCU_ERR_CTL_HOLD 0

/-! ### Injection and raising (R364) -/

/-- One injected fault. -/
def State.inject (s : State) (src kind : Nat) : State :=
  { s with fcu := { s.fcu with inbox := s.fcu.inbox ++ [⟨src, kind, 0, true, s.tick⟩] } }

/-- FORCE (R364): a write to FCU_SRC_FORCE[src] injects a fault of each kind whose bit is set. An unassigned source takes
no fault: its state reads zero throughout (R354). -/
def forceWrite (src v : Nat) (s : State) : State :=
  if !assignedSource src then s
  else (List.range 16).foldl (fun s k => if bit v k then s.inject src k else s) s

/-- FW_RAISE (R364): a REAL fault of kind FW at the source named, with detail FCU_FW_DET. -/
def fwRaise (v : Nat) (s : State) : State :=
  let src := bits v 7 0
  if assignedSource src then s.raise src kFW (s.reg R.FCU_FW_DET) else s

end Sys2Proof.Machine
end

