-- ==== Sys2Proof/Machine/Evr.lean ====
section
/-! DEFINITION. The event recorder (spec/15, R370 to R380): acceptance, rate limits, the log, spill, reserves, cursors. -/
namespace Sys2Proof.Machine

/-! ### Codes and records (R370, R372) -/

/-- A code of the recorder (R370). -/
def codeOk (c : Nat) : Bool := c / 2 ^ 12 ≤ 3 && bits c 11 8 == 0

/-- A code's index (R370). -/
def codeIdx (c : Nat) : Nat := c / 2 ^ 12 * 256 + c % 256

/-- The 32 bytes of a record, as a number (R372). -/
def ERec.word (r : ERec) (reserve : Bool) (dropped : Nat) : BitVec 256 :=
  BitVec.ofNat 256 (leNat (leBytes 8 r.stamp ++ leBytes 2 r.era ++ leBytes 2 r.code ++ leBytes 2 r.writer ++
    leBytes 1 (r.flags + b2n reserve) ++ leBytes 1 dropped ++ leBytes 8 r.arg0 ++ leBytes 8 r.arg1))

/-- Word `w` of a record. -/
def recWord (r : BitVec 256) (w : Nat) : Nat := bits r.toNat (32 * w + 31) (32 * w)

def State.setEvr (s : State) (e : EvrSt) : State := { s with evr := e }

/-! ### The log (R375 to R378) -/

/-- Records of the spill ring (R375). -/
def State.spillSize (s : State) : Nat := 2 ^ s.gf F.EVR_SPILL_CTL_SIZE_LOG2

/-- DRAM address of sequence `q` in the spill ring. -/
def State.spillAddr (s : State) (q : Nat) : Nat :=
  dramBase + s.gf F.EVR_SPILL_BASE_BASE * 2 ^ 13 + q % s.spillSize * 32

/-- The record at a sequence: reserve, on-chip memory, spill ring (R377, R378); `none` where it is lost or not written. -/
def State.recAt (s : State) (q : Nat) : Option (BitVec 256) :=
  if q < s.evr.tail ∨ s.evr.head ≤ q then none
  else match s.evr.resv.get (fun _ => none) q with
    | some r => some r
    | none => match s.evr.chip.get (fun _ => none) q with
      | some r => some r
      | none =>
        if s.evr.spilled.get (fun _ => false) q then some (BitVec.ofNat 256 (s.rdN (s.spillAddr q) 32)) else none

/-- The least of a list of numbers that is at least `q`, or `top`. -/
def leastFrom (q top : Nat) (l : List Nat) : Nat := l.foldl (fun m k => if q ≤ k ∧ k < m then k else m) top

/-- The next readable sequence from `q` on, or the head. -/
def State.nextReadable (s : State) (q : Nat) : Nat :=
  let q := max q s.evr.tail
  leastFrom q s.evr.head (s.evr.resv.keys ++ s.evr.chip.keys ++ s.evr.spilled.keys)

/-- Move every cursor that stands on a record no longer readable to the next readable one; LOST grows (R377, R378). -/
def State.fixCursors (s : State) : State :=
  (List.range 4).foldl (fun s c =>
    let p := s.evr.cur.getD c 0
    if s.evr.head ≤ p ∨ (s.recAt p).isSome then s
    else
      let n := s.nextReadable p
      let s := s.addf (F.EVR_CUR_STAT_LOST c) (n - p)
      s.setEvr { s.evr with cur := setAt s.evr.cur c n }) s

/-- A record on chip is overwritten before its spill write: it is missing from the spill (R375). -/
def State.spillMiss (s : State) (q : Nat) : State :=
  let s := (s.sf F.EVR_STAT_SPILL_GAP 1).incf F.EVR_CNT_SPILL_MISSING_COUNT
  let g := match s.evr.gap with
    | none => (q, 1)
    | some (a, n) => (a, n + 1)
  s.setEvr { s.evr with spillNext := q + 1, gap := some g }

/-- Keep a copy in the retention reserve, newest first, four at most (R377). -/
def State.retain (s : State) (r : BitVec 256) : State := s.setEvr { s.evr with ret := (r :: s.evr.ret).take 4 }

/-- Is a code copied to the retention reserve (R377)? -/
def retainedCode (c : Nat) : Bool := c == 0x0001 || c == 0x0022 || c == 0x0031

/-- Write a record at the head (R373, R375, R377): on chip, or to the 16-entry reserve. -/
def State.writeRec (s : State) (r : ERec) : State :=
  let q := s.evr.head
  let i := codeIdx r.code
  let resv := s.bf F.EVR_STAT_RESERVE
  let w := r.word resv (min 255 (s.evr.dropCnt.get (fun _ => 0) i))
  let s := s.incf F.EVR_CNT_WRITTEN_COUNT
  let s := if retainedCode r.code then s.retain w else s
  let e := { s.evr with dropCnt := s.evr.dropCnt.set (fun _ => 0) i 0, head := (q + 1) % 2 ^ 40 }
  let e := if resv then { e with resv := (e.resv.clearRange 0 (q - 15)).set (fun _ => none) q (some w) }
           else { e with chip := (e.chip.clearRange 0 (q - 8191)).set (fun _ => none) q (some w) }
  let s := s.setEvr e
  let spill := s.bf F.EVR_SPILL_CTL_EN
  let keep := if spill then s.spillSize else 8192
  let tail := max s.evr.tail (q + 1 - keep)
  let s := s.setEvr { s.evr with tail := tail, spilled := s.evr.spilled.clearRange 0 tail }
  let s := if spill ∧ s.evr.spillNext + (if resv then 16 else 8192) ≤ q then s.spillMiss s.evr.spillNext else s
  s.fixCursors

/-- May a record of this code be accepted in the window (R373)? Codes 0x0001, 0x0022 and 0x0031 are never limited. -/
def State.rateOk (s : State) (code : Nat) : Bool :=
  let lim := s.gf (F.EVR_RATE_LIMIT (codeIdx code))
  lim == 0xFFFF || retainedCode code || s.evr.winCnt.get (fun _ => 0) (codeIdx code) < lim

/-- Accept a record under its rate limit (R373); a suppressed one is counted. -/
def State.acceptRec (s : State) (r : ERec) : State :=
  let i := codeIdx r.code
  if s.rateOk r.code then
    (s.setEvr { s.evr with winCnt := s.evr.winCnt.set (fun _ => 0) i (s.evr.winCnt.get (fun _ => 0) i + 1) }).writeRec r
  else
    let s := s.incf F.EVR_CNT_RATE_SUPP_COUNT
    s.setEvr { s.evr with dropCnt := s.evr.dropCnt.set (fun _ => 0) i (s.evr.dropCnt.get (fun _ => 0) i + 1) }

/-- The offered record accepted next: ascending WRITER (R373). -/
def nextOffer : List ERec → Option ERec
  | [] => none
  | r :: rs => match nextOffer rs with
    | none => some r
    | some b => if b.writer < r.writer then some b else some r

/-- Remove the first copy of a record. -/
def dropRec (r : ERec) : List ERec → List ERec
  | [] => []
  | x :: xs => if x = r then xs else x :: dropRec r xs

/-- EVENT_RECORD (R373): EVR accepts the offered record of the least WRITER. -/
def acceptNext (s : State) : State :=
  match nextOffer s.evr.offered with
  | none => s
  | some r => (s.setEvr { s.evr with offered := dropRec r s.evr.offered }).acceptRec r

/-- RATE_WINDOW (R373): a window of RATE_MS ms ends. -/
def rateWindow (s : State) : State :=
  let len := 250000 * max 1 (s.gf F.EVR_CFG_RATE_MS)
  if s.tick < s.evr.winStart + len then s
  else s.setEvr { s.evr with winCnt := [], winStart := s.evr.winStart + len }

/-! ### Spill (R375, R376) -/

/-- Is the spill paused by self-refresh (R375)? -/
def State.spillPaused (s : State) : Bool := s.bf F.EVR_SPILL_CTL_EN && s.bf F.DMC_STAT_SREF

/-- SPILL_WRITE (R375): the next record is copied to the DRAM ring. -/
def spillWrite (s : State) : State :=
  let q := s.evr.spillNext
  if !s.bf F.EVR_SPILL_CTL_EN || !s.dramUp || !s.dramIdle cEVR || s.evr.head ≤ q then s
  else match s.recAt q with
    | none => s.spillMiss q
    | some r =>
      let s := (s.wrL (s.spillAddr q) (leBytes 32 r.toNat)).dramAsk cEVR 1
      s.setEvr { s.evr with spillNext := q + 1, spilled := s.evr.spilled.set (fun _ => false) q true }

/-- SPILL_GAP (R375): spill has resumed; the run of missing records is recorded. -/
def spillGap (s : State) : State :=
  match s.evr.gap with
  | none => s
  | some (a, n) =>
    if !s.dramUp then s
    else (s.setEvr { s.evr with gap := none }).logRec 3 0x0032 a n

/-- Do two regions of DRAM offsets overlap? -/
def overlap (a la b lb : Nat) : Bool := a < b + lb && b < a + la

/-- The loft region and the auxiliary region (R144): base and size. -/
def State.loftRegion (s : State) : Nat × Nat :=
  (s.gf F.LFT_LOFT_BASE_BASE * 2 ^ F.LFT_LOFT_BASE_BASE.lo, 64 * 2 ^ s.gf F.LFT_CFG_SIZE_LOG2)
def State.auxRegion (s : State) : Nat × Nat := (s.gf F.LFT_AUX_BASE_BASE * 2 ^ 27, 2 ^ 27)
/-- The session table (R336). -/
def State.saxRegion (s : State) : Nat × Nat :=
  (s.gf F.SAX_TBL_BASE_BASE * 2 ^ F.SAX_TBL_BASE_BASE.lo, 256 * 2 ^ s.gf F.SAX_CFG_SIZE_LOG2)

/-- Usable DRAM in bytes (R439). -/
def State.usable (s : State) : Nat := s.gf F.DMC_SIZE_USABLE * 2 ^ 20

/-- The placement checks of R376. -/
def State.spillOk (s : State) (log2 : Nat) : Bool :=
  let base := s.gf F.EVR_SPILL_BASE_BASE * 2 ^ 13
  let size := 32 * 2 ^ log2
  13 ≤ log2 && log2 ≤ 21 && base % size == 0 && base + size ≤ s.usable &&
    !(s.bf F.LFT_CTL_EN && (overlap base size s.loftRegion.1 s.loftRegion.2 || overlap base size s.auxRegion.1 s.auxRegion.2)) &&
    !(s.bf F.SAX_CTL_EN && overlap base size s.saxRegion.1 s.saxRegion.2)

/-- A write of EVR_SPILL_CTL (SPILL_ENABLE, R376): EN = 1 is refused with CFG_REJ where a check fails. -/
def spillCtl (v : Nat) (s : State) : State :=
  if s.bf F.EVR_CTL_LOCK then s
  else if bit v 31 then
    if s.spillOk (bits v 4 0) then
      let s := s.setReg R.EVR_SPILL_CTL (2 ^ 31 + bits v 4 0)
      s.setEvr { s.evr with spillNext := s.evr.head, gap := none, spilled := [] }
    else s.sf F.EVR_STAT_CFG_REJ 1
  else s.setReg R.EVR_SPILL_CTL (bits v 4 0)

/-! ### Memory faults and reserves (R377, R380) -/

/-- RECORDER_MEM_FAULT (R377): an uncorrected error in word `word` of on-chip slot `slot`. The record held there is lost
unless spill holds it; the first such error also starts the reserve with a RECORDER_MEM_FAULT record. -/
def memFault (slot word : Nat) (s : State) : State :=
  let held := s.evr.chip.keys.filter (fun q => q % 8192 == slot)
  let s := (s.raise 3 kUE 0).sf F.EVR_STAT_MEM_UE 1
  let first := !s.bf F.EVR_STAT_RESERVE
  let s := s.sf F.EVR_STAT_RESERVE 1
  let seqs := match held with | q :: _ => q | [] => s.freeBits.toNat
  let s := if held.isEmpty && first then s.useFree else s
  let s := s.setEvr { s.evr with chip := held.foldl (fun m q => m.set (fun _ => none) q none) s.evr.chip }
  let s := if first then s.acceptRec (s.mkRec 0x0031 0x8003 (slot + word * 2 ^ 13 + seqs % 2 ^ 40 * 2 ^ 16) s.evr.head) else s
  s.fixCursors

/-- EVR_BLOCK_RESET (R380): on-chip records are discarded, the memory test starts, records go to the reserve. -/
def evrReset (s : State) : State :=
  if s.fcu.inReset.contains 3 then s
  else
    let s := (s.beginReset 3).sfs [(F.EVR_STAT_TEST_BUSY, 1), (F.EVR_STAT_RESERVE, 1)]
    let s := s.setEvr { s.evr with chip := [] }
    let s := s.setEvr { s.evr with tail := s.nextReadable s.evr.tail }
    s.fixCursors

/-- MEMORY_TEST_DONE (R380): the memory test ends; `pass` is what the memory showed. -/
def testDone (pass : Bool) (s : State) : State :=
  if !s.bf F.EVR_STAT_TEST_BUSY then s
  else
    let s := (s.endReset 3).sf F.EVR_STAT_TEST_BUSY 0
    if pass then s.sf F.EVR_STAT_RESERVE 0 else s.raise 3 kUE 0

/-- RETENTION_CLR (R377): empty the retention reserve. -/
def retClear (s : State) : State := s.setEvr { s.evr with ret := [] }

/-! ### Cursors (R378, R379) -/

/-- Word `w` of the record at cursor `c`: all ones at the head (R378). -/
def State.curWord (s : State) (c w : Nat) : Nat :=
  match s.recAt (s.evr.cur.getD c 0) with
  | some r => recWord r w
  | none => 2 ^ 32 - 1

/-- ADV (R378): a cursor advances by one; no effect at the head. -/
def curAdv (c : Nat) (s : State) : State :=
  let p := s.evr.cur.getD c 0
  if s.evr.head ≤ p then s else (s.setEvr { s.evr with cur := setAt s.evr.cur c (p + 1) }).fixCursors

/-- Move a cursor to a sequence and clear LOST (R378). -/
def State.curSeek (s : State) (c q : Nat) : State :=
  ((s.setEvr { s.evr with cur := setAt s.evr.cur c q }).sf (F.EVR_CUR_STAT_LOST c) 0).fixCursors

/-- SEEK_OLDEST, SEEK_HEAD (R378). -/
def curOldest (c : Nat) (s : State) : State := s.curSeek c s.evr.tail
def curHead (c : Nat) (s : State) : State := s.curSeek c s.evr.head

/-- A write of EVR_CUR_CTL[c] (R378): the seek first, SEEK_HEAD taking precedence, then ADV. -/
def curCtl (c v : Nat) (s : State) : State :=
  let s := if bit v 2 then curHead c s else if bit v 1 then curOldest c s else s
  if bit v 0 then curAdv c s else s

/-- A 32-bit read at offset `o` of cursor `c`'s window (R379), without the advance. -/
def State.winWord (s : State) (c o : Nat) : Nat :=
  if 4 ≤ c then 0
  else if o ≤ 0x1C then s.curWord c (o / 4)
  else if o == 0x20 then (s.evr.cur.getD c 0) % 2 ^ 32
  else if o == 0x24 then (s.hiCap.get (fun _ => 0) (0x1000000 + 0x1000 * c + 0x24)).toNat
  else if o == 0x28 then b2n (s.recAt (s.evr.cur.getD c 0)).isSome * 2 ^ 31 + s.gf (F.EVR_CUR_STAT_LOST c)
  else 0

/-- A read of word `o` of cursor `c`'s window: the state after it and the value. The RA word advances the cursor after its value is
returned; the sequence's low word captures the high one (R175, R379). -/
def winRead (c o : Nat) (s : State) : State × Nat :=
  let v := s.winWord c o
  if 4 ≤ c then (s, v)
  else if o = 0x1C then (curAdv c s, v)
  else if o = 0x20 then
    ({ s with hiCap := s.hiCap.set (fun _ => 0) (0x1000024 + 0x1000 * c) (BitVec.ofNat 32 (s.evr.cur.getD c 0 / 2 ^ 32)) }, v)
  else (s, v)

/-- CURSOR_READ (R8, R379): a host read of the window of cursor `c`. A narrow read returns the addressed bytes and does what the 32-bit
read does; the read of a whole record advances once. -/
def curRead (c : Nat) (r : WinRead) (s : State) : State :=
  match r with
  | .part o be =>
    let (t, v) := winRead c (o.toNat / 4 * 4) s
    if be = 0 then s.emit .hostRead 2 [] else t.emit .hostRead 2 (rdBytes be.toNat v)
  | .record => (winRead c 0x1C s).1.emit .hostRead 2 ((List.range 8).flatMap (fun k => leBytes 4 (s.winWord c (4 * k))))

end Sys2Proof.Machine
end

