-- ==== Sys2Proof/Machine/Tbu.lean ====
section
/-! DEFINITION. The time base unit (spec/06): increments, steps, slews, the coordinate estimator, snapshots, captures, pulse
outputs, scheduled actions. Changes of a domain that reach paddocks, gates and waits stand in Machine/DomainEvents.lean. -/
namespace Sys2Proof.Machine

def State.setTbu (s : State) (t : TbuSt) : State := { s with tbu := t }

/-! ### The tick (R120, R123, R127, R130) -/

/-- Largest value of a nanosecond domain plus one: 64-bit seconds (R121). -/
def nsModulus : Nat := 2 ^ 64 * nsPerS * 2 ^ 32

/-- Effective slew rate (R124). -/
def State.slewRate (s : State) : Nat := min (s.gf F.TBU_SLEW_RATE_RATE) 0x19999999

/-- The slew applied on one tick. -/
def slewPart (rate : Nat) (slew : Int) : Int := max (-(rate : Int)) (min (rate : Int) slew)

/-- One tick of a nanosecond domain. -/
def Dom.tickNs (d : Dom) (rate : Nat) : Dom :=
  let p := slewPart rate d.slew
  { d with val := wrapI ((d.val : Int) + d.incr + p) nsModulus, slew := d.slew - p }
where
  /-- An integer modulo a number. -/
  wrapI (i : Int) (m : Nat) : Nat := (i % (m : Int)).toNat

/-- One cycle of a coordinate domain, in the units of `Dom.val`. -/
def cyc : Nat := 2 ^ 80

/-- One tick of a LOCKED or HOLDOVER coordinate domain: the rate and, when LOCKED, the correction, at least -rate/2. -/
def Dom.tickCoord (d : Dom) (locked : Bool) : Dom :=
  let c : Int := if locked ∧ d.corrTicks ≠ 0 then d.corr / (d.corrTicks : Int) else 0
  let c' := max c (-((d.rate / 2 : Nat) : Int))
  { d with val := ((d.val : Int) + d.rate + c').toNat % (2 ^ 64 * cyc),
           corr := if locked then d.corr - c else d.corr, corrTicks := if locked then d.corrTicks - 1 else d.corrTicks }

/-- Is domain `n` a synthetic one (SRC = 0b100)? -/
def State.synthetic (s : State) (n : Nat) : Bool := 4 ≤ n && s.gf (F.TBU_DOM_CTL_SRC n) == 4

/-- The value of a synthetic domain (R130): source × MUL ÷ DIV, the source in seconds or cycles. -/
def State.synValue (s : State) (n : Nat) : Nat :=
  let src := s.gf (F.TBU_DOM_CTL_SYN_SRC n)
  let unit := if src < 4 then nsPerS * 2 ^ 32 else cyc
  (s.dom src).val * s.gf (F.TBU_COORD_SYN_MUL n) * cyc / (unit * s.gf (F.TBU_COORD_SYN_DIV n)) % (2 ^ 64 * cyc)

/-- One tick of domain `n`. -/
def State.tickDom (s : State) (n : Nat) : State :=
  let st := s.domState n
  if st = dOFF ∨ st = dUNLOCKED then s
  else if n < 4 then s.setDom n ((s.dom n).tickNs s.slewRate)
  else if s.synthetic n then s.setDom n { s.dom n with val := s.synValue n }
  else s.setDom n ((s.dom n).tickCoord (st == dLOCKED))

/-- Rate of a synthetic domain: that of its source, scaled (R130). -/
def State.synRate (s : State) (n : Nat) : Nat :=
  let k := s.gf (F.TBU_DOM_CTL_SYN_SRC n)
  let unit := if k < 4 then nsPerS * 2 ^ 32 else cyc
  (if k < 4 then (s.dom k).incr else (s.dom k).rate) * s.gf (F.TBU_COORD_SYN_MUL n) * cyc / (unit * max 1 (s.gf (F.TBU_COORD_SYN_DIV n)))

/-- What domain `n` gains on one tick without slew or correction, in the units of `Dom.val`: its increment, the estimator's rate, or the
rate that its source gives a synthetic domain (R122, R127, R130). -/
def State.rateOf (s : State) (n : Nat) : Nat :=
  if n < 4 then (s.dom n).incr else if s.synthetic n then s.synRate n else (s.dom n).rate

/-- Every domain advances on one tick: sources before the synthetic domains computed from them. -/
def State.tickDomains (s : State) : State :=
  let ns := (List.range 8).filter (fun n => !s.synthetic n) ++ (List.range 8).filter s.synthetic
  ns.foldl State.tickDom s

/-! ### Increments (R122) -/

/-- INCR_LO_WRITE (R122): the low half is held. Only domains 0 to 3 have an increment. -/
def incrLo (n v : Nat) (s : State) : State :=
  if 4 ≤ n then s else s.setDom n { s.dom n with low := some (v % 2 ^ 32) }

/-- INCR_HI_WRITE (R122): both halves apply from the next tick, or the pair is refused. -/
def incrHi (n v : Nat) (s : State) : State :=
  if 4 ≤ n then s
  else
    let d := s.dom n
    let x := bits v 7 0 * 2 ^ 32 + d.low.getD (d.incr % 2 ^ 32)
    let s := s.setDom n { d with low := none, incr := if 0x3FEF9DB23 ≤ x ∧ x ≤ 0x4010624DD then x else d.incr }
    if 0x3FEF9DB23 ≤ x ∧ x ≤ 0x4010624DD then s else s.sf (F.TBU_DOM_STAT_RATE_REFUSED n) 1

/-! ### Steps (R123, R124) -/

/-- Domain 0 stands before a change of its value, era or state: kept for stamps of earlier moments (R132). -/
def State.mark0 (s : State) (n : Nat) : State :=
  if n ≠ 0 then s
  else s.setTbu { s.tbu with past := s.tbu.past.filter (fun m => s.tick < m.1 + 25000000) ++
    [(s.tick, (s.dom 0).val, s.era 0, s.stampState 0)] }

/-- The offset a STEP requests, in ns. -/
def State.stepOffset (s : State) (n : Nat) : Int :=
  sgn 32 (s.reg (R.TBU_DOM_STEP_S n)) * nsPerS + sgn 32 (s.reg (R.TBU_DOM_STEP_NS n))

/-- A STEP request on a domain that is not OFF (R123). -/
def State.stepReq (s : State) (n : Nat) : State :=
  let o := s.stepOffset n
  let d := s.dom n
  let refused := s.sf (F.TBU_DOM_STAT_STEP_REFUSED n) 1
  if d.step.isSome then s.sf (F.TBU_DOM_STAT_STEP_BUSY n) 1
  else if (sgn 32 (s.reg (R.TBU_DOM_STEP_NS n))).natAbs ≥ nsPerS ∨ (d.val : Int) + o * 2 ^ 32 < 0 then refused
  else if s.bf (F.TBU_DOM_STAT_SLEWING n) then s.sf (F.TBU_DOM_STAT_STEP_BUSY n) 1
  else if s.domState n = dACQUIRE then
    if !s.bf (F.TBU_DOM_STAT_FORCED n) ∧ o < 0 then refused
    else s.setDom n { d with step := some (o, s.tick) }
  else if o.natAbs > s.gf F.TBU_JUMP_LIMIT_LIMIT ∨ s.slewRate = 0 then refused
  else if o = 0 then s
  else (s.setDom n { d with slew := o * 2 ^ 32 }).sf (F.TBU_DOM_STAT_SLEWING n) 1

/-- A REACQ request on a domain that is not OFF (R124). -/
def State.reacqReq (s : State) (n : Nat) : State :=
  let s := s.setDom n { s.dom n with slew := 0 }
  s.sfs [(F.TBU_DOM_STAT_SLEWING n, 0), (F.TBU_DOM_STAT_STATE n, dACQUIRE), (F.TBU_DOM_STAT_FORCED n, 1)]

/-- A write of TBU_DOM_CMD[n] (R123, R124, R441): REACQ first, then STEP; discarded with CFG_REJ while OFF, and discarded
whole for domains 4 to 7. -/
def domCmd (n v : Nat) (s : State) : State :=
  if 4 ≤ n then s
  else if s.domState n = dOFF then s.sf (F.TBU_DOM_STAT_CFG_REJ n) 1
  else
    let s := s.mark0 n
    let s := if bit v 1 then s.reacqReq n else s
    if bit v 0 then s.stepReq n else s

/-- SLEW_DONE (R123): a slew has applied its offset. -/
def slewDone (n : Nat) (s : State) : State :=
  if (s.dom n).slew = 0 then (s.mark0 n).sf (F.TBU_DOM_STAT_SLEWING n) 0 else s

/-! ### Pending actions (R137 to R141) -/

/-- Count a discarded action of domain `n` (R140, R141). -/
def State.actDiscard (s : State) (n : Nat) : State :=
  (s.sf (F.TBU_DOM_STAT_ACT_DISCARD n) 1).incf F.TBU_ACT_CNT_DISC

/-- Discard a domain's pending actions; the number lost (R141). -/
def State.dropActs (s : State) (n : Nat) : State × Nat :=
  let k := (s.tbu.acts.filter (fun a => a.dom == n)).length
  if k = 0 then (s, 0)
  else
    let s := s.setTbu { s.tbu with acts := s.tbu.acts.filter (fun a => a.dom != n) }
    ((s.sf (F.TBU_DOM_STAT_ACT_DISCARD n) 1).addf F.TBU_ACT_CNT_DISC k, k)

/-- TBU_LEAD in the units of a domain's value (R137): 4 ns a tick, or the rate a tick. -/
def State.leadVal (s : State) (n : Nat) : Nat :=
  let t := max 16 (s.gf F.TBU_LEAD_LEAD)
  if n < 4 then t * (4 * 2 ^ 32) else t * s.rateOf n

/-- A time operand of TM.SCHED and TM.WAIT: `none` when out of range (spec/03, time operations). -/
def timeOperand (n a b : Nat) : Option Nat :=
  if n < 4 then
    if bits b 61 32 ≥ nsPerS ∨ bits b 63 62 ≠ 0 then none
    else some ((a * nsPerS + bits b 61 32) * 2 ^ 32 + bits b 31 0)
  else if bits b 63 32 ≠ 0 then none
  else some (a * cyc + bits b 31 0 * 2 ^ 48)

/-- TOUT mode of a pin. -/
def State.toutMode (s : State) (j : Nat) : Nat := s.gf (F.TBU_TOUT_CTL_MODE j)

/-- The RANGE checks of R137 on the action word and argument. -/
def State.actRange (s : State) (w arg : Nat) (ctlWr : Bool) : Bool :=
  let k := bits w 7 0
  if bits w 15 11 ≠ 0 ∨ bits w 63 32 ≠ 0 then false
  else if 1 ≤ k ∧ k ≤ 4 then
    s.toutMode (bits w 10 8) == 1 && (if k = 4 then 1 ≤ arg && arg < 2 ^ 20 else arg == 0)
  else if k = 8 then arg < 2 ^ 48
  else if k = 9 then bits arg 31 26 == 0 && bits arg 1 0 == 0 && ctlWr
  else if k = 10 then arg == 0
  else false

/-- The lowest free action slot. -/
def State.freeSlot (s : State) : Nat :=
  (firstIdx (fun i => !s.tbu.acts.any (fun a => a.slot == i)) 2048).getD 0

/-- Enter an action: its identifier is [10:0] slot, [26:11] generation, [29:27] domain (R138). -/
def State.enterAct (s : State) (n w t arg th : Nat) (late : Bool) : State × Nat :=
  let i := s.freeSlot
  let g := (s.tbu.gens.get (fun _ => 0) i + 1) % 2 ^ 16
  let a : Action :=
    { slot := i, gen := g, dom := n, time := t, kind := bits w 7 0, queue := bits w 31 16,
      pin := bits w 10 8, arg := arg, thread := th, order := s.tbu.order, since := s.tick, nextTick := late,
      deferred := false }
  (s.setTbu { s.tbu with acts := s.tbu.acts ++ [a], gens := s.tbu.gens.set (fun _ => 0) i g, order := s.tbu.order + 1 },
    i + g * 2 ^ 11 + n * 2 ^ 27)

/-- TM.SCHED (R137): the new state, STATUS and VALUE. -/
def tmSched (n w ta tb arg th : Nat) (ctlWr : Bool) (s : State) : State × Nat × Nat :=
  match timeOperand n ta tb with
  | none => (s, 0x13, 0)
  | some t =>
    if !s.actRange w arg ctlWr then (s, 0x13, 0)
    else if !s.domOk n then (s, 0x16, 0)
    else if s.tbu.acts.length ≥ 2048 then (s.sf F.TBU_ACT_STAT_FULL 1, 0x11, 0)
    else if t < (s.dom n).val + s.leadVal n then
      let s := (s.sf (F.TBU_DOM_STAT_LATE n) 1).incf F.TBU_ACT_CNT_LATE
      if s.bf (F.TBU_DOM_CTL_LATE_POLICY n) then
        let (s, id) := s.enterAct n w t arg th true
        (s, 0x02, id)
      else (s, 0x17, 0)
    else
      let (s, id) := s.enterAct n w t arg th false
      (s, 0x00, id)

/-- TM.CAN (R138): STATUS. -/
def tmCan (n id : Nat) (s : State) : State × Nat :=
  if bits id 29 27 ≠ n ∨ id / 2 ^ 30 ≠ 0 then (s, 0x12)
  else if s.tbu.acts.any (fun a => a.slot == bits id 10 0 && a.gen == bits id 26 11 && a.dom == n) then
    (s.setTbu { s.tbu with acts := s.tbu.acts.filter (fun a =>
      !(a.slot == bits id 10 0 && a.gen == bits id 26 11 && a.dom == n)) }, 0x00)
  else (s, 0x1F)

/-- Is an action due (R139)? One entered late runs on the tick after its acceptance (R137). -/
def State.actDue (s : State) (a : Action) : Bool := if a.nextTick then a.since < s.tick else a.time ≤ (s.dom a.dom).val

/-- May another due action run on this tick (R139)? -/
def State.actRoom (s : State) : Bool := s.tbu.ranTick != s.tick || s.tbu.ranCnt < 4

/-- Does due action `a` run before `b`: ascending time, then order of acceptance (R139)? -/
def Action.before (a b : Action) : Bool :=
  if a.dom = b.dom ∧ a.time ≠ b.time then a.time < b.time else a.order < b.order

/-- The due action that runs next. -/
def State.dueAct (s : State) : Option Action :=
  (s.tbu.acts.filter s.actDue).foldl (fun m a => match m with
    | none => some a
    | some b => if a.before b then some a else some b) none

/-- The tick ends: an action that was due on it and has not run runs on a later one (R139). -/
def State.deferActs (s : State) : State :=
  if s.tbu.acts.any (fun a => s.actDue a && !a.deferred) then
    s.setTbu { s.tbu with acts := s.tbu.acts.map (fun a => { a with deferred := a.deferred || s.actDue a }) }
  else s

/-- Take the next due action when its kind is `k`: at most four run on one tick, and one that runs on a later tick than the first on which
it was due sets DEFER (R139). -/
def State.takeAct (s : State) (k : Nat) : State × Option Action :=
  match s.dueAct with
  | none => (s, none)
  | some a =>
    if a.kind ≠ k then (s, none)
    else
      let cnt := if s.tbu.ranTick = s.tick then s.tbu.ranCnt else 0
      if !s.actRoom then (s, none)
      else
        let s := if a.deferred then s.sf F.TBU_ACT_STAT_DEFER 1 else s
        (s.setTbu { s.tbu with acts := s.tbu.acts.filter (fun x => x.order != a.order), ranTick := s.tick, ranCnt := cnt + 1 }, some a)

/-- Drive a TOUT pin. -/
def State.setTout (s : State) (j : Nat) (v : Bool) : State := s.setTbu { s.tbu with tout := setAt s.tbu.tout j v }
def State.toutLevel (s : State) (j : Nat) : Bool := s.tbu.tout.getD j false

/-- A TOUT action on its pin (R446): only in MODE 0b01; in the safe state it runs without effect (R366). -/
def State.toutAct (s : State) (a : Action) (f : Bool → Bool) : State :=
  if s.safe then s
  else if s.toutMode a.pin ≠ 1 then s.actDiscard a.dom
  else s.setTout a.pin (f (s.toutLevel a.pin))

/-- TOUT_HIGH, TOUT_LOW, TOUT_TOGGLE (R139, R446). -/
def runTout (k : Nat) (f : Bool → Bool) (s : State) : State :=
  match s.takeAct k with
  | (s, none) => s
  | (s, some a) => s.toutAct a f

/-- TOUT_PULSE (R446): invert, and time the second inversion. -/
def runPulse (s : State) : State :=
  match s.takeAct 4 with
  | (s, none) => s
  | (s, some a) =>
    let s' := s.toutAct a (!·)
    if s.toutMode a.pin = 1 then s'.setTbu { s'.tbu with pulses := s'.tbu.pulses ++ [(s.tick + a.arg, a.pin, a.dom)] } else s'

/-- PULSE_SECOND_INVERSION (R446): the timed inversion of a pulse on pin `j`, after the due actions of its tick. -/
def pulseSecond (j : Nat) (s : State) : State :=
  match s.tbu.pulses.filter (fun p => p.2.1 == j && p.1 ≤ s.tick) with
  | [] => s
  | p :: _ =>
    if s.dueAct.isSome && s.actRoom then s
    else
      let s := s.setTbu { s.tbu with pulses := s.tbu.pulses.erase p }
      if s.safe then s else if s.toutMode j ≠ 1 then s.actDiscard p.2.2 else s.setTout j (!s.toutLevel j)

/-- QSIG (R140): append an event carrying the value and the scheduling thread's index; a full queue discards the action. -/
def runQsig (s : State) : State :=
  match s.takeAct 8 with
  | (s, none) => s
  | (s, some a) =>
    (s.deliver a.queue (s.eventEntry a.arg a.thread) [F.TBU_DOM_STAT_ACT_DISCARD a.dom, F.TBU_ACT_CNT_DISC]).1

/-! ### Snapshots (R133) -/

/-- SNAP (R133): a write of TBU_CTL.SNAP; discarded while a capture is pending. -/
def snapReq (s : State) : State :=
  if s.tbu.snapAt.isSome || s.tbu.snapValid.isSome then s
  else (s.sf F.TBU_CTL_SNAP_VALID 0).setTbu { s.tbu with snapAt := some (s.tick + 1) }

/-- Capture every domain now; the snapshot becomes valid three ticks later. -/
def State.snapNow (s : State) : State :=
  let one (n : Nat) : Nat :=
    let (w, p, f) := stampParts n (s.dom n).val
    w + p * 2 ^ 64 + f * 2 ^ 96 + (s.domState n + s.era n * 2 ^ 16) * 2 ^ 128
  s.setTbu { s.tbu with snap := (List.range 8).map one, snapAt := none, snapValid := some (s.tick + 3) }

/-- SNAP_CAPTURE (R133). -/
def snapCapture (s : State) : State :=
  match s.tbu.snapAt with
  | none => s
  | some t => if s.tick < t then s else s.snapNow

/-- SNAP_VALID (R133). -/
def snapDone (s : State) : State :=
  match s.tbu.snapValid with
  | none => s
  | some t =>
    if s.tick < t then s
    else
      let s := s.setTbu { s.tbu with snapValid := none }
      s.sfs [(F.TBU_CTL_SNAP_VALID, 1), (F.TBU_CTL_SNAP_TAG, s.gf F.TBU_CTL_SNAP_TAG + 1)]

/-- ACTION_SNAP (R133, R139): as a write of SNAP, capturing the values of the tick on which it runs. -/
def runSnap (s : State) : State :=
  match s.takeAct 10 with
  | (s, none) => s
  | (s, some _) =>
    if s.tbu.snapAt.isSome || s.tbu.snapValid.isSome then s else (s.sf F.TBU_CTL_SNAP_VALID 0).snapNow

/-! ### Captures (R134, R135) -/

/-- CAPTURE_EDGE (R134): an edge on TINi after which the pin stays stable for `stable` ticks. It qualifies when that is FILT ticks, and its
stamp is that of the edge's own tick. DESIGN CHOICE (log 148): the entry stands in the FIFO from the edge's tick. -/
def captureEdge (i : Nat) (rising : Bool) (stable : Nat) (s : State) : State :=
  let e := s.gf (F.TBU_CAP_CTL_EDGE i)
  if !s.bf (F.TBU_CAP_CTL_EN i) || !(if rising then bit e 0 else bit e 1) || decide (stable < s.gf (F.TBU_CAP_CTL_FILT i)) || !s.vioA then s
  else
    let tag := s.tbu.capTag.getD i 0
    let fifo := s.tbu.cap.getD i []
    let s := s.setTbu { s.tbu with capTag := setAt s.tbu.capTag i ((tag + 1) % 256) }
    if fifo.length ≥ 16 then (s.sf (F.TBU_CAP_STAT_OVF i) 1).incf (F.TBU_CAP_STAT_OVF_CNT i)
    else
      let rec_ := BitVec.ofNat 256 (leNat (s.stampNow (s.gf (F.TBU_CAP_CTL_DOM i)) 3 i tag))
      let s := s.setTbu { s.tbu with cap := setAt s.tbu.cap i (fifo ++ [⟨tag, rec_⟩]) }
      if s.bf (F.TBU_CAP_CTL_QEN i) then ((s.postEvent (s.gf (F.TBU_CAP_Q_QUEUE i)) (i * 256 + tag) 5).1).wake 4 else s

/-- CAPTURE_POP (R135): the head's tag removes the entry; any other write is discarded. -/
def capturePop (i tag : Nat) (s : State) : State :=
  match s.tbu.cap.getD i [] with
  | [] => s
  | c :: cs => if c.tag = tag % 256 then s.setTbu { s.tbu with cap := setAt s.tbu.cap i cs } else s

/-! ### Pulse outputs (R136) -/

/-- Four ticks' worth of a domain's units. -/
def State.fourTicks (s : State) (n : Nat) : Nat := if n < 4 then 16 else ceilDiv (4 * s.rateOf n) (2 ^ 56)

/-- The first leading edge of a train on pin `j` started now. -/
def State.trainStart (s : State) (j : Nat) : Nat :=
  let n := s.gf (F.TBU_TOUT_CTL_DOM j)
  let per := s.gf (F.TBU_TOUT_PER_PER j)
  let ph := s.gf (F.TBU_TOUT_PHASE_PHASE j) % (max 1 per)
  let lo := ceilDiv ((s.dom n).val + s.leadVal n) (wholeUnit n)
  ceilDiv (lo + per - ph) (max 1 per) * per + ph - per

/-- Apply a pin's mode after a write of TBU_TOUT_CTL[j]. -/
def State.toutMode' (s : State) (j : Nat) : State :=
  let idle := s.bf (F.TBU_TOUT_CTL_IDLE j)
  let m := s.toutMode j
  let s := s.setTbu { s.tbu with train := setAt s.tbu.train j (if m = 2 then some (s.trainStart j) else none) }
  if m = 1 then s else s.setTout j idle

/-- TOUT_CONFIG (R136): a write of register `r` of pin `j`: 0 CTL, 1 PER, 2 PHASE, 3 WID. -/
def toutConfig (j r v : Nat) (s : State) : State :=
  if r = 0 then
    if bits v 1 0 = 3 then s.sf (F.TBU_DOM_STAT_CFG_REJ (bits v 6 4)) 1
    else
      let s := s.sfs [(F.TBU_TOUT_CTL_IDLE j, bits v 8 8), (F.TBU_TOUT_CTL_DOM j, bits v 6 4), (F.TBU_TOUT_CTL_MODE j, bits v 1 0)]
      s.toutMode' j
  else if r = 2 then s.sf (F.TBU_TOUT_PHASE_PHASE j) v
  else
    let d := s.gf (F.TBU_TOUT_CTL_DOM j)
    let per := if r = 1 then v else s.gf (F.TBU_TOUT_PER_PER j)
    let wid := if r = 1 then s.gf (F.TBU_TOUT_WID_WID j) else v
    if per ≤ wid ∨ per < s.fourTicks d then s.sf (F.TBU_DOM_STAT_CFG_REJ d) 1
    else if r = 1 then s.sf (F.TBU_TOUT_PER_PER j) v else s.sf (F.TBU_TOUT_WID_WID j) v

/-- TOUT_TRAIN_EDGE (R136): the train on pin `j` takes the level its domain's value gives. -/
def trainEdge (j : Nat) (s : State) : State :=
  let n := s.gf (F.TBU_TOUT_CTL_DOM j)
  let idle := s.bf (F.TBU_TOUT_CTL_IDLE j)
  match s.tbu.train.getD j none with
  | none => s
  | some b =>
    if s.safe || s.toutMode j ≠ 2 then s
    else if !s.domOk n || s.whole n < b then s.setTout j idle
    else
      let pos := (s.whole n - b) % max 1 (s.gf (F.TBU_TOUT_PER_PER j))
      s.setTout j (if pos < s.gf (F.TBU_TOUT_WID_WID j) then !idle else idle)

/-- Trains timed in a domain that became OFF or UNLOCKED go to their idle level (R129). -/
def State.stopTrains (s : State) (n : Nat) : State :=
  (List.range 8).foldl (fun s j =>
    if s.toutMode j == 2 && s.gf (F.TBU_TOUT_CTL_DOM j) == n then s.setTout j (s.bf (F.TBU_TOUT_CTL_IDLE j)) else s) s

/-! ### The coordinate estimator (R127, R128) -/

/-- Grid divisions of a cycle: 1 for MAINS_SYNC, 4 × PPR for an encoder. -/
def State.gridDiv (s : State) (n : Nat) : Nat :=
  if s.gf (F.TBU_DOM_CTL_SRC n) = 1 then 1 else max 1 (4 * s.gf (F.TBU_COORD_ENC_PPR n))

/-- The phase error at a value, multiplied by the grid divisions: −½ ≤ e·m < ½ cycle. -/
def phaseErr (v m : Nat) : Int := (((v * m + cyc / 2) % cyc : Nat) : Int) - (cyc / 2 : Nat)

/-- An event on a LOCKED or HOLDOVER domain: the new domain, the error e × m, and whether it was accepted. -/
def State.estimate (s : State) (n : Nat) : Dom × Int × Bool :=
  let d := s.dom n
  let m := s.gridDiv n
  let e := phaseErr d.val m
  let dt := s.tick - d.lastEv.getD 0
  if (m = 1 ∧ dt < s.gf (F.TBU_COORD_PMIN_PMIN n)) ∨ e.natAbs > cyc / 8 then ({ d with rejects := d.rejects + 1 }, e, false)
  else
    let useRate := m ≠ 1 ∨ dt ≤ s.gf (F.TBU_COORD_PMAX_PMAX n)
    let r : Int := if useRate ∧ dt ≠ 0 then
        (d.rate : Int) + (((cyc / (m * dt) : Nat) : Int) - d.rate) / (2 ^ s.gf (F.TBU_COORD_CFG_RGAIN n) : Nat)
      else d.rate
    let rate := r.toNat
    ({ d with rate := rate, rejects := 0, lastEv := some s.tick, corr := -e / ((m * 2 ^ s.gf (F.TBU_COORD_CFG_PGAIN n) : Nat) : Int),
              corrTicks := if rate = 0 then 0 else cyc / (m * rate) }, e, true)

/-- Store e in TBU_COORD_ERR, signed 2^-32 cycle. -/
def State.storeErr (s : State) (n : Nat) (e : Int) : State :=
  s.sf (F.TBU_COORD_ERR_ERR n) (wrap 32 (e / ((s.gridDiv n * 2 ^ 48 : Nat) : Int)))

/-- Observed cycles while UNLOCKED (R128): the event ticks so far with this one, restarted when it is inconsistent. -/
def observed (obs : List Nat) (t : Nat) (consistent : Bool) : List Nat := if consistent then obs ++ [t] else [t]

end Sys2Proof.Machine
end

