-- ==== Sys2Proof/Machine/Thread.lean ====
section
/-! DEFINITION. Threads and paddocks (spec/02, spec/05): registers, states, traps, budgets, periods, what holds a thread. -/
namespace Sys2Proof.Machine

def State.setBrn (s : State) (b : BrnSt) : State := { s with brn := b }
def State.thr (s : State) (t : Nat) : Thread := s.brn.thr.get (fun _ => Thread.init) t
def State.setThr (s : State) (t : Nat) (v : Thread) : State :=
  s.setBrn { s.brn with thr := s.brn.thr.set (fun _ => Thread.init) t v }

/-- A general register; g0 reads as zero (R53). -/
def State.g (s : State) (t r : Nat) : Word := if r = 0 then 0 else s.brn.gpr.get (fun _ => 0) (t * 32 + r)

/-- Write a general register; a result for g0 is discarded (R53). -/
def State.setG (s : State) (t r : Nat) (v : Word) : State :=
  if r = 0 then s else s.setBrn { s.brn with gpr := s.brn.gpr.set (fun _ => 0) (t * 32 + r) v }

/-- A thread's paddock. -/
def State.padOf (s : State) (t : Nat) : Nat := s.gf (F.BRN_THR_CTL_PADDOCK (barnOf t) (engOf t) (thrOf t))

/-- Does the thread's paddock have CTL_WR, or HOST_EN? -/
def State.ctlWr (s : State) (t : Nat) : Bool := s.bf (F.BRN_PAD_CTL_CTL_WR (s.padOf t))
def State.hostEn (s : State) (t : Nat) : Bool := s.bf (F.BRN_PAD_CTL_HOST_EN (s.padOf t))

/-- The periods of a paddock. -/
def State.pad (s : State) (p : Nat) : PadSt := s.brn.pad.get (fun _ => PadSt.init) p
def State.setPad (s : State) (p : Nat) (v : PadSt) : State :=
  s.setBrn { s.brn with pad := s.brn.pad.set (fun _ => PadSt.init) p v }

/-! ### What holds threads (R51, R113, R114, R390) -/

/-- Rank of a paddock: 2 privileged, 1 standard, 0 best-effort (R113). -/
def State.rank (s : State) (p : Nat) : Nat :=
  if s.bf (F.BRN_PAD_MODE_PRIV p) then 2 else if s.bf (F.BRN_PAD_MODE_BE p) then 0 else 1

/-- The shed level whose thread and clock actions are in force: SH, or SH1 applied for temperature (R393). -/
def State.shedEff (s : State) : Nat := max (s.gf F.PWR_STAT_SH) (b2n (s.bf F.PWR_STAT_THERM_SHED))

/-- CCLK cycles in a tick (R28, R390): four, or two while shedding halves CCLK. -/
def State.cclk (s : State) : Nat := if 1 ≤ s.shedEff then 2 else 4

/-- Are the threads of paddock `p` held by shedding (R113)? -/
def State.shedHeld (s : State) (p : Nat) : Bool := s.rank p < s.shedEff

/-- Are all barns without power (R390, R384): SH3 and deeper, PS3 and deeper? -/
def State.barnsOff (s : State) : Bool := 3 ≤ s.gf F.PWR_STAT_SH || 3 ≤ s.gf F.PWR_STAT_PS

/-- Is barn `b` power-gated (R51, R390): with all of them, or in PS2 with no thread that may run and no access that woke it? -/
def State.barnGated (s : State) (b : Nat) : Bool :=
  s.barnsOff ||
  (s.gf F.PWR_STAT_PS == 2 && !bit s.brn.woken b && !s.brn.thr.any (fun p => barnOf p.1 == b && (p.2.st == 1 || p.2.st == 2 || p.2.st == 4)))

/-- Is a period boundary of paddock `p` due (R107, R108, R110)? Its refill comes before any charge. -/
def State.padDue (s : State) (p : Nat) : Bool :=
  let x := s.pad p
  (match x.next with
   | some v => s.bf (F.BRN_PAD_MODE_PER_EN p) && s.domOk (s.gf (F.BRN_PAD_MODE_DOMAIN p)) && decide (v ≤ s.whole (s.gf (F.BRN_PAD_MODE_DOMAIN p)))
   | none => match x.fbNext with
     | some v => decide (v ≤ s.whole 0)
     | none => false)

/-- The transaction slots that a thread holds (R36, R43): a tack access takes none. -/
def Thread.slots (th : Thread) : Nat := (th.txns.filter (fun x => !x.late)).length

/-- May thread `t` issue, as far as its own instruction does not matter (R24, R51, R66, R107, R114, R366, R400)? -/
def State.mayIssue (s : State) (t : Nat) : Bool :=
  (s.thr t).st == 1 && !(s.thr t).txns.any (·.waits) && !s.safe && !s.fenced (0x30 + barnOf t) &&
  s.bf F.GCTL_BOOT_STAT_DONE && !s.padDue (s.padOf t) && !s.shedHeld (s.padOf t) && s.gf F.PWR_STAT_PS == 0 && s.pwr.wakeDue.isNone && !s.barnGated (barnOf t)

/-! ### Budgets (R104 to R112) -/

/-- Can the counter of kind `k` cover `n` units (R106, R111)? -/
def State.canCharge (s : State) (p k n : Nat) : Bool :=
  !s.bf (F.BRN_PAD_MODE_PER_EN p) || s.gf (F.BRN_PAD_LEFT_LEFT p k) == 2 ^ 32 - 1 || n ≤ s.gf (F.BRN_PAD_LEFT_LEFT p k)

/-- Charge `n` units of kind `k` (R104); nothing is charged while PER_EN is 0 or the counter is unlimited (R111). -/
def State.charge (s : State) (p k n : Nat) : State :=
  let l := s.gf (F.BRN_PAD_LEFT_LEFT p k)
  if !s.bf (F.BRN_PAD_MODE_PER_EN p) || l == 2 ^ 32 - 1 then s else s.sf (F.BRN_PAD_LEFT_LEFT p k) (l - n)

/-- A charge of kind `k` could not be covered: the kind is exhausted in this period. -/
def State.exhaust (s : State) (p k : Nat) : State :=
  let s := s.sf (F.BRN_PAD_STAT_EXH p) (s.gf (F.BRN_PAD_STAT_EXH p) ||| 2 ^ k)
  s.setPad p { s.pad p with exh := (s.pad p).exh ||| 2 ^ k }

/-- The paddock's YIELDED threads return to RUN (R109, R111). -/
def State.resumeYielded (s : State) (p : Nat) : State :=
  s.brn.thr.keys.foldl (fun s t => if (s.thr t).st = 3 ∧ s.padOf t = p then s.setThr t { s.thr t with st := 1 } else s) s

/-- Load the counters (R109). -/
def State.loadCounters (s : State) (p : Nat) : State :=
  (List.range 5).foldl (fun s k => s.sf (F.BRN_PAD_LEFT_LEFT p k) (s.gf (F.BRN_PAD_BUD_BUDGET p k))) s

/-- A refill at a boundary (R109): counters, YIELDED threads, exhaustion counts. -/
def State.refill (s : State) (p : Nat) : State :=
  let s := (s.loadCounters p).resumeYielded p
  let s := (List.range 5).foldl (fun s k => if bit (s.pad p).exh k then s.incf (F.BRN_PAD_EXH_COUNT p k) else s) s
  s.setPad p { s.pad p with exh := 0 }

/-- The first value with (v − PHASE) mod LEN = 0 at or above `lo`. -/
def alignedFrom (lo len ph : Nat) : Nat :=
  let len := max 1 len
  let r := (lo + len - ph % len) % len
  if r = 0 then lo else lo + len - r

/-- The first boundary at least TBU_LEAD ticks from now (R108). -/
def State.firstBoundary (s : State) (p : Nat) : Nat :=
  let n := s.gf (F.BRN_PAD_MODE_DOMAIN p)
  let lo := ceilDiv ((s.dom n).val + s.leadVal n) (wholeUnit n)
  alignedFrom lo (s.gf (F.BRN_PAD_LEN_LEN p)) (s.gf (F.BRN_PAD_PHASE_PHASE p))

/-- Start the paddock's periods in its domain (R108). -/
def State.startPeriods (s : State) (p : Nat) : State :=
  s.setPad p { s.pad p with next := some (s.firstBoundary p), fbNext := none }

/-- Length of a fallback period in ns (R110). -/
def State.fbLen (s : State) : Nat := 1000 * max 1 (s.gf F.BRN_PAD_GCTL_FALLBACK_LEN)

/-- Start fallback periods in domain 0, with a refill (R110). -/
def State.startFallback (s : State) (p : Nat) : State :=
  let s := (s.refill p).sf (F.BRN_PAD_STAT_FALLBACK p) 1
  s.setPad p { s.pad p with next := none, fbNext := some (s.whole 0 + s.fbLen) }

/-- Domain 0's era changed: a paddock in fallback is refilled and its fallback period begins again at the new value; where its own domain
has relocked it still ends at that domain's boundary. -/
def State.restartFallback (s : State) (p : Nat) : State :=
  let s := s.refill p
  s.setPad p { s.pad p with fbNext := some (s.whole 0 + s.fbLen) }

/-- The running paddocks timed in domain `n`. -/
def State.padsIn (s : State) (n : Nat) : List Nat :=
  (List.range 32).filter (fun p => s.bf (F.BRN_PAD_MODE_PER_EN p) && s.gf (F.BRN_PAD_MODE_DOMAIN p) == n)

/-- The domain's era changed (R110, R126): one refill, and boundaries from the new value; a paddock still in fallback after the domain
relocked leaves it at a boundary from the new value. Fallback periods in domain 0 restart when it is domain 0's era. -/
def State.padsEra (s : State) (n : Nat) : State :=
  let s := (s.padsIn n).foldl (fun s p =>
    if !s.bf (F.BRN_PAD_STAT_FALLBACK p) then (s.refill p).startPeriods p
    else if (s.pad p).next.isSome then s.setPad p { s.pad p with next := some (s.firstBoundary p) } else s) s
  if n = 0 then (List.range 32).foldl (fun s p => if s.bf (F.BRN_PAD_STAT_FALLBACK p) then s.restartFallback p else s) s else s

/-- The domain became UNLOCKED or OFF (R110, R129). -/
def State.padsLost (s : State) (n : Nat) : State := (s.padsIn n).foldl State.startFallback s

/-- The domain regained lock (R110): the fallback period in progress ends at the first aligned value. -/
def State.padsLock (s : State) (n : Nat) : State :=
  (s.padsIn n).foldl (fun s p =>
    if s.bf (F.BRN_PAD_STAT_FALLBACK p) then s.setPad p { s.pad p with next := some (s.firstBoundary p) } else s) s

/-- PERIOD_BOUNDARY (R108 to R110): the domain has reached the paddock's next boundary. -/
def periodBoundary (p : Nat) (s : State) : State :=
  let n := s.gf (F.BRN_PAD_MODE_DOMAIN p)
  match (s.pad p).next with
  | none => s
  | some v =>
    if !s.bf (F.BRN_PAD_MODE_PER_EN p) || !s.domOk n || s.whole n < v then s
    else
      let s := (s.refill p).sf (F.BRN_PAD_STAT_FALLBACK p) 0
      let len := max 1 (s.gf (F.BRN_PAD_LEN_LEN p))
      s.setPad p { s.pad p with fbNext := none, next := some (v + ((s.whole n - v) / len + 1) * len) }

/-- FALLBACK_BOUNDARY (R110): a fallback period in domain 0 ends with a refill, while the domain has not regained lock; the next one begins
where it ended. -/
def fallbackBoundary (p : Nat) (s : State) : State :=
  match (s.pad p).fbNext with
  | none => s
  | some v =>
    if (s.pad p).next.isSome || s.whole 0 < v then s
    else
      let s := s.refill p
      s.setPad p { s.pad p with fbNext := some (v + ((s.whole 0 - v) / s.fbLen + 1) * s.fbLen) }

/-! ### Paddock registers (R113, R119) -/

/-- Is LEN within its range for the domain, and PHASE below LEN (R108, R119)? -/
def State.padLenOk (s : State) (p n : Nat) : Bool :=
  let l := s.gf (F.BRN_PAD_LEN_LEN p)
  (if n < 4 then 10000 else 4096) ≤ l && s.gf (F.BRN_PAD_PHASE_PHASE p) < l

def State.padRej (s : State) (p : Nat) : State := s.sf (F.BRN_PAD_STAT_CFG_REJ p) 1

def State.padTouch (s : State) : State := s.setBrn { s.brn with padWritten := true }

/-- PER_EN goes from 1 to 0 (R111): periods end, counters read 0, yielded threads return to RUN. -/
def State.perStop (s : State) (p : Nat) : State :=
  let s := (s.resumeYielded p).sf (F.BRN_PAD_STAT_FALLBACK p) 0
  let s := (List.range 5).foldl (fun s k => s.sf (F.BRN_PAD_LEFT_LEFT p k) 0) s
  s.setPad p PadSt.init

/-- PER_EN goes from 0 to 1 (R109, R110): counters are loaded; periods, or fallback periods where the domain is not usable. -/
def State.perStart (s : State) (p : Nat) : State :=
  let s := s.loadCounters p
  if s.domOk (s.gf (F.BRN_PAD_MODE_DOMAIN p)) then s.startPeriods p else s.startFallback p

/-- A write of BRN_PAD_MODE[p] (R113, R119). -/
def padMode (p v : Nat) (s : State) : State :=
  let s := s.padTouch
  let on := s.bf (F.BRN_PAD_MODE_PER_EN p)
  let n := bits v 10 8
  if s.bf F.BRN_CS_CTL_LOCK then s
  else if (bit v 1 && bit v 2) || bits v 23 20 == 0 || (on && bit v 0 && n != s.gf (F.BRN_PAD_MODE_DOMAIN p)) then s.padRej p
  else
    let ok := !bit v 0 || on || s.padLenOk p n
    let s := s.sfs [(F.BRN_PAD_MODE_WEIGHT p, bits v 23 20), (F.BRN_PAD_MODE_DOMAIN p, n), (F.BRN_PAD_MODE_BE p, bits v 2 2),
      (F.BRN_PAD_MODE_PRIV p, bits v 1 1), (F.BRN_PAD_MODE_PER_EN p, if ok then bits v 0 0 else 0)]
    let s := if ok then s else s.padRej p
    if !on && bit v 0 && ok then s.perStart p else if on && !bit v 0 then s.perStop p else s

/-- A write of BRN_PAD_LEN[p] or BRN_PAD_PHASE[p] (R119): discarded while PER_EN is 1. -/
def padLen (p : Nat) (phase : Bool) (v : Nat) (s : State) : State :=
  let s := s.padTouch
  if s.bf F.BRN_CS_CTL_LOCK then s
  else if s.bf (F.BRN_PAD_MODE_PER_EN p) then s.padRej p
  else if phase then s.sf (F.BRN_PAD_PHASE_PHASE p) v else s.sf (F.BRN_PAD_LEN_LEN p) v

/-- A DRAM request has waited longer than PRIV_WAIT_MAX without a grant, and this is not yet reported (R116). -/
def State.lateReq (s : State) (x : Txn) : Bool :=
  x.space == .dram && !x.granted && !x.told && decide (x.since + max 1 (s.gf F.BRN_PAD_GCTL_PRIV_WAIT_MAX) < s.tick)

/-- PRIV_LATE (R116): a request of privileged thread `t` has waited longer than PRIV_WAIT_MAX; each request is reported once (log 146). -/
def privLate (t : Nat) (s : State) : State :=
  let p := s.padOf t
  let th := s.thr t
  match th.txns.find? s.lateReq with
  | none => s
  | some x =>
    if s.rank p ≠ 2 then s
    else ((s.setThr t { th with txns := th.txns.map (fun y => if y.id == x.id then { y with told := true } else y) }).sf
      (F.BRN_PAD_STAT_PRIV_LATE p) 1).raise 0x30 kTIMEOUT (p + t * 2 ^ 16)

/-! ### Traps (R38 to R41) -/

def tILLEGAL : Nat := 1
def tALIGN : Nat := 2
def tADDR_FAULT : Nat := 3
def tACCESS : Nat := 4
def tATOMIC_SPACE : Nat := 5
def tSIZE : Nat := 6
def tLOAD_ERROR : Nat := 7
def tFETCH_FAULT : Nat := 8
def tSYSCALL : Nat := 9

/-- Take a trap (R38): EPC, CAUSE, TVAL, IN_TRAP, and the handler's address; while IN_TRAP is 1 the thread halts and the
double trap is reported (R41). A halted thread's PC is the address of the trapping instruction (R45). -/
def State.trap (s : State) (t cause tval epc : Nat) : State :=
  let th := s.thr t
  if th.inTrap then
    (s.setThr t { th with st := 5 }).raise (0x30 + barnOf t) kTRAP (t + engOf t * 2 ^ 24 + cause * 2 ^ 32)
  else
    s.setThr t { th with inTrap := true, epc := epc, cause := cause, tval := tval,
                         pc := s.gf (F.BRN_PAD_CTL_VEC_BASE (s.padOf t)) * 256 + cause * 32 }

/-! ### Waits (R66, R70, R71) -/

/-- Is `x` a wait in progress? -/
def Txn.waiting (x : Txn) : Bool := x.waits && x.res.isNone

/-- Answer a waiting operation of thread `t`: its result is ready and the thread leaves WAIT. -/
def State.endWait (s : State) (t id status value : Nat) : State :=
  let th := s.thr t
  s.setThr t { th with st := if th.st = 2 then 1 else th.st,
                       txns := th.txns.map (fun x => if x.id == id then { x with res := some (status, value) } else x) }

/-- Every thread waiting in Q.GET on a queue is answered (R70, DESTROY_IQ). -/
def State.endQWaits (s : State) (q status : Nat) : State :=
  let l := s.brn.qWait.filter (fun w => w.1 == q)
  let s := s.setBrn { s.brn with qWait := s.brn.qWait.filter (fun w => w.1 != q) }
  l.foldl (fun s w => match (s.thr w.2).txns.find? (·.waiting) with
    | some x => s.endWait w.2 x.id status 0
    | none => s) s

end Sys2Proof.Machine
end

