-- ==== Sys2Proof/Machine/Encoding.lean ====
section
/-! DEFINITION. Engine instruction words (spec/03, R52 to R55): the six formats, and which words are reserved. The command
rows carry decoded fields; the words appear only as TVAL of an ILLEGAL trap and in the reserved form of ADD. -/
namespace Sys2Proof.Machine

/-- Format A: OP, RD, RS1, RS2, FN11. -/
def encA (op rd rs1 rs2 fn : Nat) : Nat := op * 2 ^ 26 + rd * 2 ^ 21 + rs1 * 2 ^ 16 + rs2 * 2 ^ 11 + fn
/-- Format B: OP, RD, RS1, FN4, IMM12. -/
def encB (op rd rs1 fn imm : Nat) : Nat := op * 2 ^ 26 + rd * 2 ^ 21 + rs1 * 2 ^ 16 + fn * 2 ^ 12 + imm
/-- Format C: OP, RD, SUB, IMM20. -/
def encC (op rd sub imm : Nat) : Nat := op * 2 ^ 26 + rd * 2 ^ 21 + sub * 2 ^ 20 + imm
/-- Format D: OP, RS1, RS2, COND, OFF12. -/
def encD (op rs1 rs2 cond off : Nat) : Nat := op * 2 ^ 26 + rs1 * 2 ^ 21 + rs2 * 2 ^ 16 + cond * 2 ^ 12 + off
/-- Format E: OP, OFF26. -/
def encE (op off : Nat) : Nat := op * 2 ^ 26 + off
/-- Format F: OP, RD, RS, FN10, K6. -/
def encF (op rd rs fn k : Nat) : Nat := op * 2 ^ 26 + rd * 2 ^ 21 + rs * 2 ^ 16 + fn * 2 ^ 6 + k

/-- Argument group size of a unit operation, and the K6 values its row gives a use (R54, R55); `none` where FN10 is
unassigned. -/
def unitRow (op fn : Nat) : Option (Nat × (Nat → Bool)) :=
  let z : Nat → Bool := fun k => k == 0
  let w : Nat → Bool := fun k => k ≤ 1
  let d : Nat → Bool := fun k => k ≤ 7
  match op, fn with
  | 0x10, 0 => some (1, w)
  | 0x10, 1 => some (1, z)
  | 0x10, 2 => some (2, fun k => 1 ≤ k && k ≤ 6)
  | 0x10, 3 => some (4, z)
  | 0x10, 4 => some (4, z)
  | 0x10, 5 => some (2, z)
  | 0x10, 6 => some (1, z)
  | 0x10, 7 => some (2, w)
  | 0x11, 0 => some (2, w)
  | 0x11, 1 => some (2, z)
  | 0x11, 2 => some (2, z)
  | 0x12, 0 => some (1, d)
  | 0x12, 1 => some (4, d)
  | 0x12, 2 => some (2, d)
  | 0x12, 3 => some (1, d)
  | 0x13, 0 => some (0, z)
  | 0x13, 1 => some (4, z)
  | 0x13, 2 => some (6, z)
  | 0x13, 3 => some (1, z)
  | 0x13, 4 => some (1, z)
  | 0x13, 5 => some (1, z)
  | 0x13, 6 => some (3, z)
  | 0x13, 7 => some (1, z)
  | 0x14, 0 => some (4, z)
  | 0x14, 1 => some (4, z)
  | 0x14, 2 => some (3, z)
  | 0x14, 3 => some (2, z)
  | 0x15, 0 => some (3, z)
  | _, _ => none

/-- A unit operation's word is not reserved: its code is assigned, K6 is in use, and its group ends at or before g31 (a
group of none names g0). -/
def unitWf (op fn rs k : Nat) : Bool :=
  match unitRow op fn with
  | none => false
  | some (n, kOk) => kOk k && (if n = 0 then rs == 0 else rs + n ≤ 32)

/-- The FN11 codes of opcode 0x01 that take rs2, and those that do not. -/
def intFns : List Nat := [0, 1, 2, 3, 4, 5, 6, 7, 8, 9, 10, 11, 12, 13, 14, 0x10, 0x11, 0x16, 0x17, 0x18, 0x20, 0x21, 0x22,
  0x24, 0x25, 0x26, 0x27]
def intFns1 : List Nat := [0x30, 0x31, 0x32]

/-- IMM12 of a bit-field instruction: position and length fit in 64 bits. -/
def fieldWf (imm : Nat) : Bool := imm / 64 + (imm % 64 + 1) ≤ 64

/-- Is an engine word reserved (R54)? -/
def reservedWord (w : Nat) : Bool :=
  let op := bits w 31 26
  let fn11 := bits w 10 0
  let fn4 := bits w 15 12
  let imm := bits w 11 0
  let fn10 := bits w 15 6
  let k := bits w 5 0
  let rd := bits w 25 21
  let rs := bits w 20 16
  !(match op with
  | 0x01 => intFns.contains fn11 || (intFns1.contains fn11 && bits w 15 11 == 0)
  | 0x02 => fn4 ≤ 5 || ((fn4 == 6 || fn4 == 7 || fn4 == 8) && imm < 64) || fn4 == 9
  | 0x03 => (fn4 ≤ 2 && fieldWf imm) || (fn4 == 3 && 1 ≤ imm && imm ≤ 3)
  | 0x04 => true
  | 0x05 => fn4 ≤ 5 || fn4 == 14
  | 0x06 => true
  | 0x07 => true
  | 0x08 => fn4 % 8 != 7
  | 0x09 => fn4 % 8 ≤ 3
  | 0x0A => fn11 < 64 && fn11 % 8 != 7
  | 0x0B => rd == 0 && rs == 0 && k == 0 && fn10 < 64 &&
      (if fn10 / 16 ≤ 1 then fn10 % 16 != 0 else fn10 % 16 == 0)
  | 0x0C => ((fn11 == 0 || fn11 == 1) || (fn11 < 128 && (fn11 % 16 == 4 || fn11 % 16 == 5 || fn11 % 16 == 6)))
  | 0x10 => unitWf op fn10 rs k
  | 0x11 => unitWf op fn10 rs k
  | 0x12 => unitWf op fn10 rs k
  | 0x13 => unitWf op fn10 rs k
  | 0x14 => unitWf op fn10 rs k
  | 0x15 => unitWf op fn10 rs k
  | 0x16 => fn10 == 0 && k == 0
  | 0x17 => fn10 < 1024 && (match fn10 / 256 with
      | 0 => rs == 0 && fn10 % 256 == 0
      | 1 => rd == 0 && fn10 % 256 == 0
      | 2 => rd == 0 && rs == 0 && k == 0
      | _ => rd == 0 && rs == 0 && k == 0 && fn10 % 256 == 0)
  | _ => false)

end Sys2Proof.Machine
end

