-- ==== Sys2Proof/Decode.lean ====
section
/-! DEFINITION. Commands spelled by a word. The opcode table gives no row any bits (every row's list of fields is empty), so no word spells
a command by the table; an engine word names the instruction that a thread issues by the formats and the opcode map of R52. -/
namespace Sys2Proof
open Machine

/-- The command that a word spells by the table's bits: none, for every word. -/
def decodeTableWord (_nbits _w : Nat) : Option Instr := none

/-! ### Engine words (R52 to R55, R58 to R75) -/

/-- A register field: the 5 bits from `lo`. -/
def wReg (w : BitVec 32) (lo : Nat) : Fin 32 := (w.extractLsb' lo 5).toFin

/-- Fields of format A. -/
def wRRR (th : Fin 512) (w : BitVec 32) : RRR := ⟨th, wReg w 21, wReg w 16, wReg w 11⟩
/-- Fields of format B. -/
def wRRI (th : Fin 512) (w : BitVec 32) : RRI := ⟨th, wReg w 21, wReg w 16, w.extractLsb' 0 12⟩
/-- Fields of format D. -/
def wBr (th : Fin 512) (w : BitVec 32) : BrOp := ⟨th, wReg w 21, wReg w 16, w.extractLsb' 0 12⟩
/-- Fields of format F. -/
def wUn (th : Fin 512) (w : BitVec 32) : UnOp := ⟨th, wReg w 21, wReg w 16, w.extractLsb' 0 6⟩
/-- Fields of a load, with .AQ in FN4[15] (R61). -/
def wLd (th : Fin 512) (w : BitVec 32) : LdOp := ⟨th, wReg w 21, wReg w 16, w.extractLsb' 0 12, w.getLsbD 15, false⟩
/-- Fields of a store, with .RL in FN4[15]. -/
def wSt (th : Fin 512) (w : BitVec 32) : StOp := ⟨th, wReg w 21, wReg w 16, w.extractLsb' 0 12, w.getLsbD 15, false⟩
/-- Fields of an atomic: RL, AQ, SZ in FN11 (R62). -/
def wAmo (th : Fin 512) (w : BitVec 32) : AmoOp :=
  ⟨th, wReg w 21, wReg w 16, wReg w 11, w.getLsbD 3, w.getLsbD 4, w.getLsbD 5, false⟩
/-- Fields of a CRC instruction: NB in FN11 (R63). -/
def wCrc (th : Fin 512) (w : BitVec 32) : CrcOp := ⟨th, wReg w 21, wReg w 16, wReg w 11, (w.extractLsb' 4 3).toFin⟩
/-- The mask of a fence in FN10. -/
def wFence (th : Fin 512) (w : BitVec 32) : FenceOp := ⟨th, w.extractLsb' 6 4⟩

/-- Integer register instructions by FN11. -/
def wordInt (th : Fin 512) (w : BitVec 32) (fn : Nat) : Option Instr :=
  let o := wRRR th w
  let u : RR := ⟨th, wReg w 21, wReg w 16⟩
  match fn with
  | 0x00 => some (.add (.op o)) | 0x01 => some (.sub o) | 0x02 => some (.and o) | 0x03 => some (.or o) | 0x04 => some (.xor o)
  | 0x05 => some (.andn o) | 0x06 => some (.sll o) | 0x07 => some (.srl o) | 0x08 => some (.sra o) | 0x09 => some (.slt o)
  | 0x0A => some (.sltu o) | 0x0B => some (.min o) | 0x0C => some (.max o) | 0x0D => some (.minu o) | 0x0E => some (.maxu o)
  | 0x10 => some (.addw o) | 0x11 => some (.subw o) | 0x16 => some (.sllw o) | 0x17 => some (.srlw o) | 0x18 => some (.sraw o)
  | 0x20 => some (.mul o) | 0x21 => some (.mulh o) | 0x22 => some (.mulhu o) | 0x24 => some (.div o) | 0x25 => some (.divu o)
  | 0x26 => some (.rem o) | 0x27 => some (.remu o) | 0x30 => some (.clz u) | 0x31 => some (.ctz u) | 0x32 => some (.popc u)
  | _ => none

/-- Integer immediate and bit-field instructions by opcode and FN4. -/
def wordImm (th : Fin 512) (w : BitVec 32) (op fn : Nat) : Option Instr :=
  let o := wRRI th w
  match op, fn with
  | 2, 0 => some (.addi o) | 2, 1 => some (.andi o) | 2, 2 => some (.ori o) | 2, 3 => some (.xori o) | 2, 4 => some (.slti o)
  | 2, 5 => some (.sltiu o) | 2, 6 => some (.slli o) | 2, 7 => some (.srli o) | 2, 8 => some (.srai o) | 2, 9 => some (.addwi o)
  | 3, 0 => some (.extu o) | 3, 1 => some (.exts o) | 3, 2 => some (.ins o) | 3, 3 => some (.bswap o)
  | _, _ => none

/-- Constants, branches and jumps. -/
def wordFlow (th : Fin 512) (w : BitVec 32) (op fn : Nat) : Option Instr :=
  let c : RI := ⟨th, wReg w 21, w.extractLsb' 0 20⟩
  let b := wBr th w
  let j : JmpOp := ⟨th, w.extractLsb' 0 26⟩
  match op, fn with
  | 4, _ => some (if w.getLsbD 20 then .luih c else .lui c)
  | 5, 0 => some (.beq b) | 5, 1 => some (.bne b) | 5, 2 => some (.blt b) | 5, 3 => some (.bge b) | 5, 4 => some (.bltu b)
  | 5, 5 => some (.bgeu b) | 5, 14 => some (.jr b)
  | 6, _ => some (.j j) | 7, _ => some (.jl j)
  | _, _ => none

/-- Loads, stores and atomics by opcode and the low three bits of their function code. -/
def wordMem (th : Fin 512) (w : BitVec 32) (op fn : Nat) : Option Instr :=
  let l := wLd th w
  let s := wSt th w
  let a := wAmo th w
  match op, fn with
  | 8, 0 => some (.lb l) | 8, 1 => some (.lh l) | 8, 2 => some (.lw l) | 8, 3 => some (.ld l) | 8, 4 => some (.lbu l)
  | 8, 5 => some (.lhu l) | 8, 6 => some (.lwu l)
  | 9, 0 => some (.sb s) | 9, 1 => some (.sh s) | 9, 2 => some (.sw s) | 9, 3 => some (.sd s)
  | 10, 0 => some (.amoadd a) | 10, 1 => some (.amoswap a) | 10, 2 => some (.amocas a) | 10, 3 => some (.amomin a)
  | 10, 4 => some (.amomax a) | 10, 5 => some (.amominu a) | 10, 6 => some (.amomaxu a)
  | _, _ => none

/-- Fences by kind, hash and CRC by function, and the system group by FN10[9:8]. -/
def wordSys (th : Fin 512) (w : BitVec 32) (op fn : Nat) : Option Instr :=
  match op, fn with
  | 11, 0 => some (.fence (wFence th w)) | 11, 1 => some (.fenceIo (wFence th w)) | 11, 2 => some (.fenceFrm th)
  | 11, 3 => some (.fenceLoft th)
  | 12, 0 => some (.hashMix (wRRR th w)) | 12, 1 => some (.hashFlow (wRRR th w)) | 12, 4 => some (.crc32 (wCrc th w))
  | 12, 5 => some (.crc32c (wCrc th w)) | 12, 6 => some (.crc16 (wCrc th w))
  | 0x16, _ => some (.yld (wUn th w))
  | 0x17, 0 => some (.sysRds th (wReg w 21) (w.extractLsb' 0 6).toFin) | 0x17, 1 => some (.sysWrs th (wReg w 16) (w.extractLsb' 0 6).toFin)
  | 0x17, 2 => some (.sysTrap th (w.extractLsb' 6 8)) | 0x17, 3 => some (.sysRet th)
  | _, _ => none

/-- Unit operations by opcode and FN10. -/
def wordUnit (th : Fin 512) (w : BitVec 32) (op fn : Nat) : Option Instr :=
  let o := wUn th w
  match op, fn with
  | 0x10, 0 => some (.frmGet o) | 0x10, 1 => some (.frmNew o) | 0x10, 2 => some (.frmHdr o) | 0x10, 3 => some (.frmLd o)
  | 0x10, 4 => some (.frmSt o) | 0x10, 5 => some (.frmPut o) | 0x10, 6 => some (.frmDrop o) | 0x10, 7 => some (.frmTs o)
  | 0x11, 0 => some (.qGet o) | 0x11, 1 => some (.qPut o) | 0x11, 2 => some (.qSig o)
  | 0x12, 0 => some (.tmRd o) | 0x12, 1 => some (.tmSched o) | 0x12, 2 => some (.tmWait o) | 0x12, 3 => some (.tmCan o)
  | 0x13, 0 => some (.ltxOpen o) | 0x13, 1 => some (.ltxPut o) | 0x13, 2 => some (.ltxCput o) | 0x13, 3 => some (.ltxCommit o)
  | 0x13, 4 => some (.ltxAbort o) | 0x13, 5 => some (.ltxPin o) | 0x13, 6 => some (.ltxGet o) | 0x13, 7 => some (.ltxUnpin o)
  | 0x14, 0 => some (.sxRx o) | 0x14, 1 => some (.sxTx o) | 0x14, 2 => some (.sxKey o) | 0x14, 3 => some (.sxKa o)
  | 0x15, 0 => some (.evLog o)
  | _, _ => none

/-- The instruction that a word of the code store is, when thread `th` issues it (R52): the major opcode selects the format, the format the
fields. A reserved word (R54) is the reserved form of ADD. -/
def engineWord (th : Fin 512) (w : BitVec 32) : Instr :=
  let op := bits w.toNat 31 26
  let fn10 := bits w.toNat 15 6
  let i := match op with
    | 1 => wordInt th w (bits w.toNat 10 0)
    | 2 => wordImm th w 2 (bits w.toNat 15 12)
    | 3 => wordImm th w 3 (bits w.toNat 15 12)
    | 4 => wordFlow th w 4 0
    | 5 => wordFlow th w 5 (bits w.toNat 15 12)
    | 6 => wordFlow th w 6 0
    | 7 => wordFlow th w 7 0
    | 8 => wordMem th w 8 (bits w.toNat 14 12)
    | 9 => wordMem th w 9 (bits w.toNat 14 12)
    | 10 => wordMem th w 10 (bits w.toNat 2 0)
    | 11 => wordSys th w 11 (fn10 / 16)
    | 12 => wordSys th w 12 (bits w.toNat 3 0)
    | 0x16 => wordSys th w 0x16 0
    | 0x17 => wordSys th w 0x17 (fn10 / 256)
    | _ => wordUnit th w op fn10
  if reservedWord w.toNat then .add (.reserved th w) else i.getD (.add (.reserved th w))

end Sys2Proof
end

