-- ==== Sys2Proof/Machine/Crc.lean ====
section
/-! DEFINITION. Cyclic redundancy checks over bytes (R63, R209, R263). -/
namespace Sys2Proof.Machine

/-- One bit of a reflected CRC with the reversed polynomial `p`. -/
def crcBitR (p crc : Nat) : Nat := if crc % 2 = 1 then (crc / 2) ^^^ p else crc / 2

/-- Bit steps of a reflected CRC. -/
def crcBitsR (p : Nat) : Nat → Nat → Nat
  | 0, crc => crc
  | n + 1, crc => crcBitsR p n (crcBitR p crc)

/-- Bytes of a reflected CRC, no inversion. -/
def crcR (p : Nat) (crc : Nat) (l : List Byte) : Nat := l.foldl (fun c b => crcBitsR p 8 (c ^^^ b.toNat)) crc

/-- One bit of an MSB-first CRC of width `w`. -/
def crcBitF (w p crc : Nat) : Nat := if bit crc (w - 1) then (crc * 2 % 2 ^ w) ^^^ p else crc * 2 % 2 ^ w

def crcBitsF (w p : Nat) : Nat → Nat → Nat
  | 0, crc => crc
  | n + 1, crc => crcBitsF w p n (crcBitF w p crc)

/-- Bytes of an MSB-first CRC of width `w` (at least 8). -/
def crcF (w p : Nat) (crc : Nat) (l : List Byte) : Nat :=
  l.foldl (fun c b => crcBitsF w p 8 (c ^^^ (b.toNat * 2 ^ (w - 8)))) crc

/-- CRC-32 (0x04C11DB7 reflected), CRC-32C (0x1EDC6F41 reflected), CRC-16 (0x1021, not reflected). -/
def crc32Of (crc : Nat) (l : List Byte) : Nat := crcR 0xEDB88320 crc l
def crc32cOf (crc : Nat) (l : List Byte) : Nat := crcR 0x82F63B78 crc l
def crc16Of (crc : Nat) (l : List Byte) : Nat := crcF 16 0x1021 crc l

/-- CRC-8 of polynomial 0x07, not reflected (R263). -/
def crc8Of (crc : Nat) (l : List Byte) : Nat := crcF 8 0x07 crc l

end Sys2Proof.Machine
end

