-- ==== Sys2Proof/Machine/Issue.lean ====
section
/-! DEFINITION. Issuing an instruction (R24, R27, R36, R39, R40, R54, R87): eligibility, budget, traps in place of issue. -/
namespace Sys2Proof.Machine

/-! ### Fences (R87 to R91) -/

/-- What an instruction is to a fence: a memory access, a control-space access, a unit operation; a load, a store. -/
structure Cls where
  mem : Bool := false
  ctl : Bool := false
  unit : Bool := false
  ld : Bool := false
  st : Bool := false
  deriving DecidableEq, Repr

def Space.isMem : Space → Bool
  | .ctl => false
  | _ => true

/-- Is `x` an earlier load (or atomic, or unit operation) in the sense of a fence of kind `io`? -/
def Txn.isLd (x : Txn) (io : Bool) : Bool :=
  ((x.kind == .load || x.kind == .amo) && (x.space.isMem || io)) || (x.kind == .unit && io)
def Txn.isSt (x : Txn) (io : Bool) : Bool :=
  ((x.kind == .store || x.kind == .amo) && (x.space.isMem || io)) || (x.kind == .unit && io)

/-- Fence kinds: 0 memory, 1 IO, 2 FRM, 3 LOFT. Unit groups: 0x10 FRM, 0x13 LTX, 0x14 SX. -/
def earlierLd (l : List Txn) (id : Nat) (kind : Nat) : Bool := l.any (fun x => x.id < id && x.isLd (kind == 1))
def earlierSt (l : List Txn) (id : Nat) (kind : Nat) : Bool := l.any (fun x => x.id < id && x.isSt (kind == 1))

/-- Unit operations that a FENCE.FRM or FENCE.LOFT still waits for (R91): until its result word is written an operation holds its slot. -/
def earlierUnit (l : List Txn) (id : Nat) (kind : Nat) : Bool :=
  l.any (fun x => x.id < id && x.kind == .unit &&
    (if kind = 2 then x.op == 0x10 || x.op == 0x14 else x.op == 0x13))

/-- A fence's condition is met: it holds no later instruction any more (R88). -/
def fenceMet (l : List Txn) (id kind mask : Nat) : Bool :=
  if 2 ≤ kind then !earlierUnit l id kind
  else !((bit mask 0 || bit mask 1) && earlierLd l id kind) && !((bit mask 2 || bit mask 3) && earlierSt l id kind)

/-- A waiting fence holds an instruction of class `c` (R87, R90, R91). Mask: 3 SS, 2 SL, 1 LS, 0 LL. -/
def fenceHolds (l : List Txn) (f : Txn) (c : Cls) : Bool :=
  if f.kind != .fence then false
  else if 2 ≤ f.op then (c.mem || c.ctl || c.unit) && earlierUnit l f.id f.op
  else if !(c.mem || (f.op == 1 && (c.ctl || c.unit))) then false
  else
    let eld := earlierLd l f.id f.op
    let est := earlierSt l f.id f.op
    (c.ld && ((eld && bit f.data 0) || (est && bit f.data 2))) || (c.st && ((eld && bit f.data 1) || (est && bit f.data 3)))

/-- Does a fence of this kind and mask order a failed load (R40, R88)? -/
def fenceOrders (kind mask : Nat) (e : LoadErr) : Bool :=
  decide (kind < 2) && (e.space.isMem || kind == 1) && (bit mask 0 || bit mask 1 || (e.amo && mask != 0))

/-! ### Registers in flight (R24) -/

/-- Is register `r` of thread `t` waiting for a result? -/
def State.regBusy (s : State) (t r : Nat) : Bool :=
  r != 0 && ((s.thr t).txns.any (fun x => x.rd == r) ||
    (match s.brn.div.get (fun _ => none) (t / 4) with
     | some d => d.th == t && d.rd == r
     | none => false))

/-- Write a result register of an instruction that issues now: an older result still in flight for it is superseded. -/
def State.wrReg (s : State) (t r : Nat) (v : Word) : State :=
  let th := s.thr t
  let s := if r ≠ 0 ∧ th.txns.any (fun x => x.rd == r) then
      s.setThr t { th with txns := th.txns.map (fun x => if x.rd == r then { x with rd := 0 } else x) } else s
  let s := match s.brn.div.get (fun _ => none) (t / 4) with
    | some d => if d.th = t ∧ d.rd = r then s.setBrn { s.brn with div := s.brn.div.set (fun _ => none) (t / 4) (some { d with rd := 0 }) } else s
    | none => s
  s.setG t r v

/-! ### Issue -/

/-- The instruction at issue: its word, whether it is well-formed, sources, whether it needs a slot, its class, and for a
fence its kind and mask. -/
structure Req where
  word : Nat
  wf : Bool := true
  srcs : List Nat
  slot : Bool := false
  cls : Cls := {}
  fence : Option (Nat × Nat) := none
  /-- the engine or the memory cannot take it yet: the divider is busy, or an ordering holds a tack access -/
  stall : Bool := false
  /-- it is an access to DRAM, which needs one unit of DRAM budget (R104) -/
  dram : Bool := false
  deriving DecidableEq, Repr

/-- The failed load that an instruction would deliver: the earliest issued of those it reads or orders (R40), or of all
that were pending at a restart (R47). -/
def dueErr (th : Thread) (q : Req) : Option LoadErr :=
  let hit (e : LoadErr) : Bool := th.redeliver || (e.rd != 0 && q.wf && q.srcs.contains e.rd) ||
    (match q.fence with | some (k, m) => q.wf && fenceOrders k m e | none => false)
  (th.errs.filter hit).foldl (fun m e => match m with
    | none => some e
    | some b => if e.id < b.id then some e else some b) none

/-- Is the fetch at the thread's PC in error: outside the code store, or an uncorrected ECC error (R39, R60)? -/
def State.fetchBad (s : State) (t : Nat) : Bool :=
  let pc := (s.thr t).pc
  0x1FFFFC < pc || s.eccOf (codeBase + pc) == .ue

/-- Charge one issue slot (R27). -/
def State.chargeIssue (s : State) (t : Nat) : State := s.charge (s.padOf t) 0 1

/-- Count the instruction that issues: its slot, INSTRET, its address. -/
def State.countIssue (s : State) (t : Nat) : State :=
  let s := s.chargeIssue t
  s.setThr t { s.thr t with instret := (s.thr t).instret + 1, lastPc := (s.thr t).pc }

/-- Deliver a LOAD_ERROR in place of the instruction at the PC (R40), or, where `f` is a waiting fence that orders the failed load, at
the fence, which is not completed and is issued again after SYS.RET (R88). -/
def State.deliverErr (s : State) (t : Nat) (e : LoadErr) (f : Option Txn) : State :=
  let s := s.chargeIssue t
  let th := s.thr t
  let s := s.setThr t { th with errs := th.errs.filter (fun x => x.id != e.id), redeliver := false,
                                pc := match f with | some x => x.ea | none => th.pc,
                                txns := match f with | some x => th.txns.filter (fun y => y.id != x.id) | none => th.txns }
  s.trap t tLOAD_ERROR e.ea (match f with | some x => x.ea | none => th.pc)

/-- A failed load that a waiting fence orders (R88): the earliest issued, with that fence. -/
def fenceDue (th : Thread) : Option (LoadErr × Txn) :=
  th.errs.foldl (fun m e =>
    match th.txns.find? (fun f => f.kind == .fence && e.id < f.id && fenceOrders f.op f.data e) with
    | none => m
    | some f => match m with
      | some (b, _) => if e.id < b.id then some (e, f) else m
      | none => some (e, f)) none

/-- FETCH_FAULT at the PC (R39): the error of the word, if any, is counted and reported. -/
def State.fetchTrap (s : State) (t : Nat) : State :=
  let pc := (s.thr t).pc
  let s := if 0x1FFFFC < pc then s else s.memError (codeBase + pc) t
  s.trap t tFETCH_FAULT pc pc

/-- ISSUE_LEFT, s10 (R44, R111). -/
def State.issueLeft (s : State) (t : Nat) : Nat :=
  if s.brn.padWritten && s.bf (F.BRN_PAD_MODE_PER_EN (s.padOf t)) then s.gf (F.BRN_PAD_LEFT_LEFT (s.padOf t) 0) else 0

/-- A YLD writes ISSUE_LEFT to its register as the thread next issues (R75). -/
def State.settleYield (s : State) (t : Nat) : State :=
  match (s.thr t).yieldRd with
  | none => s
  | some r => (s.setThr t { s.thr t with yieldRd := none }).setG t r (BitVec.ofNat 64 (s.issueLeft t))

/-- The accesses of a thread still to be performed, those carried through a reset among them (R50). -/
def State.openTxns (s : State) (t : Nat) : List Txn := (s.brn.orphans.filter (·.1 == t)).map (·.2) ++ (s.thr t).txns

/-- Is the instruction held by anything but a missing slot (R24, R87): a source register in flight, a fence, or what `stall` says? -/
def State.waitsIssue (s : State) (t : Nat) (q : Req) : Bool :=
  q.srcs.any (s.regBusy t) || q.stall || (s.thr t).txns.any (fun f => fenceHolds (s.openTxns t) f q.cls)

/-- Is the instruction held (R24, R36, R87)? -/
def State.heldIssue (s : State) (t : Nat) (q : Req) : Bool :=
  s.waitsIssue t q || (q.slot && decide (16 ≤ (s.thr t).slots))

/-- A corrected error of the instruction word that is fetched is counted (R23). -/
def State.fetchCe (s : State) (t : Nat) : State :=
  if s.eccOf (codeBase + (s.thr t).pc) == .ce then s.memError (codeBase + (s.thr t).pc) t else s

/-- Issue an instruction of thread `t`: nothing happens while the thread is not eligible for it (R24); a fetch fault, a
pending LOAD_ERROR or a reserved word traps in its place; else it is counted and `body` is its effect. A LOAD_ERROR waits for all
that the instruction waits for but a slot (R40), but for one that is delivered at a restart (R47). -/
def issue (t : Nat) (q : Req) (body : State → State) (s₀ : State) : State :=
  if !s₀.mayIssue t then s₀
  else if !s₀.canCharge (s₀.padOf t) 0 1 then s₀.exhaust (s₀.padOf t) 0
  else
    let s := s₀.settleYield t
    match fenceDue (s.thr t) with
    | some (e, f) => s.deliverErr t e (some f)
    | none =>
      if s.fetchBad t then s.fetchTrap t
      else match dueErr (s.thr t) q with
        | some e => if (s.thr t).redeliver || !s.waitsIssue t q then s.deliverErr t e none else s₀
        | none =>
          if !q.wf then ((s.fetchCe t).countIssue t).trap t tILLEGAL q.word (s.thr t).pc
          else if s.heldIssue t q then s₀
          else if q.dram && !s.canCharge (s.padOf t) 1 1 then s₀.exhaust (s.padOf t) 1
          else body ((s.fetchCe t).countIssue t)

/-- The PC moves to `a`. -/
def State.goto (s : State) (t a : Nat) : State := s.setThr t { s.thr t with pc := a }

/-- The PC moves to the next instruction. -/
def State.nextPc (s : State) (t : Nat) : State := s.goto t ((s.thr t).pc + 4)

/-- Write a result and go on. -/
def State.retire (s : State) (t r : Nat) (v : Word) : State := (s.wrReg t r v).nextPc t

end Sys2Proof.Machine
end

