-- ==== Sys2Proof/Machine/Isa.lean ====
section
/-! DEFINITION. Integer, immediate, bit-field, constant, hash and CRC instructions, branches and jumps (spec/03, R52 to R63):
one meaning per instruction over a few shared forms. -/
namespace Sys2Proof.Machine

/-! ### Shared forms -/

/-- rd = f rs1 rs2 (opcode 0x01 or 0x0C). -/
def alu2 (op fn : Nat) (f : Word → Word → Word) (o : RRR) : State → State :=
  issue o.th { word := encA op o.rd o.rs1 o.rs2 fn, srcs := [o.rs1, o.rs2] }
    (fun s => s.retire o.th o.rd (f (s.g o.th o.rs1) (s.g o.th o.rs2)))

/-- rd = f rs1 (opcode 0x01). -/
def alu1 (fn : Nat) (f : Word → Word) (o : RR) : State → State :=
  issue o.th { word := encA 1 o.rd o.rs1 0 fn, srcs := [o.rs1] } (fun s => s.retire o.th o.rd (f (s.g o.th o.rs1)))

/-- rd = f rs1 imm (opcodes 0x02 and 0x03), reserved where `wf` is false. -/
def aluI (op fn : Nat) (wf : Bool) (f : Word → BitVec 12 → Word) (o : RRI) : State → State :=
  issue o.th { word := encB op o.rd o.rs1 fn o.imm.toNat, wf := wf, srcs := [o.rs1] }
    (fun s => s.retire o.th o.rd (f (s.g o.th o.rs1) o.imm))

/-- 0 or 1. -/
def ofBool (b : Bool) : Word := if b then 1 else 0

/-- Low 32 bits sign-extended. -/
def sext32 (v : Word) : Word := (v.setWidth 32).signExtend 64

/-- Signed and unsigned minimum and maximum. -/
def smin (a b : Word) : Word := if a.slt b then a else b
def smax (a b : Word) : Word := if a.slt b then b else a
def umin (a b : Word) : Word := if a.ult b then a else b
def umax (a b : Word) : Word := if a.ult b then b else a

/-- High half of a product. -/
def mulhS (a b : Word) : Word := ((a.signExtend 128 * b.signExtend 128) >>> 64).setWidth 64
def mulhU (a b : Word) : Word := ((a.setWidth 128 * b.setWidth 128) >>> 64).setWidth 64

/-- Division (R59): a zero divisor gives all ones, and the dividend as remainder; it never traps. -/
def divS (a b : Word) : Word := if b = 0 then BitVec.allOnes 64 else a.sdiv b
def divU (a b : Word) : Word := if b = 0 then BitVec.allOnes 64 else a.udiv b
def remS (a b : Word) : Word := if b = 0 then a else a.srem b
def remU (a b : Word) : Word := if b = 0 then a else a.umod b

/-- Significant bits of a number. -/
def sigBits (n : Nat) : Nat := if n = 0 then 0 else n.log2 + 1

/-- Cycles of a division (R443), from the magnitudes of dividend and divisor. -/
def divCycles (d v : Nat) : Nat :=
  if v = 0 then 4 else max 4 (2 + (sigBits d + 1 - sigBits v + 1) / 2)

/-- Magnitude of a signed word. -/
def mag (a : Word) : Nat := a.toInt.natAbs

/-- Cycles of an engine's clock so far (R43). -/
def State.cycles (s : State) (t : Nat) : Nat := s.brn.cyc.getD (barnOf t) 0

/-- A division: on the engine's single divider, its result due after `divCycles` (R27, R443). -/
def divOp (fn : Nat) (f : Word → Word → Word) (m : Word → Nat) (o : RRR) (s : State) : State :=
  issue o.th { word := encA 1 o.rd o.rs1 o.rs2 fn, srcs := [o.rs1, o.rs2],
               stall := (s.brn.div.get (fun _ => none) (o.th / 4)).isSome }
    (fun s =>
      let a := s.g o.th o.rs1
      let b := s.g o.th o.rs2
      let d : Divider := ⟨o.th, o.rd, (f a b).toNat, s.cycles o.th + divCycles (m a) (m b)⟩
      let s := s.wrReg o.th o.rd (s.g o.th o.rd)
      (s.setBrn { s.brn with div := s.brn.div.set (fun _ => none) (o.th / 4) (some d) }).nextPc o.th) s

/-- DIVIDE_RESULT (R443): the divider of an engine delivers its result. -/
def divResult (b : Fin 8) (e : Fin 16) (s : State) : State :=
  match s.brn.div.get (fun _ => none) (b.val * 16 + e.val) with
  | none => s
  | some d =>
    if s.cycles d.th < d.due then s
    else (s.setBrn { s.brn with div := s.brn.div.set (fun _ => none) (b.val * 16 + e.val) none }).setG d.th d.rd (BitVec.ofNat 64 d.val)

/-- Leading zeros, trailing zeros, one bits of a word. -/
def clzW (a : Word) : Word := BitVec.ofNat 64 (64 - sigBits a.toNat)
def ctzW (a : Word) : Word := BitVec.ofNat 64 ((firstIdx (fun i => bit a.toNat i) 64).getD 64)
def popW (a : Word) : Word := BitVec.ofNat 64 (countIdx (fun i => bit a.toNat i) 64)

/-- Bit fields: `imm` is pos in [11:6] and len − 1 in [5:0]. -/
def extuW (a : Word) (imm : BitVec 12) : Word := BitVec.ofNat 64 (bits a.toNat (imm.toNat / 64 + imm.toNat % 64) (imm.toNat / 64))
def extsW (a : Word) (imm : BitVec 12) : Word :=
  BitVec.ofInt 64 (sgn (imm.toNat % 64 + 1) (bits a.toNat (imm.toNat / 64 + imm.toNat % 64) (imm.toNat / 64)))
def insW (d a : Word) (imm : BitVec 12) : Word :=
  BitVec.ofNat 64 (setBits d.toNat (imm.toNat / 64 + imm.toNat % 64) (imm.toNat / 64) a.toNat)

/-- Reverse the low 2, 4 or 8 bytes. -/
def bswapW (a : Word) (imm : BitVec 12) : Word := BitVec.ofNat 64 (beNat (leBytes (2 ^ imm.toNat) a.toNat))

/-! ### Hash and CRC (R63) -/

/-- HASH.MIX. -/
def hashMix (a b : Word) : Word :=
  let x := a ^^^ b.rotateLeft 29
  let x := x ^^^ (x >>> 31)
  let x := x * 0x9E3779B97F4A7C15
  let x := x ^^^ (x >>> 29)
  let x := x * 0xD6E8FEB86659FD93
  x ^^^ (x >>> 32)

/-- A CRC instruction: NB + 1 bytes of rs2, byte 0 first. -/
def crcOp (func w : Nat) (f : Nat → List Byte → Nat) (o : CrcOp) : State → State :=
  issue o.th { word := encA 0x0C o.rd o.rs1 o.rs2 (o.nb * 16 + func), srcs := [o.rs1, o.rs2] }
    (fun s => s.retire o.th o.rd
      (BitVec.ofNat 64 (f ((s.g o.th o.rs1).toNat % 2 ^ w) (leBytes (o.nb + 1) (s.g o.th o.rs2).toNat))))

/-! ### Branches and jumps (R60) -/

/-- The target pc + sext(off) × 4. -/
def target {w : Nat} (pc : Nat) (off : BitVec w) : Nat := wrap 64 ((pc : Int) + off.toInt * 4)

/-- A compare and branch. -/
def branch (cond : Nat) (f : Word → Word → Bool) (o : BrOp) : State → State :=
  issue o.th { word := encD 5 o.rs1 o.rs2 cond o.off.toNat, srcs := [o.rs1, o.rs2] }
    (fun s => if f (s.g o.th o.rs1) (s.g o.th o.rs2) then s.goto o.th (target (s.thr o.th).pc o.off) else s.nextPc o.th)

/-- JR: the link register receives pc + 4; the target is rs1 + sext(off) × 4 with bits [1:0] cleared. -/
def jumpReg (o : BrOp) : State → State :=
  issue o.th { word := encD 5 o.rs1 o.rs2 14 o.off.toNat, srcs := [o.rs1] }
    (fun s =>
      let pc := (s.thr o.th).pc
      let a := target (s.g o.th o.rs1).toNat o.off / 4 * 4
      (s.wrReg o.th o.rs2 (BitVec.ofNat 64 (pc + 4))).goto o.th a)

/-- J and JL: JL writes pc + 4 to g31. -/
def jump (op : Nat) (link : Bool) (o : JmpOp) : State → State :=
  issue o.th { word := encE op o.off.toNat, srcs := [] }
    (fun s =>
      let pc := (s.thr o.th).pc
      let s := if link then s.wrReg o.th 31 (BitVec.ofNat 64 (pc + 4)) else s
      s.goto o.th (target pc o.off))

/-! ### The instructions -/

/-- ADD: rd = rs1 + rs2. The reserved form is any reserved word, which traps with ILLEGAL (R54); a word that is not
reserved in that form has no effect. -/
def execAdd (o : AddOp) (s : State) : Host.Outcome State Fault Refusal :=
  match o with
  | .op r => live s (alu2 1 0 (fun a b => a + b) r)
  | .reserved th w => live s (if reservedWord w.toNat then issue th { word := w.toNat, wf := false, srcs := [] } (fun s => s) else fun s => s)

/-- SUB. -/
def execSub (o : RRR) (s : State) : Host.Outcome State Fault Refusal := live s (alu2 1 0x1 (fun a b => a - b) o)

/-- AND. -/
def execAnd (o : RRR) (s : State) : Host.Outcome State Fault Refusal := live s (alu2 1 0x2 (fun a b => a &&& b) o)

/-- OR. -/
def execOr (o : RRR) (s : State) : Host.Outcome State Fault Refusal := live s (alu2 1 0x3 (fun a b => a ||| b) o)

/-- XOR. -/
def execXor (o : RRR) (s : State) : Host.Outcome State Fault Refusal := live s (alu2 1 0x4 (fun a b => a ^^^ b) o)

/-- ANDN. -/
def execAndn (o : RRR) (s : State) : Host.Outcome State Fault Refusal := live s (alu2 1 0x5 (fun a b => a &&& ~~~b) o)

/-- SLL. -/
def execSll (o : RRR) (s : State) : Host.Outcome State Fault Refusal := live s (alu2 1 0x6 (fun a b => a <<< (b.toNat % 64)) o)

/-- SRL. -/
def execSrl (o : RRR) (s : State) : Host.Outcome State Fault Refusal := live s (alu2 1 0x7 (fun a b => a >>> (b.toNat % 64)) o)

/-- SRA. -/
def execSra (o : RRR) (s : State) : Host.Outcome State Fault Refusal := live s (alu2 1 0x8 (fun a b => a.sshiftRight (b.toNat % 64)) o)

/-- SLT. -/
def execSlt (o : RRR) (s : State) : Host.Outcome State Fault Refusal := live s (alu2 1 0x9 (fun a b => ofBool (a.slt b)) o)

/-- SLTU. -/
def execSltu (o : RRR) (s : State) : Host.Outcome State Fault Refusal := live s (alu2 1 0xa (fun a b => ofBool (a.ult b)) o)

/-- MIN. -/
def execMin (o : RRR) (s : State) : Host.Outcome State Fault Refusal := live s (alu2 1 0xb (fun a b => smin a b) o)

/-- MAX. -/
def execMax (o : RRR) (s : State) : Host.Outcome State Fault Refusal := live s (alu2 1 0xc (fun a b => smax a b) o)

/-- MINU. -/
def execMinu (o : RRR) (s : State) : Host.Outcome State Fault Refusal := live s (alu2 1 0xd (fun a b => umin a b) o)

/-- MAXU. -/
def execMaxu (o : RRR) (s : State) : Host.Outcome State Fault Refusal := live s (alu2 1 0xe (fun a b => umax a b) o)

/-- ADDW. -/
def execAddw (o : RRR) (s : State) : Host.Outcome State Fault Refusal := live s (alu2 1 0x10 (fun a b => sext32 (a + b)) o)

/-- SUBW. -/
def execSubw (o : RRR) (s : State) : Host.Outcome State Fault Refusal := live s (alu2 1 0x11 (fun a b => sext32 (a - b)) o)

/-- SLLW. -/
def execSllw (o : RRR) (s : State) : Host.Outcome State Fault Refusal := live s (alu2 1 0x16 (fun a b => sext32 (a <<< (b.toNat % 32))) o)

/-- SRLW. -/
def execSrlw (o : RRR) (s : State) : Host.Outcome State Fault Refusal := live s (alu2 1 0x17 (fun a b => ((a.setWidth 32) >>> (b.toNat % 32)).signExtend 64) o)

/-- SRAW. -/
def execSraw (o : RRR) (s : State) : Host.Outcome State Fault Refusal := live s (alu2 1 0x18 (fun a b => ((a.setWidth 32).sshiftRight (b.toNat % 32)).signExtend 64) o)

/-- MUL. -/
def execMul (o : RRR) (s : State) : Host.Outcome State Fault Refusal := live s (alu2 1 0x20 (fun a b => a * b) o)

/-- MULH. -/
def execMulh (o : RRR) (s : State) : Host.Outcome State Fault Refusal := live s (alu2 1 0x21 (fun a b => mulhS a b) o)

/-- MULHU. -/
def execMulhu (o : RRR) (s : State) : Host.Outcome State Fault Refusal := live s (alu2 1 0x22 (fun a b => mulhU a b) o)

/-- DIV (R59), on the divider. -/
def execDiv (o : RRR) (s : State) : Host.Outcome State Fault Refusal := live s (divOp 0x24 divS mag o)

/-- DIVU (R59), on the divider. -/
def execDivu (o : RRR) (s : State) : Host.Outcome State Fault Refusal := live s (divOp 0x25 divU BitVec.toNat o)

/-- REM (R59), on the divider. -/
def execRem (o : RRR) (s : State) : Host.Outcome State Fault Refusal := live s (divOp 0x26 remS mag o)

/-- REMU (R59), on the divider. -/
def execRemu (o : RRR) (s : State) : Host.Outcome State Fault Refusal := live s (divOp 0x27 remU BitVec.toNat o)

/-- DIVIDE_RESULT (R443). -/
def execDivideResult (b : Fin 8) (e : Fin 16) (s : State) : Host.Outcome State Fault Refusal := live s (divResult b e)

/-- CLZ. -/
def execClz (o : RR) (s : State) : Host.Outcome State Fault Refusal := live s (alu1 0x30 clzW o)

/-- CTZ. -/
def execCtz (o : RR) (s : State) : Host.Outcome State Fault Refusal := live s (alu1 0x31 ctzW o)

/-- POPC. -/
def execPopc (o : RR) (s : State) : Host.Outcome State Fault Refusal := live s (alu1 0x32 popW o)

/-- ADDI. -/
def execAddi (o : RRI) (s : State) : Host.Outcome State Fault Refusal := live s (aluI 2 0 true (fun a i => a + i.signExtend 64) o)

/-- ANDI. -/
def execAndi (o : RRI) (s : State) : Host.Outcome State Fault Refusal := live s (aluI 2 1 true (fun a i => a &&& i.setWidth 64) o)

/-- ORI. -/
def execOri (o : RRI) (s : State) : Host.Outcome State Fault Refusal := live s (aluI 2 2 true (fun a i => a ||| i.setWidth 64) o)

/-- XORI. -/
def execXori (o : RRI) (s : State) : Host.Outcome State Fault Refusal := live s (aluI 2 3 true (fun a i => a ^^^ i.setWidth 64) o)

/-- SLTI. -/
def execSlti (o : RRI) (s : State) : Host.Outcome State Fault Refusal := live s (aluI 2 4 true (fun a i => ofBool (a.slt (i.signExtend 64))) o)

/-- SLTIU. -/
def execSltiu (o : RRI) (s : State) : Host.Outcome State Fault Refusal := live s (aluI 2 5 true (fun a i => ofBool (a.ult (i.signExtend 64))) o)

/-- SLLI. -/
def execSlli (o : RRI) (s : State) : Host.Outcome State Fault Refusal := live s (aluI 2 6 (o.imm.toNat < 64) (fun a i => a <<< i.toNat) o)

/-- SRLI. -/
def execSrli (o : RRI) (s : State) : Host.Outcome State Fault Refusal := live s (aluI 2 7 (o.imm.toNat < 64) (fun a i => a >>> i.toNat) o)

/-- SRAI. -/
def execSrai (o : RRI) (s : State) : Host.Outcome State Fault Refusal := live s (aluI 2 8 (o.imm.toNat < 64) (fun a i => a.sshiftRight i.toNat) o)

/-- ADDWI. -/
def execAddwi (o : RRI) (s : State) : Host.Outcome State Fault Refusal := live s (aluI 2 9 true (fun a i => sext32 (a + i.signExtend 64)) o)

/-- EXTU. -/
def execExtu (o : RRI) (s : State) : Host.Outcome State Fault Refusal := live s (aluI 3 0 (fieldWf o.imm.toNat) extuW o)

/-- EXTS. -/
def execExts (o : RRI) (s : State) : Host.Outcome State Fault Refusal := live s (aluI 3 1 (fieldWf o.imm.toNat) extsW o)

/-- INS: rd is also a source. -/
def execIns (o : RRI) (s : State) : Host.Outcome State Fault Refusal :=
  live s (issue o.th { word := encB 3 o.rd o.rs1 2 o.imm.toNat, wf := fieldWf o.imm.toNat, srcs := [o.rs1, o.rd] }
    (fun s => s.retire o.th o.rd (insW (s.g o.th o.rd) (s.g o.th o.rs1) o.imm)))

/-- BSWAP. -/
def execBswap (o : RRI) (s : State) : Host.Outcome State Fault Refusal := live s (aluI 3 3 (1 ≤ o.imm.toNat && o.imm.toNat ≤ 3) bswapW o)

/-- LUI: sext(IMM20) << 12. -/
def execLui (o : RI) (s : State) : Host.Outcome State Fault Refusal :=
  live s (issue o.th { word := encC 4 o.rd 0 o.imm.toNat, srcs := [] } (fun s => s.retire o.th o.rd (o.imm.signExtend 64 <<< 12)))

/-- LUIH: sext(IMM20) << 32. -/
def execLuih (o : RI) (s : State) : Host.Outcome State Fault Refusal :=
  live s (issue o.th { word := encC 4 o.rd 1 o.imm.toNat, srcs := [] } (fun s => s.retire o.th o.rd (o.imm.signExtend 64 <<< 32)))

/-- BEQ. -/
def execBeq (o : BrOp) (s : State) : Host.Outcome State Fault Refusal := live s (branch 0 (fun a b => a == b) o)

/-- BNE. -/
def execBne (o : BrOp) (s : State) : Host.Outcome State Fault Refusal := live s (branch 1 (fun a b => a != b) o)

/-- BLT. -/
def execBlt (o : BrOp) (s : State) : Host.Outcome State Fault Refusal := live s (branch 2 (fun a b => a.slt b) o)

/-- BGE. -/
def execBge (o : BrOp) (s : State) : Host.Outcome State Fault Refusal := live s (branch 3 (fun a b => !a.slt b) o)

/-- BLTU. -/
def execBltu (o : BrOp) (s : State) : Host.Outcome State Fault Refusal := live s (branch 4 (fun a b => a.ult b) o)

/-- BGEU. -/
def execBgeu (o : BrOp) (s : State) : Host.Outcome State Fault Refusal := live s (branch 5 (fun a b => !a.ult b) o)

/-- JR. -/
def execJr (o : BrOp) (s : State) : Host.Outcome State Fault Refusal := live s (jumpReg o)

/-- J. -/
def execJ (o : JmpOp) (s : State) : Host.Outcome State Fault Refusal := live s (jump 6 false o)

/-- JL. -/
def execJl (o : JmpOp) (s : State) : Host.Outcome State Fault Refusal := live s (jump 7 true o)

/-- HASH.MIX (R63). -/
def execHashMix (o : RRR) (s : State) : Host.Outcome State Fault Refusal := live s (alu2 0x0C 0 hashMix o)

/-- HASH.FLOW (R63, R209): the yard flow hash of the 16-byte key rs2:rs1. -/
def execHashFlow (o : RRR) (s : State) : Host.Outcome State Fault Refusal :=
  live s (issue o.th { word := encA 0x0C o.rd o.rs1 o.rs2 1, srcs := [o.rs1, o.rs2] }
    (fun s => s.retire o.th o.rd (BitVec.ofNat 64 (crc32cOf (s.gf F.YRD_HASH_SEED_SEED)
      (leBytes 8 (s.g o.th o.rs1).toNat ++ leBytes 8 (s.g o.th o.rs2).toNat)))))

/-- CRC32. -/
def execCrc32 (o : CrcOp) (s : State) : Host.Outcome State Fault Refusal := live s (crcOp 4 32 crc32Of o)

/-- CRC32C. -/
def execCrc32c (o : CrcOp) (s : State) : Host.Outcome State Fault Refusal := live s (crcOp 5 32 crc32cOf o)

/-- CRC16. -/
def execCrc16 (o : CrcOp) (s : State) : Host.Outcome State Fault Refusal := live s (crcOp 6 16 crc16Of o)

end Sys2Proof.Machine
end

