-- ==== Sys2Proof/Machine/Loft.lean ====
section
/-! DEFINITION. The loft point store (spec/07, R144 to R174; R272, R273 for what VOX takes): transactions, epochs, version
writes, pins, the hold area, views, sweeps, the loft map, supply and resets. Slots stand in DRAM (R144, R145). -/
namespace Sys2Proof.Machine

def State.setLft (s : State) (l : LftSt) : State := { s with lft := l }

/-- Largest epoch that is ever opened (R157). -/
def lastEpoch : Nat := 2 ^ 40 - 2

/-- Is LFT powered (spec/16)? Not in SH3 and deeper, nor in PS3 and deeper. -/
def State.lftOn (s : State) : Bool := s.gf F.PWR_STAT_SH < 3 && s.gf F.PWR_STAT_PS < 3

/-- LFT makes progress: powered, not fenced (R172), not in block reset (R171). -/
def State.lftRuns (s : State) : Bool := s.lftOn && !s.fenced 0x20 && !s.bf F.LFT_STAT_RST_BUSY

/-- Points of the loft. -/
def State.points (s : State) : Nat := 2 ^ s.gf F.LFT_CFG_SIZE_LOG2

/-- The map entry of a point (loft-map changes). -/
def State.mapOf (s : State) (p : Nat) : Nat := p / 2 ^ (s.gf F.LFT_CFG_SIZE_LOG2 - 10)

def State.lftRej (s : State) : State := s.sf F.LFT_STAT_CFG_REJ 1

/-! ### Versions and slots (R144, R145) -/

/-- Address of slot `k` of point `p`. -/
def State.slotAddr (s : State) (p k : Nat) : Nat := dramBase + s.loftRegion.1 + 64 * p + 32 * k

/-- EPOCH of a slot. -/
def State.slotEpoch (s : State) (p k : Nat) : Nat := s.rdN (s.slotAddr p k + 24) 5

/-- The version in a slot. -/
def State.slotVer (s : State) (p k : Nat) : BitVec 256 := BitVec.ofNat 256 (s.rdN (s.slotAddr p k) 32)

/-- A version (R145). -/
def mkVer (val : BitVec 128) (stamp epoch era q : Nat) : BitVec 256 :=
  BitVec.ofNat 256 (val.toNat + stamp % 2 ^ 64 * 2 ^ 128 + epoch % 2 ^ 40 * 2 ^ 192 + era % 2 ^ 16 * 2 ^ 232 + q % 2 ^ 8 * 2 ^ 248)

/-- VALUE of a version. -/
def verVal (v : BitVec 256) : BitVec 128 := v.setWidth 128

/-- An uncorrected memory error that LFT meets (R159, R173, R448). -/
def State.lftUE (s : State) (a : Nat) (writing : Bool) : State :=
  (s.sf F.LFT_STAT_MEM_UE 1).raise 0x20 kUE ((a - dramBase) % 2 ^ 32 + b2n writing * 2 ^ 32)

/-- LFT reads `n` bytes of DRAM: true when no uncorrected error was met. -/
def State.lftRead (s : State) (a n : Nat) (writing : Bool) : State × Bool :=
  match s.dramScan a n with
  | (s, none) => (s, true)
  | (s, some w) => (s.lftUE w writing, false)

/-- A read of a version. -/
inductive VerRes where
  | ok (v : BitVec 256)
  | none
  | err
  deriving DecidableEq, Repr

/-- Slot `k` of point `p` was written before a resume for an epoch above the one resumed at: it holds no committed value (R149, R447). -/
def State.slotLost (s : State) (p k : Nat) : Bool :=
  (s.lft.cuts.drop (s.lft.gens.get (fun _ => 0) (s.slotAddr p k))).any (fun c => c.1 == s.loftRegion.1 && c.2 < s.slotEpoch p k)

/-- Does slot `k` of point `p` hold a version of an epoch at or below `e`? -/
def State.slotHas (s : State) (p k e : Nat) : Bool := !s.slotLost p k && s.slotEpoch p k ≤ e

/-- The slot with the larger EPOCH of those at or below `e`; slot 0 where equal (R161). -/
def State.pickSlot (s : State) (p e : Nat) : Option Nat :=
  if s.slotHas p 0 e && (!s.slotHas p 1 e || s.slotEpoch p 1 ≤ s.slotEpoch p 0) then some 0
  else if s.slotHas p 1 e then some 1 else none

/-- The version in the slots as of an epoch: the EPOCH words of both slots are read, and the chosen slot. -/
def State.slotRead (s : State) (p e : Nat) : State × VerRes :=
  match s.lftRead (s.slotAddr p 0 + 24) 8 false with
  | (s, false) => (s, .err)
  | (s, true) => match s.lftRead (s.slotAddr p 1 + 24) 8 false with
    | (s, false) => (s, .err)
    | (s, true) => match s.pickSlot p e with
      | none => (s, .none)
      | some k => match s.lftRead (s.slotAddr p k) 24 false with
        | (s, false) => (s, .err)
        | (s, true) => (s, .ok (s.slotVer p k))

/-- R161: the version of point `p` under a pin on epoch `e`: the slots, then the hold area. An unbroken pin always finds one;
for any other state the value is free. -/
def State.readVer (s : State) (p e : Nat) : State × VerRes :=
  match s.slotRead p e with
  | (s, .none) =>
    match s.lft.held.find? (fun h => h.point == p && h.lo ≤ e && e ≤ h.hi) with
    | some h => (s, if h.err then .err else .ok h.ver)
    | none => ({ s with free := s.free + 4 }, .ok s.free256)
  | r => r

/-- The newest committed value of a point in commit order (R73, R151): a version not yet written, else the slots; after a resume, until a
commit writes the point, that is the version of the epoch resumed at (R447). `none` on an uncorrected error. -/
def State.newestVal (s : State) (p : Nat) : State × Option (BitVec 128) :=
  match (s.lft.writes.filter (fun w => w.point == p)).getLast? with
  | some w => (s, some (verVal w.ver))
  | none =>
    match s.readVer p (2 ^ 40) with
    | (s, .ok v) => (s, some (verVal v))
    | (s, _) => (s, none)

/-! ### Pins and the hold area (R160 to R162) -/

/-- Does a pin count: lease running, not broken (R162)? -/
def State.pinLive (s : State) (p : LPin) : Bool := !p.broken && s.tick < p.expiry

/-- Every live pin's epoch. -/
def State.livePins (s : State) : List LPin := (s.lft.pins ++ s.lft.views.filterMap id).filter s.pinLive

/-- Held versions that no live pin needs are freed (R162). -/
def State.pruneHold (s : State) : State :=
  let live := s.livePins
  s.setLft { s.lft with held := s.lft.held.filter (fun h => live.any (fun p => h.lo ≤ p.epoch && p.epoch ≤ h.hi)) }

/-- Break the live pins a test selects; each counts once in LFT_CNT_BROKEN. -/
def State.breakPins (s : State) (f : LPin → Bool) : State :=
  let hit (p : LPin) : Bool := s.pinLive p && f p
  let n := (s.livePins.filter f).length
  let brk (p : LPin) : LPin := if hit p then { p with broken := true } else p
  (s.setLft { s.lft with pins := s.lft.pins.map brk, views := s.lft.views.map (·.map brk) }).addf F.LFT_CNT_BROKEN_COUNT n

/-- Hold a version for epochs `lo` to `hi` (R158, R162); with the hold area full the pins in its range are broken. -/
def State.holdVer (s : State) (h : Held) : State :=
  let s := s.pruneHold
  if s.lft.held.length < 524288 then s.setLft { s.lft with held := s.lft.held ++ [h] }
  else
    let f (p : LPin) : Bool := h.lo ≤ p.epoch && p.epoch ≤ h.hi
    let n := (s.livePins.filter f).length
    ((s.breakPins f).pruneHold.sf F.LFT_STAT_HOLD_FULL 1).logRec 0x20 0x2001 h.point n

/-- The lease in µs (LFT_LEASE). -/
def State.leaseUs (s : State) : Nat := max 1 (min 50000 (s.gf F.LFT_LEASE_LEASE))

/-- A pin on the newest sealed epoch, taken now (R160). -/
def State.newPin (s : State) (handle owner : Nat) : LPin :=
  { handle := handle, owner := owner, epoch := s.lft.sealed, expiry := s.tick + 250 * s.leaseUs, broken := false }

/-- LEASE_EXPIRE (R160, R162): a lease has run out; what it alone held is freed. -/
def leaseExpire (s : State) : State := s.pruneHold

/-! ### The state of the loft for users (R147 to R149, R170, R174) -/

def State.lftEn (s : State) : Bool := s.bf F.LFT_CTL_EN
def State.lftReady (s : State) : Bool := s.bf F.LFT_STAT_READY
def State.lftShed (s : State) : Bool := s.bf F.LFT_STAT_SHED

/-- Are pins refused (R149, R170, R171)? -/
def State.pinRefused (s : State) : Bool :=
  s.bf F.LFT_STAT_RST_BUSY || !s.lftEn || !(s.lftReady || s.bf F.LFT_STAT_FORMATTING) || s.bf F.LFT_STAT_SHED_SEALED

/-- Are new transactions refused (R147, R149, R157, R170, R171, R174)? -/
def State.openRefused (s : State) : Bool :=
  s.bf F.LFT_STAT_RST_BUSY || !s.lftEn || !s.lftReady || s.lftShed || s.bf F.LFT_CTL_REPLICA || s.lft.opn.isNone

/-- Does LFT hold an operation other than OPEN and PIN (R171, R172)? Reads wait for DRAM. -/
def State.ltxHeld (s : State) : Bool := !s.lftRuns

/-! ### SETTLED (R169) -/

/-- SETTLED becomes 1 once no transaction holds a put, and no running sweep started, before the most recent map write. -/
def State.lftSettle (s : State) : State :=
  let m := s.lft.mapSeq
  let busy (c : Nat) : Bool :=
    s.gf (F.LFT_SWP_STAT_STATE c) != 0 && ((s.lft.sweeps.get (fun _ => Sweep.init) c).gen < m)
  if s.lft.txns.any (fun t => t.puts.any (fun p => p.gen < m)) || busy 0 || busy 1 then s
  else s.sf F.LFT_MAP_STAT_SETTLED 1

/-- MAP_WRITE (R169): a write of LFT_MAP_CTL[m] or, where `pad`, of LFT_MAP_PAD[m]. -/
def mapWrite (m : Nat) (pad : Bool) (v : Nat) (s : State) : State :=
  if s.bf F.LFT_STAT_RST_BUSY then s
  else
    let s := if pad then s.sf (F.LFT_MAP_PAD_PADMASK m) v
      else s.sfs [(F.LFT_MAP_CTL_SWEEP m, bits v 2 2), (F.LFT_MAP_CTL_REPL m, bits v 1 1), (F.LFT_MAP_CTL_WR m, bits v 0 0)]
    let s := s.sf (F.LFT_MAP_CTL_VER m) (s.gf (F.LFT_MAP_CTL_VER m) + 1)
    let s := (s.sf F.LFT_MAP_STAT_GEN (s.gf F.LFT_MAP_STAT_GEN + 1)).sf F.LFT_MAP_STAT_SETTLED 0
    (s.setLft { s.lft with mapSeq := s.lft.mapSeq + 1 }).lftSettle

/-! ### Transactions (R149 to R152, R72, R73): each answers a new state, STATUS and VALUE -/

/-- LTX.OPEN. -/
def ltxOpen (t : Nat) (s : State) : State × Nat × Nat :=
  if s.openRefused then (s, 0x1B, 0)
  else if s.fenced 0x20 then (s, 0x25, 0)
  else match firstIdx (fun i => !s.lft.txns.any (·.handle == i)) 4096 with
    | none => (s, 0x18, 0)
    | some h => (s.setLft { s.lft with txns := s.lft.txns ++ [⟨h, t, [], 0⟩] }, 0, h)

/-- The thread's transaction with a handle (R67). -/
def State.txnOf (s : State) (t h : Nat) : Option LTxn := s.lft.txns.find? (fun x => x.handle == h && x.owner == t)

/-- Replace a transaction. -/
def State.setTxn (s : State) (x : LTxn) : State :=
  s.setLft { s.lft with txns := s.lft.txns.map (fun y => if y.handle == x.handle then x else y) }

/-- Free a transaction's handle. -/
def State.freeTxn (s : State) (h : Nat) : State :=
  (s.setLft { s.lft with txns := s.lft.txns.filter (·.handle != h) }).lftSettle

/-- LTX.PUT, or LTX.CPUT where `exp` is the expected value (R150, R146). -/
def ltxPut (t h pw : Nat) (val : BitVec 128) (exp : Option (BitVec 128)) (s : State) : State × Nat × Nat :=
  match s.txnOf t h with
  | none => (s, 0x12, 0)
  | some x =>
    let p := bits pw 24 0
    let q := bits pw 39 32
    let fail (st : Nat) : State × Nat × Nat := (s.setTxn { x with fail := st }, st, 0)
    if x.fail ≠ 0 then (s, x.fail, 0)
    else if s.points ≤ p ∨ q = 0 ∨ bits pw 31 25 ≠ 0 ∨ bits pw 63 40 ≠ 0 ∨ !s.bf (F.LFT_MAP_CTL_WR (s.mapOf p)) ∨
        !bit (s.gf (F.LFT_MAP_PAD_PADMASK (s.mapOf p))) (s.padOf t) then fail 0x13
    else if x.puts.length ≥ 256 then fail 0x19
    else if !s.canCharge (s.padOf t) 3 1 then
      ((s.exhaust (s.padOf t) 3).setTxn { x with fail := 0x14 }, 0x14, 0)
    else
      let put : LPut := ⟨p, q, val, exp, s.bf (F.LFT_MAP_CTL_REPL (s.mapOf p)), s.lft.mapSeq⟩
      ((s.charge (s.padOf t) 3 1).setTxn { x with puts := x.puts ++ [put] }, 0, 0)

/-- Outcome of evaluating the compare-and-puts of a commit. -/
def State.compares (s : State) : List LPut → State × Bool × Bool
  | [] => (s, false, false)
  | p :: ps =>
    let (s, err, bad) := s.compares ps
    match p.exp with
    | none => (s, err, bad)
    | some e => match s.newestVal p.point with
      | (s, none) => (s, true, bad)
      | (s, some v) => (s, err, bad || v != e)

/-- The puts a commit applies: a later put to the same point wins (R73). -/
def lastPuts : List LPut → List LPut
  | [] => []
  | p :: ps => if ps.any (·.point == p.point) then lastPuts ps else p :: lastPuts ps

/-- LTX.COMMIT (R72, R73, R151). -/
def ltxCommit (t h : Nat) (s : State) : State × Nat × Nat :=
  match s.txnOf t h with
  | none => (s, 0x12, 0)
  | some x =>
    let s := s.freeTxn h
    match s.lft.opn with
    | none => (s, 0x1B, 0)
    | some o =>
      if s.lftShed then (s, 0x1B, 0)
      else if x.fail ≠ 0 then (s, x.fail, 0)
      else match s.compares x.puts with
        | (s, true, _) => (s, 0x26, 0)
        | (s, false, true) => (s.incf F.LFT_CNT_CONFLICT_COUNT, 0x1A, 0)
        | (s, false, false) =>
          let st := s.whole 0
          let ws := (lastPuts x.puts).map (fun p => (⟨o, p.point, mkVer p.val st o (s.era 0) p.q, p.repl⟩ : LWrite))
          ((s.setLft { s.lft with writes := s.lft.writes ++ ws }).incf F.LFT_CNT_COMMIT_COUNT, 0, o)

/-- LTX.ABORT. -/
def ltxAbort (t h : Nat) (s : State) : State × Nat × Nat :=
  match s.txnOf t h with
  | none => (s, 0x12, 0)
  | some _ => (s.freeTxn h, 0, 0)

/-- LTX.PIN (R160): `ta` is the address in memory of the tack range that receives the epoch and the expiry record. -/
def ltxPin (t ta : Nat) (s : State) : State × Nat × Nat :=
  if s.pinRefused then (s, 0x1B, 0)
  else if s.fenced 0x20 then (s, 0x25, 0)
  else match firstIdx (fun i => !s.lft.pins.any (·.handle == i)) 1024 with
    | none => (s, 0x11, 0)
    | some h =>
      let p := s.newPin h t
      let s := s.setLft { s.lft with pins := s.lft.pins ++ [p] }
      let s := s.wrL ta (leBytes 8 p.epoch ++ s.stampOf 0 ((s.dom 0).val + s.leaseUs * 1000 * 2 ^ 32) 5 0 0)
      (s, 0, h)

/-- Does an LTX.GET read DRAM: its pin is the thread's and live, its point in range (R161)? -/
def State.getReads (s : State) (t h p : Nat) : Bool :=
  match s.lft.pins.find? (fun x => x.handle == h && x.owner == t) with
  | none => false
  | some x => decide (p < s.points) && s.pinLive x

/-- LTX.GET (R161). -/
def ltxGet (t h p ta : Nat) (s : State) : State × Nat × Nat :=
  match s.lft.pins.find? (fun x => x.handle == h && x.owner == t) with
  | none => (s, 0x12, 0)
  | some x =>
    if s.points ≤ p then (s, 0x13, 0)
    else if !s.pinLive x then (s, 0x1C, 0)
    else match s.readVer p x.epoch with
      | (s, .ok v) => ((s.wrL ta (leBytes 32 v.toNat)).dramAsk cLFT 1, 0, 0)
      | (s, _) => (s, 0x26, 0)

/-- LTX.UNPIN (R163). -/
def ltxUnpin (t h : Nat) (s : State) : State × Nat × Nat :=
  match s.lft.pins.find? (fun x => x.handle == h && x.owner == t) with
  | none => (s, 0x12, 0)
  | some x =>
    let live := s.pinLive x
    ((s.setLft { s.lft with pins := s.lft.pins.filter (·.handle != h) }).pruneHold, if live then 0 else 0x1C, 0)

/-- A block reset of barn `b` (R152, R163). -/
def State.lftBarnReset (s : State) (b : Nat) : State :=
  let n := (s.lft.txns.filter (fun x => barnOf x.owner == b)).length
  let s := s.addf F.LFT_CNT_ABORT_COUNT n
  (s.setLft { s.lft with txns := s.lft.txns.filter (fun x => barnOf x.owner != b),
                         pins := s.lft.pins.filter (fun x => barnOf x.owner != b) }).pruneHold.lftSettle

/-! ### Sweeps (R166 to R168) -/

def State.sweep (s : State) (c : Nat) : Sweep := s.lft.sweeps.get (fun _ => Sweep.init) c
def State.setSweep (s : State) (c : Nat) (w : Sweep) : State := s.setLft { s.lft with sweeps := s.lft.sweeps.set (fun _ => Sweep.init) c w }
def State.swpState (s : State) (c : Nat) : Nat := s.gf (F.LFT_SWP_STAT_STATE c)

/-- Does a queue number name an open queue with 64-byte entries? -/
def State.wideQueue (s : State) (q : Nat) : Bool :=
  if q < 0x1000 then (s.iq q).made && (s.iq q).wide
  else if q < 0x2000 then let p := s.pairOf (q - 0x1000); p.kind == 3 && (p.state == 1 || p.state == 2) && p.cqWide
  else false

/-- Has a queue room for one more entry, beside the deliveries to it that wait for QM? -/
def State.queueSpace (s : State) (q : Nat) : Bool :=
  let w := (s.qm.held.filter (·.1 == q)).length
  if q < 0x1000 then let v := s.iq q; v.made && ringHeld v.log2N v.p v.c + w < 2 ^ v.log2N
  else if q < 0x2000 then let p := s.pairOf (q - 0x1000); p.kind == 3 && (p.state == 1 || p.state == 2) && decide (w < p.cqFree)
  else false

/-- The 64-byte units that an epoch takes of the replication buffer (R273): one for each version and one for the end marker. -/
def ReplEpoch.units (r : ReplEpoch) : Nat := (r.data.length - 8) / 36 + 1

/-- Replication is broken (R273): the buffer is discarded. -/
def State.replBreak (s : State) : State :=
  { s.sfs [(F.VOX_REPL_STAT_BROKEN, 1), (F.VOX_REPL_STAT_RSYNC, 0), (F.VOX_REPL_STAT_BACKLOG, 0)] with vox := { s.vox with replBuf := [] } }

/-- Is Voxam link `l` up? -/
def State.linkUp (s : State) (l : Nat) : Bool := s.bf (F.VOX_LINK_STAT_UP l)

/-- Send the epochs in the replication buffer in order, while link 0 is up and no re-synchronisation runs. -/
def State.replDrain (s : State) : State :=
  if !s.linkUp 0 || s.bf F.VOX_REPL_STAT_RSYNC || s.bf F.VOX_REPL_STAT_BROKEN then s
  else
    let s := s.vox.replBuf.foldl (fun s e => s.emit .replEpoch 0 e.data) s
    { s.sf F.VOX_REPL_STAT_BACKLOG 0 with vox := { s.vox with replBuf := [] } }

/-- A re-synchronisation takes epoch `e`: VOX buffers only the epochs above it (R273). -/
def State.replAbove (s : State) (e : Nat) : State :=
  let l := s.vox.replBuf.filter (fun r => e < r.epoch)
  { s.sf F.VOX_REPL_STAT_BACKLOG ((l.map ReplEpoch.units).sum) with vox := { s.vox with replBuf := l } }

/-- A re-synchronisation sweep has ended with RESULT `r` (R273). -/
def State.rsyncEnd (s : State) (r : Nat) : State :=
  if r = 0 then (s.sf F.VOX_REPL_STAT_RSYNC 0).replDrain else s.replBreak

/-- A sweep is over (R168): IDLE, VALID, TAG, RESULT. -/
def State.sweepIdle (s : State) (c r : Nat) : State :=
  let rs := (s.sweep c).rsync
  let s := s.sfs [(F.LFT_SWP_STAT_STATE c, 0), (F.LFT_SWP_STAT_VALID c, 1), (F.LFT_SWP_STAT_RESULT c, r),
    (F.LFT_SWP_STAT_TAG c, s.gf (F.LFT_SWP_STAT_TAG c) + 1)]
  let s := (s.setSweep c { Sweep.init with epoch := (s.sweep c).epoch }).lftSettle
  if rs then s.rsyncEnd r else s

/-- A sweep ends with a result that has an END entry (R168): undelivered pushes are discarded, END waits for space. -/
def State.sweepEnding (s : State) (c r : Nat) : State :=
  (s.sfs [(F.LFT_SWP_STAT_STATE c, 3), (F.LFT_SWP_STAT_RESULT c, r)]).setSweep c { s.sweep c with push := [] }

/-- A sweep ends with QUEUE or RESET: no END entry (R168). -/
def State.sweepDrop (s : State) (c r : Nat) : State := if s.swpState c = 0 then s else s.sweepIdle c r

/-- The queue of a sweep was destroyed or entered ERROR (R168). -/
def State.sweepQueueLost (s : State) (q : Nat) : State :=
  [0, 1].foldl (fun s c => if s.gf (F.LFT_SWP_Q_QUEUE c) = q then s.sweepDrop c 4 else s) s

/-- START (R166; R273 where the queue is the partner's). -/
def sweepStart (c : Nat) (s : State) : State :=
  if s.bf F.LFT_STAT_RST_BUSY then s
  else if s.swpState c ≠ 0 ∨ !s.lftReady ∨ s.lftShed ∨ !s.wideQueue (s.gf (F.LFT_SWP_Q_QUEUE c)) then s.lftRej
  else
    let rs := s.gf (F.LFT_SWP_Q_QUEUE c) == s.gf F.VOX_Q_CFG_RSYNC_Q && s.gf F.RED_ROLE_ROLE == 2 && s.bf F.RED_TWIN_CFG_TWIN_EN
    let s := s.sfs [(F.LFT_SWP_STAT_VALID c, 0), (F.LFT_SWP_STAT_STATE c, 1), (F.LFT_SWP_PUSHED_COUNT c, 0),
      (F.LFT_SWP_EMITTED_COUNT c, 0)]
    let s := s.setSweep c { Sweep.init with gen := s.lft.mapSeq, rsync := rs }
    if rs then s.sfs [(F.VOX_REPL_STAT_RSYNC, 1), (F.VOX_REPL_STAT_BROKEN, 0)] else s

/-- ABORT (R168): a CLEARING or RUNNING sweep ends with ABORTED. -/
def sweepAbort (c : Nat) (s : State) : State :=
  if s.bf F.LFT_STAT_RST_BUSY ∨ !(s.swpState c == 1 || s.swpState c == 2) then s else s.sweepEnding c 1

/-- A write of LFT_SWP_CTL[c]. -/
def sweepCtl (c v : Nat) (s : State) : State :=
  let s := if bit v 1 then sweepAbort c s else s
  if bit v 0 then sweepStart c s else s

/-- SWEEP_CLEAR_DONE (R166): the sweep takes the newest sealed epoch and captures the SWEEP bits. -/
def sweepClearDone (c : Nat) (s : State) : State :=
  if s.swpState c ≠ 1 ∨ !s.lftRuns then s
  else
    let skip := (List.range 1024).filter (fun m => !s.bf (F.LFT_MAP_CTL_SWEEP m))
    let s := s.setSweep c { s.sweep c with epoch := s.lft.sealed, skip := skip }
    let s := if (s.sweep c).rsync then s.replAbove s.lft.sealed else s
    s.sfs [(F.LFT_SWP_STAT_STATE c, 2), (F.LFT_SWP_CURSOR_CURSOR c, 0), (F.LFT_SWP_EPOCH_LO_EPOCH c, s.lft.sealed)]

/-- Is point `p` marked swept on channel `c`? -/
def State.isSwept (s : State) (c p : Nat) : Bool :=
  let w := s.sweep c
  p < s.gf (F.LFT_SWP_CURSOR_CURSOR c) || w.skip.contains (s.mapOf p) || w.swept.get (fun _ => false) p

/-- The first unswept point from the cursor on, looking at `n` points. -/
def State.nextPoint (s : State) (c p : Nat) : Nat → Nat
  | 0 => p
  | n + 1 => if s.isSwept c p then s.nextPoint c (p + 1) n else p

/-- A 64-byte sweep entry. -/
def State.sweepEntry (s : State) (c point : Nat) (ver : BitVec 256) (flags result : Nat) : List Byte :=
  leBytes 32 ver.toNat ++ leBytes 4 point ++ leBytes 1 flags ++ leBytes 1 result ++ leBytes 1 (s.gf (F.LFT_SWP_STAT_TAG c) + 1) ++
    leBytes 1 c ++ leBytes 5 (s.sweep c).epoch ++ leBytes 3 0 ++ leBytes 8 (s.gf (F.LFT_SWP_EMITTED_COUNT c)) ++ leBytes 8 0

/-- Can the sweep deliver an entry: space in its queue, or for a re-synchronisation, link 0 up? -/
def State.sweepSpace (s : State) (c : Nat) : Bool :=
  if (s.sweep c).rsync then s.linkUp 0 else s.queueSpace (s.gf (F.LFT_SWP_Q_QUEUE c))

/-- Deliver a sweep entry; VOX drains the re-synchronisation queue to the partner (R273). -/
def State.sweepDeliver (s : State) (c : Nat) (l : List Byte) : State :=
  if (s.sweep c).rsync then s.emit .replSweep 0 l else (s.deliver (s.gf (F.LFT_SWP_Q_QUEUE c)) l).1

/-- SWEEP_EMIT (R167): a pushed entry, else the next cursor entry; nothing while the queue is full. -/
def sweepEmit (c : Nat) (s : State) : State :=
  if s.swpState c ≠ 2 ∨ !s.lftRuns ∨ !s.dramUp ∨ !s.dramIdle cLFT ∨ !s.sweepSpace c then s
  else match (s.sweep c).push with
    | (p, v, e) :: rest =>
      let s := s.sweepDeliver c (s.sweepEntry c p (if e then 0 else v) (1 + 2 * b2n e) 0)
      (s.setSweep c { s.sweep c with push := rest }).incf (F.LFT_SWP_EMITTED_COUNT c)
    | [] =>
      let cur := s.gf (F.LFT_SWP_CURSOR_CURSOR c)
      let p := s.nextPoint c cur (s.points - cur)
      if s.points ≤ p then s.sf (F.LFT_SWP_CURSOR_CURSOR c) s.points
      else match (s.dramAsk cLFT 1).readVer p (s.sweep c).epoch with
        | (s, .ok v) =>
          ((s.sweepDeliver c (s.sweepEntry c p v 0 0)).sf (F.LFT_SWP_CURSOR_CURSOR c) (p + 1)).incf (F.LFT_SWP_EMITTED_COUNT c)
        | (s, _) =>
          ((s.sweepDeliver c (s.sweepEntry c p 0 2 0)).sf (F.LFT_SWP_CURSOR_CURSOR c) (p + 1)).incf (F.LFT_SWP_EMITTED_COUNT c)

/-- SWEEP_END (R168): the cursor has passed the last point with nothing pushed (DONE), or an end waits; the END entry is
delivered once the queue has space, and the channel becomes IDLE. -/
def sweepEnd (c : Nat) (s : State) : State :=
  if !s.lftRuns then s
  else
    let done := s.swpState c == 2 && (s.sweep c).push.isEmpty && s.points ≤ s.gf (F.LFT_SWP_CURSOR_CURSOR c)
    let s := if done then s.sweepEnding c 0 else s
    if s.swpState c ≠ 3 ∨ !s.sweepSpace c then s
    else
      let r := s.gf (F.LFT_SWP_STAT_RESULT c)
      (s.sweepDeliver c (s.sweepEntry c 0 0 4 r)).sweepIdle c r

/-! ### Writing a version (R158, R159) -/

/-- Push-ahead for channel `c` before slot version `v` of point `p`, valid from `te` to below `oe`, is overwritten. -/
def State.pushAhead (s : State) (p te oe : Nat) (v : BitVec 256) (err : Bool) (c : Nat) : State :=
  let w := s.sweep c
  if s.swpState c ≠ 2 ∨ s.isSwept c p ∨ w.epoch < te ∨ oe ≤ w.epoch then s
  else if w.push.length ≥ 131072 then s.sweepEnding c 2
  else (s.setSweep c { w with push := w.push ++ [(p, v, err)], swept := w.swept.set (fun _ => false) p true }).incf (F.LFT_SWP_PUSHED_COUNT c)

/-- Write version `v` to slot `k` of point `p`. -/
def State.putSlot (s : State) (p k : Nat) (v : BitVec 256) : State :=
  (s.wrL (s.slotAddr p k) (leBytes 32 v.toNat)).setLft
    { s.lft with gens := s.lft.gens.set (fun _ => 0) (s.slotAddr p k) s.lft.cuts.length }

/-- Write version `v` of epoch `o` to a slot of point `p`, with the copies R158 makes first. A slot that holds no committed value (R447)
is written first and nothing is copied from it (log 42). -/
def State.applyVer (s : State) (o p : Nat) (v : BitVec 256) : State :=
  let put (s : State) (k : Nat) : State := s.putSlot p k v
  match s.lftRead (s.slotAddr p 0 + 24) 8 true with
  | (s, false) => put s 0
  | (s, true) => match s.lftRead (s.slotAddr p 1 + 24) 8 true with
    | (s, false) => put s 1
    | (s, true) =>
      let a := s.slotEpoch p 0
      let b := s.slotEpoch p 1
      if s.slotLost p 0 then put s 0
      else if s.slotLost p 1 then put s 1
      else if a = o then put s 0
      else if b = o then put s 1
      else
        let k := if a ≤ b then 0 else 1
        let te := min a b
        let oe := max a b
        let push := [0, 1].any (fun c => s.swpState c == 2 && !s.isSwept c p && te ≤ (s.sweep c).epoch && (s.sweep c).epoch < oe)
        let hold := s.livePins.any (fun x => te ≤ x.epoch && x.epoch < oe)
        if !push && !hold then put s k
        else
          let (s, good) := s.lftRead (s.slotAddr p k) 24 true
          let old := s.slotVer p k
          let s := [0, 1].foldl (fun s c => s.pushAhead p te oe old (!good) c) s
          let s := if hold then s.holdVer ⟨p, te, oe - 1, old, !good⟩ else s
          put s k

/-- VERSION_WRITE (R155, R158): the oldest version waiting is written, once every older epoch is sealed. -/
def versionWrite (s : State) : State :=
  match s.lft.writes with
  | [] => s
  | w :: ws =>
    if w.epoch ≠ s.lft.sealed + 1 ∨ !s.lftRuns ∨ !s.dramUp ∨ !s.dramIdle cLFT then s
    else
      let s := (s.applyVer w.epoch w.point w.ver).dramAsk cLFT 2
      let same (r : Nat × Nat × BitVec 256) : Bool := r.1 == w.epoch && r.2.1 == w.point
      let carried := w.repl || s.lft.repl.any same
      s.setLft { s.lft with writes := ws,
                            repl := if carried then s.lft.repl.filter (fun r => !same r) ++ [(w.epoch, w.point, w.ver)] else s.lft.repl }

/-! ### Sealing (R153, R154, R157, R170, R272) -/

/-- Pass a sealed epoch to VOX (R272, R273): only on the active, with a partner that is not lost. -/
def State.passEpoch (s : State) (e : Nat) : State :=
  let mine := s.lft.repl.filter (fun r => r.1 == e)
  let s := s.setLft { s.lft with repl := s.lft.repl.filter (fun r => r.1 != e) }
  if s.gf F.RED_ROLE_ROLE ≠ 2 ∨ s.bf F.RED_ROLE_PARTNER_LOST ∨ !s.bf F.RED_TWIN_CFG_TWIN_EN ∨
      (s.bf F.VOX_REPL_STAT_BROKEN ∧ !s.bf F.VOX_REPL_STAT_RSYNC) then s
  else
    let data := leBytes 8 e ++ mine.foldl (fun l r => l ++ leBytes 32 r.2.2.toNat ++ leBytes 4 r.2.1) []
    let units := mine.length + 1
    let used := s.gf F.VOX_REPL_STAT_BACKLOG
    if 65536 < used + units then s.replBreak
    else ({ s.sf F.VOX_REPL_STAT_BACKLOG (used + units) with vox := { s.vox with replBuf := s.vox.replBuf ++ [⟨e, data⟩] } } : State).replDrain

/-- Address of the resume header, in the last 4 MiB of the auxiliary region (R144; log 43). -/
def State.hdrAddr (s : State) : Nat := dramBase + s.auxRegion.1 + 124 * 2 ^ 20

/-- The 32 bytes of a resume header: its layout belongs to LFT, so nothing is known of them (R144). -/
def hdrBytes (k : Nat) : List Byte :=
  leBytes 8 (Config.freeVal k).toNat ++ leBytes 8 (Config.freeVal (k + 1)).toNat ++ leBytes 8 (Config.freeVal (k + 2)).toNat ++
    leBytes 8 (Config.freeVal (k + 3)).toNat

/-- New bytes in the resume header of the auxiliary region in force; what LFT remembers of it is `h` (R147, R148). -/
def State.putHeader (s : State) (h : Option LHdr) : State :=
  let l := s.lft.headers.filter (fun x => x.1.aux != s.gf F.LFT_AUX_BASE_BASE)
  let k := s.free
  let s := (s.wrL s.hdrAddr (hdrBytes k)).setLft { s.lft with headers := match h with | some h => (h, k) :: l | none => l }
  { s with free := k + 4 }

/-- Rewrite the resume header for the newest sealed epoch (R148). -/
def State.writeHeader (s : State) : State :=
  s.putHeader (some ⟨s.lft.sealed, s.gf F.LFT_CFG_SIZE_LOG2, s.gf F.LFT_LOFT_BASE_BASE, s.gf F.LFT_AUX_BASE_BASE⟩)

/-- The resume header in the auxiliary region in force, where the bytes LFT wrote still stand (R148). -/
def State.header (s : State) : Option LHdr :=
  match s.lft.headers.find? (fun x => x.1.aux == s.gf F.LFT_AUX_BASE_BASE) with
  | some (h, k) => if s.rdB s.hdrAddr 32 = hdrBytes k then some h else none
  | none => none

/-- The newest sealed epoch is `e` (LFT_EPOCH). -/
def State.newSealed (s : State) (e : Nat) : State := (s.setLft { s.lft with sealed := e }).setReg R.LFT_EPOCH_LO e

/-- The newest sealed epoch is `e` (LFT_EPOCH, header). -/
def State.setSealed (s : State) (e : Nat) : State := (s.newSealed e).writeHeader

/-- The loft is exhausted (R157, R447). -/
def State.exhausted (s : State) : State := (s.sf F.LFT_STAT_EXHAUSTED 1).raise 0x20 kOVERFLOW lastEpoch

/-- Seal epoch `e`, closed at tick `t` (R154, R157). -/
def State.sealOne (s : State) (e t : Nat) : State :=
  let lag := s.tick - t
  let s := s.setSealed e
  let s := s.sfs [(F.LFT_SEAL_LAG_LAST, min lag 0xFFFF), (F.LFT_SEAL_LAG_MAX, max (s.gf F.LFT_SEAL_LAG_MAX) (min lag 0xFFFF))]
  let s := if 250000 < lag then (s.sf F.LFT_STAT_SEAL_LATE 1).raise 0x20 kTIMEOUT (e + min lag (2 ^ 24 - 1) * 2 ^ 40) else s
  let s := if e = lastEpoch then s.exhausted else s
  s.passEpoch e

/-- Seal, in ascending order, every closed epoch whose writes are all performed (R154). -/
def State.sealAll (s : State) : List (Nat × Nat) → State
  | [] => s
  | (e, t) :: r =>
    if s.lft.writes.any (fun w => w.epoch ≤ e) then s
    else (((s.setLft { s.lft with closed := r }).sealOne e t).sealAll r)

/-- Seal what is ready, while LFT runs and DRAM can be written. -/
def State.sealReady (s : State) : State := if s.lftRuns && s.dramUp then s.sealAll s.lft.closed else s

/-- EPOCH_SEAL (R154): a closed epoch's last write has been performed; it and every later closed epoch with no write waiting
are sealed. -/
def epochSeal (s : State) : State := s.sealReady

/-- Start the grid: the first multiple of the interval at least TBU_LEAD ticks ahead (R153). -/
def State.gridStart (s : State) : State :=
  let iv := s.gf F.LFT_SEAL_CFG_INTERVAL
  let v := alignedFrom (ceilDiv ((s.dom 0).val + s.leadVal 0) (2 ^ 32)) (iv * 1000) 0
  s.setLft { s.lft with next := some v, ivl := iv }

/-- May LFT make a boundary: ready, an epoch open, not in replica mode? -/
def State.mayBound (s : State) : Bool := s.lftReady && s.lft.opn.isSome && !s.bf F.LFT_CTL_REPLICA && s.lftRuns

/-- The open epoch closes and the next opens (R154, R157); one boundary per tick. -/
def State.boundary (s : State) : State :=
  match s.lft.opn with
  | none => s
  | some o =>
    if s.lft.lastB = some s.tick then s
    else
      let s := s.setLft { s.lft with closed := s.lft.closed ++ [(o, s.tick)], opn := if o = lastEpoch then none else some (o + 1), lastB := some s.tick }
      s.sealReady

/-- The grid after a boundary: a changed interval applies from its first multiple TBU_LEAD ticks after it. -/
def State.gridNext (s : State) (v : Nat) : State :=
  if s.lft.ivl ≠ s.gf F.LFT_SEAL_CFG_INTERVAL then s.gridStart
  else
    let n := max 1 (s.lft.ivl * 1000)
    s.setLft { s.lft with next := some ((max (s.whole 0) v / n + 1) * n) }

/-- SEAL_BOUNDARY (R153, R154, R170): a grid value has been reached, or an extra boundary is due. -/
def sealBoundary (s : State) : State :=
  let extra := match s.lft.extra with | some t => decide (t ≤ s.tick) | none => false
  let grid := match s.lft.next with | some v => decide (v ≤ s.whole 0) && !s.lftShed | none => false
  if !s.mayBound || !(extra || grid) then s
  else
    let s := s.boundary
    let s := if extra then s.setLft { s.lft with extra := none, shedB := s.lft.shedB || s.lftShed } else s
    match s.lft.next with
    | some v => if grid then s.gridNext v else s
    | none => s

/-- SEAL (R153): an extra boundary on the next tick. -/
def sealReq (s : State) : State :=
  if s.bf F.LFT_STAT_RST_BUSY ∨ s.lftShed ∨ !s.mayBound then s else s.setLft { s.lft with extra := some (s.tick + 1) }

/-- Domain 0 was stepped with a change of era (R153, R110): one boundary on the step tick, the grid from the new value. While LFT makes no
boundary (R172) the grid alone follows. -/
def State.lftEra (s : State) : State :=
  let s := if s.mayBound && !s.lftShed then s.setLft { s.lft with extra := some s.tick } else s
  if s.lft.next.isSome then s.gridStart else s

/-! ### Enabling, formatting, resuming (R144, R147 to R149) -/

/-- The checks of R144. -/
def State.lftPlaceOk (s : State) : Bool :=
  let n := s.gf F.LFT_CFG_SIZE_LOG2
  let (lb, ls) := s.loftRegion
  let (ab, as_) := s.auxRegion
  16 ≤ n && n ≤ 25 && lb % max ls (2 ^ 26) == 0 && lb + ls ≤ s.usable && ab + as_ ≤ s.usable && !overlap lb ls ab as_ &&
    !(s.bf F.SAX_CTL_EN && (overlap lb ls s.saxRegion.1 s.saxRegion.2 || overlap ab as_ s.saxRegion.1 s.saxRegion.2)) &&
    !(s.bf F.EVR_SPILL_CTL_EN && (overlap lb ls (s.gf F.EVR_SPILL_BASE_BASE * 2 ^ 13) (32 * s.spillSize) ||
      overlap ab as_ (s.gf F.EVR_SPILL_BASE_BASE * 2 ^ 13) (32 * s.spillSize)))

/-- Formatting starts (R147): the header becomes invalid and every slot NEVER_SET. -/
def State.formatStart (s : State) : State :=
  let s := s.putHeader none
  let (b, n) := s.loftRegion
  let s : State := { s with mem := s.mem.clearRange (dramBase + b) (dramBase + b + n), ecc := s.ecc.clearRange (dramBase + b) (dramBase + b + n) }
  let s := s.sfs [(F.LFT_STAT_FORMATTING, 1), (F.LFT_STAT_READY, 0), (F.LFT_STAT_RESUMED, 0), (F.LFT_STAT_EXHAUSTED, 0)]
  (s.setLft { s.lft with sealed := 0, opn := none, closed := [], writes := [], work := 1, repl := [], next := none }).setReg R.LFT_EPOCH_LO 0

/-- The resume header is read (R148). -/
def State.resumeStart (s : State) : State := s.setLft { s.lft with work := 2, opn := none, next := none }

/-- The loft becomes READY with epoch `o` open, unless it is a replica (R153, R174). -/
def State.lftGo (s : State) (o : Option Nat) : State :=
  let s := (s.setLft { s.lft with work := 0, opn := if s.bf F.LFT_CTL_REPLICA then none else o }).sfs
    [(F.LFT_STAT_FORMATTING, 0), (F.LFT_STAT_READY, 1)]
  if s.lft.opn.isSome then s.gridStart else s

/-- EN = 1 (R144, R147, R148): formats, or reads the header where RESUME is 1 and this is not the first enable. -/
def lftEnable (s : State) : State :=
  if s.bf F.LFT_STAT_RST_BUSY ∨ s.lftEn then s
  else if !s.lftPlaceOk then s.lftRej
  else
    let res := s.bf F.LFT_CTL_RESUME && s.lft.enabled
    let s := (s.sf F.LFT_CTL_EN 1).setLft { s.lft with enabled := true }
    if s.lftShed then s.setLft { s.lft with redo := if res then 2 else 1 }
    else if res then s.resumeStart else s.formatStart

/-- FORMAT_DONE (R147): the header names epoch 0, the loft is READY with epoch 1 open. -/
def formatDone (s : State) : State :=
  if s.lft.work ≠ 1 ∨ !s.lftRuns ∨ !s.dramUp then s else (s.setSealed 0).lftGo (some 1)

/-- RESUME_DONE (R148, R447): the header is intact and names this loft, else the loft formats. -/
def resumeDone (s : State) : State :=
  if s.lft.work ≠ 2 ∨ !s.lftRuns ∨ !s.dramUp then s
  else match s.lftRead s.hdrAddr 32 false with
  | (s, false) => s.formatStart
  | (s, true) => match s.header with
    | none => s.formatStart
    | some h =>
      if h.size ≠ s.gf F.LFT_CFG_SIZE_LOG2 ∨ h.base ≠ s.gf F.LFT_LOFT_BASE_BASE ∨ h.aux ≠ s.gf F.LFT_AUX_BASE_BASE then s.formatStart
      else
        let s := (s.newSealed h.top).sf F.LFT_STAT_RESUMED 1
        let s := s.setLft { s.lft with cuts := s.lft.cuts ++ [(s.loftRegion.1, h.top)], closed := [], writes := [], repl := [] }
        if h.top = lastEpoch then (s.exhausted).lftGo none else s.lftGo (some (h.top + 1))

/-- Pins and views are released, transactions aborted, unsealed commits lost, sweeps end with RESET (R149, R171). -/
def State.lftStop (s : State) : State :=
  let s := s.setLft { s.lft with txns := [], pins := [], views := List.replicate 16 none, held := [], writes := [], closed := [], opn := none,
                                 next := none, extra := none, work := 0, redo := 0, repl := [], inbox := [] }
  let s := (List.range 16).foldl (fun s h => s.sf (F.LFT_HVIEW_STAT_VALID h) 0) s
  let s := s.sfs [(F.LFT_STAT_READY, 0), (F.LFT_STAT_FORMATTING, 0), (F.LFT_STAT_EXHAUSTED, 0)]
  ([0, 1].foldl (fun s c => s.sweepDrop c 5) s).lftSettle

/-- EN = 0 (R149). -/
def lftDisable (s : State) : State :=
  if s.bf F.LFT_STAT_RST_BUSY ∨ !s.lftEn then s else (s.sf F.LFT_CTL_EN 0).lftStop

/-- REPLICA (R174): replica mode has no open epoch; leaving it opens S + 1 and starts the grid. -/
def replicaWrite (v : Bool) (s : State) : State :=
  if s.bf F.LFT_STAT_RST_BUSY ∨ v = s.bf F.LFT_CTL_REPLICA then s
  else
    let s := s.sf F.LFT_CTL_REPLICA (b2n v)
    if !s.lftReady then s
    else if v then
      let cut := match s.lft.opn with | some o => [(s.loftRegion.1, o - 1)] | none => []
      s.setLft { s.lft with opn := none, next := none, extra := none, cuts := s.lft.cuts ++ cut,
                            writes := s.lft.writes.filter (fun w => s.lft.opn != some w.epoch) }
    else if lastEpoch ≤ s.lft.sealed then s.setLft { s.lft with inbox := [] }
    else (s.setLft { s.lft with opn := some (s.lft.sealed + 1), inbox := [] }).gridStart

/-- A replicated version of point `p` is written (R174, R272). -/
def State.replicaVer (s : State) (e : Nat) (r : Nat × BitVec 256) : State :=
  if s.points ≤ r.1 then s else (s.applyVer e r.1 r.2).dramAsk cLFT 2

/-- The replica goes back to epoch `e`, which a re-synchronisation names: later versions hold nothing any more, later pins are broken
(R273, log 149). -/
def State.replicaBack (s : State) (e : Nat) : State :=
  if s.lft.sealed ≤ e then s
  else (s.setLft { s.lft with cuts := s.lft.cuts ++ [(s.loftRegion.1, e)] }).breakPins (fun p => e < p.epoch)

/-- Write and seal one epoch of the partner (R174, R272, R273); one that is not above the newest sealed epoch is taken from a
re-synchronisation only. -/
def State.replicaTake (s : State) (x : Nat × List (Nat × BitVec 256) × Bool) : State :=
  if !x.2.2 && x.1 ≤ s.lft.sealed then s
  else (x.2.1.foldl (fun s r => s.replicaVer x.1 r) (if x.2.2 then s.replicaBack x.1 else s)).sealOne x.1 s.tick

/-- The epochs of the partner that wait are written and sealed, once every epoch closed before is sealed (R154, R174). -/
def State.replicaRun (s : State) : State :=
  if !s.lftReady ∨ !s.bf F.LFT_CTL_REPLICA ∨ !s.lftRuns ∨ !s.dramUp ∨ !s.dramIdle cLFT ∨ !s.lft.closed.isEmpty then s
  else s.lft.inbox.foldl State.replicaTake (s.setLft { s.lft with inbox := [] })

/-- REPLICA_EPOCH (R174, R272, R273): an epoch of the partner arrives, or the epoch that a re-synchronisation's sweep carried (`resync`);
it is sealed when its last version is written. -/
def replicaEpoch (e : Nat) (vs : List (Nat × BitVec 256)) (resync : Bool) (s : State) : State :=
  if !s.lftReady ∨ !s.bf F.LFT_CTL_REPLICA ∨ lastEpoch < e then s
  else (s.setLft { s.lft with inbox := s.lft.inbox ++ [(e, vs, resync)] }).replicaRun

/-! ### Views (R164, R165) -/

/-- Release a view's pin. -/
def State.viewRelease (s : State) (h : Nat) : State :=
  ((s.setLft { s.lft with views := setAt s.lft.views h none }).sf (F.LFT_HVIEW_STAT_VALID h) 0).pruneHold

/-- PIN (R164): pin view `h` on the newest sealed epoch. -/
def viewPin (h : Nat) (s : State) : State :=
  if s.bf F.LFT_STAT_RST_BUSY then s
  else
    let s := s.viewRelease h
    if s.pinRefused || s.fenced 0x20 then s.lftRej
    else
      let s := s.setLft { s.lft with views := setAt s.lft.views h (some (s.newPin h 0)), vep := setAt s.lft.vep h s.lft.sealed }
      s.sfs [(F.LFT_HVIEW_STAT_VALID h, 1), (F.LFT_HVIEW_STAT_TAG h, s.gf (F.LFT_HVIEW_STAT_TAG h) + 1),
        (F.LFT_HVIEW_EPOCH_LO_EPOCH h, s.lft.sealed)]

/-- UNPIN (R164). -/
def viewUnpin (h : Nat) (s : State) : State := if s.bf F.LFT_STAT_RST_BUSY then s else s.viewRelease h

/-- A write of LFT_HVIEW_CTL[h]: PIN takes precedence. -/
def viewCtl (h v : Nat) (s : State) : State := if bit v 0 then viewPin h s else if bit v 1 then viewUnpin h s else s

/-- The bytes of one point as a view shows it, from byte `o` (R165). -/
def State.viewPoint (s : State) (h p o n : Nat) : State × List Byte :=
  let ff := List.replicate n (0xFF : Byte)
  match s.lft.views.getD h none with
  | none => (s, ff)
  | some x =>
    if !s.pinLive x ∨ s.points ≤ p ∨ s.fenced 0x20 ∨ s.bf F.LFT_STAT_RST_BUSY then (s, ff)
    else match s.readVer p x.epoch with
      | (s, .ok v) => (s, sliceB (leBytes 32 v.toNat) o n)
      | (s, _) => (s, ff)

/-- Bytes from offset `o` of a view, point by point. -/
def State.viewBytes (s : State) (h : Nat) : Nat → Nat → Nat → State × List Byte
  | 0, _, _ => (s, [])
  | _ + 1, _, 0 => (s, [])
  | f + 1, o, n =>
    let k := min n (32 - o % 32)
    let (s, a) := s.viewPoint h (s.gf (F.LFT_HVIEW_BASE_BASE h) * 32768 + o / 32) (o % 32) k
    let (s, b) := s.viewBytes h f (o + k) (n - k)
    (s, a ++ b)

/-- VIEW_READ (R165): a host read of `n` bytes at offset `o` of the loft window; an uncorrected error fills the point with FF. -/
def viewRead (o n : Nat) (s : State) : State :=
  let (s, l) := s.viewBytes (o / 0x100000 % 16) n (o % 0x100000) n
  s.emit .hostRead 1 l

/-! ### Supply and resets (R170, R171) -/

/-- Entry to SH2 (R170): a boundary on the next tick, or where a fence holds LFT (R172) when it ends; refusals; running sweeps end with
SHED; format or resume work stops. -/
def State.lftShedEnter (s : State) : State :=
  let bound := s.lftReady && s.lft.opn.isSome && !s.bf F.LFT_CTL_REPLICA
  let s := s.sfs [(F.LFT_STAT_SHED, 1), (F.LFT_STAT_SHED_SEALED, 0), (F.LFT_STAT_FORMATTING, 0)]
  let s := s.setLft { s.lft with redo := if s.lft.work = 0 then s.lft.redo else s.lft.work, work := 0, shedB := !bound,
                                 extra := if bound then some (s.tick + 1) else none }
  [0, 1].foldl (fun s c => if s.swpState c = 1 ∨ s.swpState c = 2 then s.sweepEnding c 3 else s) s

/-- Is the SH2 seal durable: the boundary placed and every closed epoch sealed (R170)? -/
def State.shedSealReady (s : State) : Bool :=
  s.lftShed && !s.bf F.LFT_STAT_SHED_SEALED && (!s.lftEn || (s.lft.shedB && s.lft.closed.isEmpty))

/-- LFT's part of SHED_SEALED (R170): live pins are broken, the hold area is cleared. -/
def State.lftShedSealed (s : State) : State :=
  let s := s.breakPins (fun _ => true)
  (s.setLft { s.lft with held := [] }).sf F.LFT_STAT_SHED_SEALED 1

/-- Return above SH2 with DRAM out of self-refresh (R170). -/
def State.lftShedExit (s : State) : State :=
  let s := s.sfs [(F.LFT_STAT_SHED, 0), (F.LFT_STAT_SHED_SEALED, 0)]
  let redo := s.lft.redo
  let s := s.setLft { s.lft with redo := 0, shedB := false, extra := none }
  if redo = 1 then s.formatStart
  else if redo = 2 then s.resumeStart
  else if s.lftReady ∧ s.lft.opn.isSome then s.gridStart else s

/-- The registers of LFT return to their reset values and no captured upper half is left; a block reset keeps LOCK, configuration and the
loft map (R171). A SHED level in force still shows. -/
def State.lftRegs (s : State) (keep : Bool) : State :=
  let lock := s.gf F.LFT_CTL_LOCK
  let sh := s.gf F.LFT_STAT_SHED
  let ss := s.gf F.LFT_STAT_SHED_SEALED
  let s : State := { s with hiCap := s.hiCap.clearRange R.LFT_CTL (R.LFT_MAP_CTL 0) }
  let s := if keep then ((s.resetRegs R.LFT_CTL R.LFT_CFG).resetRegs R.LFT_EPOCH_LO (R.LFT_MAP_CTL 0)).sf F.LFT_CTL_LOCK lock
    else s.resetRegs R.LFT_CTL (R.LFT_MAP_CTL 1024)
  s.sfs [(F.LFT_STAT_SHED, sh), (F.LFT_STAT_SHED_SEALED, ss)]

/-- LFT loses everything but the slots, the newest sealed epoch in the header, and what the registers keep (R171). -/
def State.lftClear (s : State) (keep : Bool) : State :=
  let e0 := s.swpState 0 != 0
  let e1 := s.swpState 1 != 0
  let s := s.lftStop.lftRegs keep
  let s := if e0 ∧ keep then s.sfs [(F.LFT_SWP_STAT_VALID 0, 1), (F.LFT_SWP_STAT_RESULT 0, 5), (F.LFT_SWP_STAT_TAG 0, 1)] else s
  let s := if e1 ∧ keep then s.sfs [(F.LFT_SWP_STAT_VALID 1, 1), (F.LFT_SWP_STAT_RESULT 1, 5), (F.LFT_SWP_STAT_TAG 1, 1)] else s
  s.setLft { s.lft with sealed := 0, sweeps := [], vep := List.replicate 16 0 }

/-- LFT_BLOCK_RESET (R171): a write of LFT_CTL.RST or a RESET reaction. -/
def lftReset (s : State) : State :=
  if s.bf F.LFT_STAT_RST_BUSY then s
  else (((s.beginReset 0x20).endFence 0x20).lftClear true).sf F.LFT_STAT_RST_BUSY 1

/-- The block reset ends (R171): the FCU's tail starts. The held operations are answered by the caller. -/
def State.lftResetDone (s : State) : State := (s.sf F.LFT_STAT_RST_BUSY 0).endReset 0x20

/-! ### Register writes of LFT -/

/-- A write of LFT_CTL. -/
def lftCtl (v : Nat) (s : State) : State :=
  if s.bf F.LFT_STAT_RST_BUSY then s
  else if bit v 2 then lftReset (if bit v 31 then s.sf F.LFT_CTL_LOCK 1 else s)
  else
    let s := if bit v 31 then s.sf F.LFT_CTL_LOCK 1 else s
    let s := replicaWrite (bit v 3) (s.sf F.LFT_CTL_RESUME (bits v 4 4))
    let s := if bit v 0 then lftEnable s else lftDisable s
    if bit v 1 then sealReq s else s

/-- A write of an LFT register without side effects beyond its checks. -/
def lftWrite (off v : Nat) (s : State) : State :=
  let lock := s.bf F.LFT_CTL_LOCK
  if s.bf F.LFT_STAT_RST_BUSY ∧ off ≠ R.LFT_STAT then s
  else if off = R.LFT_CFG ∨ off = R.LFT_LOFT_BASE ∨ off = R.LFT_AUX_BASE then
    if lock then s else if s.lftEn then s.lftRej else s.plainWrite off v false
  else if off = R.LFT_SEAL_CFG then
    let n := bits v 23 0
    if lock then s else if n < 1000 ∨ 10000000 < n then s.lftRej else s.plainWrite off v false
  else if off = R.LFT_SWP_Q 0 ∨ off = R.LFT_SWP_Q 1 then
    if s.swpState ((off - R.LFT_SWP_Q 0) / 0x40) ≠ 0 then s.lftRej else s.plainWrite off v false
  else s.plainWrite off v lock

end Sys2Proof.Machine
end

