-- ==== Sys2Proof/Machine/Queue.lean ====
section
/-! DEFINITION. QM (spec/13): doorbells, pair states, completions, admin commands, queue operations, interrupts. The transfer of
frames between host memory and the yard stands in Machine/Host.lean. -/
namespace Sys2Proof.Machine

/-- Index of the admin pair in `QmSt.pair`. -/
def admPair : Nat := 65536

/-- Queue number of a pair (R315). -/
def pairQueue (i : Nat) : Nat := if i = admPair then 0xFFFF else 0x1000 + i

/-- QM processes work: enabled, powered, not fenced, not in block reset (R335). -/
def State.qmRuns (s : State) : Bool :=
  s.bf F.QM_CTL_EN && !(s.fenced 0x1D || s.fenced 0x1E) && !s.bf F.QM_STAT_RST_BUSY && s.gf F.PWR_STAT_SH < 3

/-! ### Interrupts (R332, R333) -/

/-- Signal a pair's vector. -/
def State.signalPair (s : State) (i : Nat) : State :=
  let p := s.pairOf i
  let s := s.setPair i { p with unsig := 0 }
  if p.noInt then s else { s with irq := s.signal p.vector }

/-- Write a pair's index word (R332). -/
def State.indexWord (s : State) (i : Nat) : State :=
  let p := s.pairOf i
  let s := s.hostPost p.idxAddr (leBytes 2 p.cqP ++ leBytes 2 p.sqC)
  s.setPair i { p with idxDue := false, batch := false, idxAt := s.tick }

/-- Does a write that QM makes now go straight to PCIe, behind none that waits (R99, R334)? -/
def State.postsGo (s : State) : Bool := s.dmaOk && s.qm.posted.isEmpty

/-- INDEX_WORD (R332): the index word, at most once a µs where only the SQ consumer index has moved; then the signal when COAL_CNT
completions are unsignalled or no delay is allowed. -/
def indexWordStep (i : Nat) (s : State) : State :=
  let p := s.pairOf i
  if !p.idxDue ∨ !s.qmRuns ∨ !s.postsGo ∨ (!p.batch ∧ p.idxAt ≠ 0 ∧ s.tick < p.idxAt + 250) then s
  else
    let s := s.indexWord i
    if p.unsig ≠ 0 ∧ (max 1 p.coalCnt ≤ p.unsig ∨ p.oldest + 250 * p.coalUs ≤ s.tick) then s.signalPair i else s

/-- COALESCE_TIMEOUT (R332): COAL_US have passed since the oldest unsignalled completion. -/
def coalesceTimeout (i : Nat) (s : State) : State :=
  let p := s.pairOf i
  if p.unsig = 0 ∨ p.idxDue ∨ s.tick < p.oldest + 250 * p.coalUs ∨ !s.qmRuns ∨ !s.postsGo then s else s.signalPair i

/-- Writes that waited are issued in order (R334, R335). -/
def State.flushPosted (s : State) : State :=
  if s.dmaOk then
    let l := s.qm.posted
    l.foldl (fun s w => s.hostW w.1 w.2) { s with qm := { s.qm with posted := [] } }
  else s

/-- Deliveries that waited and need wait no longer are made in order (log 20). -/
def State.flushHeld (s : State) : State :=
  (s.qm.held.filter (fun w => !s.heldOff w.1)).foldl (fun s w => (s.deliverOr w.1 w.2.1 w.2.2).1)
    { s with qm := { s.qm with held := s.qm.held.filter (fun w => s.heldOff w.1) } }

/-- CONFIGURATION_WRITE (R333, R334): the host writes Bus Master Enable, MSI-X enable, the function mask or a vector's mask.
`kind` 0: BME; 1: MSI-X enable; 2: function mask; 3: mask of vector `v`. -/
def configWrite (kind v : Nat) (b : Bool) (s : State) : State :=
  let s : State := if kind = 0 then s.sf F.QM_PCIE_STAT_BME (b2n b)
    else if kind = 1 then s.sf F.QM_PCIE_STAT_MSIX_EN (b2n b)
    else if kind = 2 then { s with qm := { s.qm with funcMask := b } }
    else { s with qm := { s.qm with vecMask := setBits s.qm.vecMask v v (b2n b) } }
  let s := s.flushPosted
  if !s.msixMode || s.qm.funcMask || !s.bf F.QM_PCIE_STAT_BME then s
  else
    let out := (List.range 64).filter (fun v => bit s.irq.pend v && !bit s.qm.vecMask v)
    { s with irq := { s.irq with pend := out.foldl (fun m v => setBits m v v 0) s.irq.pend, sent := s.irq.sent ++ out } }

/-! ### Completions and the ERROR state (R321, R331) -/

/-- A completion entry (R331). -/
def complBytes (idx tag status flags len result user : Nat) (stamp : List Byte) : List Byte :=
  leBytes 2 idx ++ leBytes 2 tag ++ leBytes 1 status ++ leBytes 1 flags ++ leBytes 2 len ++ leBytes 8 result ++ leBytes 8 user ++
    leBytes 8 0 ++ sliceB stamp 0 32

/-- Release a port's time-stamp entry. -/
def State.tsRelease (s : State) (p tag : Nat) : State :=
  let q := s.eth.get (fun _ => Port.init) p
  { s with eth := s.eth.set (fun _ => Port.init) p { q with tsq := q.tsq.filter (fun e => e.tag != tag) } }

/-- A pair enters ERROR (R321). `fail`: index and tag of the failing entry; a bad doorbell has none. Where writes wait, the index word and
the signal wait behind them (R99). -/
def State.pairError (s : State) (i status : Nat) (fail : Option (Nat × Nat)) : State :=
  let s := match fail with
    | some (idx, tag) => if (s.pairOf i).cqFree = 0 then s else s.cqWrite i (complBytes idx tag status 3 0 0 0 [])
    | none => s
  let s := s.setPair i { s.pairOf i with state := 4, err := status }
  let s := if s.postsGo then (s.indexWord i).signalPair i
    else s.setPair i { s.pairOf i with idxDue := true, batch := true, unsig := max (max 1 (s.pairOf i).coalCnt) (s.pairOf i).unsig }
  let s := (s.pairOf i).tsWait.foldl (fun s w => s.tsRelease w.port w.tsTag) s
  let s := s.setPair i { s.pairOf i with ents := [], d2h := [], tsWait := [] }
  let s := (s.raise 0x1E (if status = 0x16 then kTIMEOUT else kPROTOCOL) 0).logRec 0x1D 0x10D1 (pairQueue i) status
  s.sweepQueueLost (pairQueue i)

/-- A time-stamp entry of port `p` is DONE or NOT_SENT: the completion of the host frame that waits for it is written, and the
entry released (R197, R326). -/
def State.tsSettled (s : State) (p : Nat) (e : TsEnt) : State :=
  s.qm.pair.keys.foldl (fun s i =>
    match (s.pairOf i).tsWait.find? (fun w => w.port == p && w.tsTag == e.tag) with
    | none => s
    | some w =>
      let ok := e.st == 1
      let s := s.setPair i { s.pairOf i with tsWait := (s.pairOf i).tsWait.filter (fun x => x != w) }
      let s := s.cqWrite i (complBytes w.idx w.tag (if ok then 0 else 1) (if ok then 7 else 3) (if ok then w.len else w.len) 0 0
        (if ok then leBytes 32 e.stamp.toNat else []))
      s.tsRelease p e.tag) s

/-! ### Doorbells (R317, R319, R320) -/

/-- A bad doorbell (R317, R321). -/
def State.badDoorbell (s : State) (i : Nat) : State := (s.incf F.QM_CNT_BAD_DB_COUNT).pairError i 0x1D none

/-- SQ_DOORBELL (R317): the host moves the SQ producer index. -/
def sqDoorbell (i idx : Nat) (s : State) : State :=
  let p := s.pairOf i
  if p.state ≠ 1 then s
  else
    let n := 2 * 2 ^ p.nSq
    let now := (p.sqP + 0x10000 - p.sqC) % 0x10000 % n
    let new := (idx + 0x10000 - p.sqC) % 0x10000 % n
    if new < now ∨ 2 ^ p.nSq < new then s.badDoorbell i
    else if idx = p.sqP then s
    else s.setPair i { p with sqP := idx, gen := (p.gen + 1) % 256 }

/-- CQ_DOORBELL (R317): the host moves the CQ consumer index. -/
def cqDoorbell (i idx : Nat) (s : State) : State :=
  let p := s.pairOf i
  if p.state = 0 ∨ p.state = 4 then s
  else
    let n := 2 * 2 ^ p.nCq
    let held := (p.cqP + 0x10000 - p.cqC) % 0x10000 % n
    let new := (idx + 0x10000 - p.cqC) % 0x10000 % n
    if held < new then s.badDoorbell i else s.setPair i { p with cqC := idx }

/-- DISABLE (R319): an ENABLED pair starts draining; in any other state the write is discarded. -/
def pairDisable (i : Nat) (s : State) : State :=
  let p := s.pairOf i
  if p.state = 1 then s.setPair i { p with state := 2 } else s

/-- A write of QM_QP_DB[i] or QM_ADM_DB. -/
def doorbellWrite (i v : Nat) (s : State) : State :=
  match bits v 31 30 with
  | 0 => sqDoorbell i (bits v 15 0) s
  | 1 => cqDoorbell i (bits v 15 0) s
  | 2 => pairDisable i s
  | _ => s

/-- Return the covered buffers of a draining RX or D2H pair as FLUSHED, while the CQ has room (R320). -/
def State.flushBufs (s : State) (i : Nat) : List SqEnt → State
  | [] => s
  | e :: es =>
    if (s.pairOf i).cqFree = 0 then s
    else
      let s := s.setPair i { s.pairOf i with ents := es }
      (s.cqWrite i (complBytes e.idx (leNat (sliceB e.data 2 2)) 0x19 0 0 0 0 [])).flushBufs i es

/-- DRAIN_DONE (R320): a draining pair's work has finished; its unfilled buffers are returned and it becomes IDLE. -/
def drainDone (i : Nat) (s : State) : State :=
  let p := s.pairOf i
  if p.state ≠ 2 ∨ p.sqP ≠ p.sqC ∨ !s.qmRuns then s
  else
    let s := if (p.kind = 1 ∨ p.kind = 2) ∧ p.d2h = [] then s.flushBufs i p.ents else s
    let p := s.pairOf i
    if p.ents = [] ∧ p.tsWait = [] ∧ p.d2h = [] ∧ !(i = admPair ∧ s.qm.cmds.any (!·.fromRegs)) then s.setPair i { p with state := 3 } else s

/-! ### SQ fetches (R318) -/

/-- SQ_FETCH_RETURN (R318): the read of the next SQ entry of a pair returns. `cov`: its index was below P when the read was
issued; an entry that was not covered is discarded. Bytes are those of host memory. -/
def sqFetchReturn (i : Nat) (cov : Bool) (s : State) : State :=
  let p := s.pairOf i
  if !cov ∨ !(p.state = 1 ∨ p.state = 2) ∨ p.sqP = p.sqC ∨ !s.qmRuns ∨ !s.dmaOk then s
  else
    let n := entSize p.sqWide
    let l := s.hostB (p.sqBase + p.sqC % 2 ^ p.nSq * n) n
    let s := s.setPair i { p with sqC := idxNext p.sqC, idxDue := true, ents := if i = admPair then p.ents else p.ents ++ [⟨p.sqC, l⟩] }
    if i = admPair then { s with qm := { s.qm with cmds := s.qm.cmds ++ [⟨false, p.sqC, l⟩] } } else s

/-- HOST_TIMEOUT (R334): a QM read for pair `i` times out (`tmo`) or fails: of the next SQ entry, or of the data of the oldest
entry fetched. A tag that was never read is a free value. -/
def hostTimeout (i : Nat) (tmo : Bool) (s : State) : State :=
  let p := s.pairOf i
  if !(p.state = 1 ∨ p.state = 2) ∨ !s.qmRuns ∨ !s.dmaOk then s
  else
    let s := if tmo then s.incf F.QM_CNT_HOST_TMO_COUNT else s.incf F.QM_CNT_HOST_ERR_COUNT
    let st := if tmo then 0x16 else 0x17
    match p.ents with
    | e :: _ => s.pairError i st (some (e.idx, leNat (sliceB e.data 2 2)))
    | [] => (s.useFree).pairError i st (some (p.sqC, s.freeBits.toNat % 65536))

/-! ### Admin commands (R322, R323) -/

/-- Are bytes `lo` to below `hi` of an entry zero? -/
def zeroB (l : List Byte) (lo hi : Nat) : Bool := (sliceB l lo (hi - lo)).all (· == 0)

/-- A field of an entry. -/
def fieldB (l : List Byte) (o n : Nat) : Nat := leNat (sliceB l o n)

/-- The pair a QID names, if any. -/
def qidPair (q : Nat) : Option Nat := if q < 4096 then some q else if q = 0xFFFF then some admPair else none

/-- Deliver a command's STATUS and result, and take it off the list. -/
def State.admDone (s : State) (c : AdmCmd) (status result : Nat) : State :=
  let s : State := { s with qm := { s.qm with cmds := s.qm.cmds.drop 1 } }
  if c.fromRegs then
    s.sfs [(F.QM_CMD_RES_VALID, 1), (F.QM_CMD_RES_TAG, s.gf F.QM_CMD_RES_TAG + 1), (F.QM_CMD_RES_STATUS, status),
      (F.QM_CMD_RES_W_WORD 0, result), (F.QM_CMD_RES_W_WORD 1, result / 2 ^ 32)]
  else if (s.pairOf admPair).state = 1 ∨ (s.pairOf admPair).state = 2 then
    s.cqWrite admPair (complBytes c.idx (fieldB c.data 2 2) status 3 0 result 0 [])
  else s

/-- Can the front command be executed now: registers, or room in the admin CQ? -/
def State.admFront (s : State) : Option AdmCmd :=
  match s.qm.cmds with
  | [] => none
  | c :: _ => if !s.qmRuns || (!c.fromRegs && (s.pairOf admPair).cqFree == 0) then none else some c

/-- Commands whose OP no row of R323 has end with RANGE as they reach the front. -/
def State.admSkip (s : State) : Nat → State
  | 0 => s
  | n + 1 => match s.admFront with
    | none => s
    | some c => if 1 ≤ fieldB c.data 0 1 ∧ fieldB c.data 0 1 ≤ 7 then s else (s.admDone c 0x13 0).admSkip n

/-- Run the front command when its OP is `op`: `f` gives the new state, STATUS and result. -/
def admRun (op : Nat) (f : List Byte → State → State × Nat × Nat) (s : State) : State :=
  match s.admFront with
  | none => s
  | some c =>
    if fieldB c.data 0 1 ≠ op then s
    else
      let (s, st, r) := f c.data s
      (s.admDone c st r).admSkip (s.qm.cmds.length)

/-- Are the pair parameters in range (R323)? -/
def pairParamsOk (l : List Byte) : Bool :=
  let kind := fieldB l 6 1
  let sz := fieldB l 7 1
  (if fieldB l 4 2 == 0xFFFF then kind == 4 else fieldB l 4 2 < 4096 && kind < 4) && fieldB l 1 1 == 0 && 4 ≤ sz % 16 && 4 ≤ sz / 16 &&
    fieldB l 8 8 % 4096 == 0 && fieldB l 16 8 % 4096 == 0 && fieldB l 24 8 % 4 == 0 &&
    (if kind == 4 then fieldB l 32 1 == 1 else fieldB l 32 1 < 4) && !bit (fieldB l 33 1) 6 && zeroB l 38 64

/-- CREATE_PAIR. -/
def createPairCmd (l : List Byte) (s : State) : State × Nat × Nat :=
  if !pairParamsOk l then (s, 0x13, 0)
  else
    let i := (qidPair (fieldB l 4 2)).getD 0
    if (s.pairOf i).state ≠ 0 then (s, 0x1A, 0)
    else
      let p := { Pair.none with
        state := 1, kind := fieldB l 6 1, nSq := fieldB l 7 1 % 16, nCq := fieldB l 7 1 / 16, sqBase := fieldB l 8 8,
        cqBase := fieldB l 16 8, idxAddr := fieldB l 24 8, sqWide := bit (fieldB l 32 1) 0, cqWide := bit (fieldB l 32 1) 1,
        vector := fieldB l 33 1 % 64, noInt := bit (fieldB l 33 1) 7, coalCnt := fieldB l 34 2, coalUs := fieldB l 36 2 }
      (s.setPair i p, 0, 0)

/-- The common checks of a command on an existing pair: RANGE, NO_QUEUE, BUSY. -/
def State.pairCheck (s : State) (l : List Byte) (zero : Bool) (allow : List Nat) : Except Nat Nat :=
  match qidPair (fieldB l 4 2) with
  | none => .error 0x13
  | some i =>
    if fieldB l 1 1 ≠ 0 ∨ !zero then .error 0x13
    else if (s.pairOf i).state = 0 then .error 0x1C
    else if !allow.contains (s.pairOf i).state then .error 0x1B
    else .ok i

/-- DESTROY_PAIR. -/
def destroyPairCmd (l : List Byte) (s : State) : State × Nat × Nat :=
  match s.pairCheck l (zeroB l 6 64) [3, 4] with
  | .error e => (s, e, 0)
  | .ok i => ((s.setPair i Pair.none).sweepQueueLost (pairQueue i), 0, 0)

/-- RESET_QUEUE. -/
def resetQueueCmd (l : List Byte) (s : State) : State × Nat × Nat :=
  match s.pairCheck l (zeroB l 6 64) [3, 4] with
  | .error e => (s, e, 0)
  | .ok i =>
    let p := s.pairOf i
    (s.setPair i { p with state := 1, err := 0, sqP := 0, sqC := 0, cqP := 0, cqC := 0, ents := [], d2h := [], tsWait := [], unsig := 0,
                          idxDue := false, batch := false }, 0, 0)

/-- CREATE_IQ. -/
def createIqCmd (l : List Byte) (s : State) : State × Nat × Nat :=
  let q := fieldB l 4 2
  let ev := fieldB l 6 1
  let n := fieldB l 7 1
  let wide := fieldB l 32 1
  let size := 2 ^ n * (if wide = 1 then 64 else 32)
  if 4096 ≤ q ∨ fieldB l 1 1 ≠ 0 ∨ 1 < ev ∨ n < 4 ∨ 15 < n ∨ 1 < wide ∨ (ev = 1 ∧ wide = 1) ∨ fieldB l 8 8 % size ≠ 0 ∨
      s.usable < fieldB l 8 8 + size ∨ !zeroB l 16 32 ∨ !zeroB l 33 64 then (s, 0x13, 0)
  else if (s.iq q).made then (s, 0x1A, 0)
  else (s.setIq q { made := true, event := ev == 1, log2N := n, base := fieldB l 8 8, wide := wide == 1, p := 0, c := 0 }, 0, 0)

/-- DESTROY_IQ: the result is the number of entries discarded. -/
def destroyIqCmd (l : List Byte) (s : State) : State × Nat × Nat :=
  let q := fieldB l 4 2
  if 4096 ≤ q ∨ fieldB l 1 1 ≠ 0 ∨ !zeroB l 6 64 then (s, 0x13, 0)
  else if !(s.iq q).made then (s, 0x1C, 0)
  else
    let v := s.iq q
    (((s.setIq q Iq.none).endQWaits q 0x12).sweepQueueLost q, 0, ringHeld v.log2N v.p v.c)

/-- QUERY. -/
def queryCmd (l : List Byte) (s : State) : State × Nat × Nat :=
  if fieldB l 6 1 = 1 then
    let q := fieldB l 4 2
    if 4096 ≤ q ∨ fieldB l 1 1 ≠ 0 ∨ !zeroB l 7 64 then (s, 0x13, 0)
    else
      let v := s.iq q
      if !v.made then (s, 0x1C, 0) else (s, 0, 1 + ringHeld v.log2N v.p v.c * 2 ^ 16)
  else match s.pairCheck l (zeroB l 6 64) [1, 2, 3, 4] with
    | .error e => (s, e, 0)
    | .ok i =>
      let p := s.pairOf i
      (s, 0, p.state + p.gen * 2 ^ 8 + p.sqC * 2 ^ 16 + p.sqP * 2 ^ 32 + p.cqP * 2 ^ 48)

/-- SET_IRQ. -/
def setIrqCmd (l : List Byte) (s : State) : State × Nat × Nat :=
  match s.pairCheck l (zeroB l 6 33 && zeroB l 38 64 && !bit (fieldB l 33 1) 6) [1, 2, 3, 4] with
  | .error e => (s, e, 0)
  | .ok i =>
    let p := s.pairOf i
    (s.setPair i { p with vector := fieldB l 33 1 % 64, noInt := bit (fieldB l 33 1) 7, coalCnt := fieldB l 34 2, coalUs := fieldB l 36 2 }, 0, 0)

/-- A write of QM_CMD_GO (R322): the 64 bytes of QM_CMD_W become a command; discarded while one from the registers runs. -/
def cmdGo (v : Nat) (s : State) : State :=
  if !bit v 0 then s
  else if s.qm.cmds.any (·.fromRegs) then s.sf F.QM_STAT_CFG_REJ 1
  else
    let l := (List.range 16).foldl (fun l w => l ++ leBytes 4 (s.reg (R.QM_CMD_W w))) []
    let s := s.sf F.QM_CMD_RES_VALID 0
    let s : State := { s with qm := { s.qm with cmds := s.qm.cmds ++ [⟨true, 0, l⟩] } }
    s.admSkip s.qm.cmds.length

/-! ### Queue operations (R328 to R330) -/

/-- Is QM fenced for Q instructions? -/
def State.qFenced (s : State) : Bool := s.fenced 0x1D || s.fenced 0x1E

/-- Entry size of a queue for a thread's Q.GET (`get`) or Q.PUT. -/
def State.qEntSize (s : State) (q : Nat) (get : Bool) : Nat :=
  if q < 0x1000 then entSize (s.iq q).wide
  else let p := s.pairOf (q - 0x1000); if p.kind = 3 then entSize (if get then p.sqWide else p.cqWide) else 32

/-- Result of taking an entry. -/
inductive GetRes where
  | got (l : List Byte) (left : Nat)
  | empty
  | bad
  | memErr
  deriving DecidableEq, Repr

/-- Take the oldest entry of a queue (R329). -/
def State.qTake (s : State) (q : Nat) : State × GetRes :=
  if q < 0x1000 then
    let v := s.iq q
    if !v.made then (s, .bad)
    else if ringHeld v.log2N v.p v.c = 0 then (s, .empty)
    else
      let n := entSize v.wide
      let a := dramBase + v.base + v.c % 2 ^ v.log2N * n
      let (s, ue) := s.dramScan a n
      let s := (s.setIq q { v with c := idxNext v.c }).dramAsk cQM 1
      if ue.isSome then (s.sf F.QM_STAT_MEM_UE 1, .memErr) else (s, .got (s.rdB a n) (ringHeld v.log2N v.p (idxNext v.c)))
  else if q < 0x2000 then
    let i := q - 0x1000
    let p := s.pairOf i
    if p.kind ≠ 3 ∨ !(p.state = 1 ∨ p.state = 2) then (s, .bad)
    else match p.ents with
      | [] => (s, .empty)
      | e :: es => (s.setPair i { p with ents := es }, .got e.data (es.length + ringHeld p.nSq p.sqP p.sqC))
  else (s, .bad)

/-- Q.PUT (R328, R329): STATUS. -/
def State.qPut (s : State) (q : Nat) (l : List Byte) : State × Nat :=
  if s.qFenced then (s, 0x25)
  else if q < 0x1000 then
    let v := s.iq q
    if !v.made then (s, 0x12)
    else if ringHeld v.log2N v.p v.c ≥ 2 ^ v.log2N then (s, 0x11)
    else (s.iqAppend q l, 0)
  else if q < 0x2000 then
    let i := q - 0x1000
    let p := s.pairOf i
    if p.kind = 2 then
      if p.state ≠ 1 then (s, 0x12)
      else if 64 ≤ p.d2h.length then (s, 0x11)
      else (s.setPair i { p with d2h := p.d2h ++ [sliceB l 0 32] }, 0)
    else if p.kind ≠ 3 ∨ !(p.state = 1 ∨ p.state = 2) then (s, 0x12)
    else if p.cqFree = 0 then (s, 0x11)
    else (s.cqWrite i l, 0)
  else (s, 0x12)

/-- Q.SIG (R330): STATUS. -/
def State.qSig (s : State) (q value t : Nat) : State × Nat :=
  let v := s.iq q
  if s.qFenced then (s, 0x25)
  else if 0x1000 ≤ q ∨ !v.made ∨ !v.event then (s, 0x12)
  else if ringHeld v.log2N v.p v.c ≥ 2 ^ v.log2N then (s, 0x11)
  else (s.iqAppend q (s.eventEntry value t), 0)

/-! ### Resets of the host side (R313, R335) -/

/-- Every host pair and the admin pair enter NONE without completions. -/
def State.pairsNone (s : State) : State :=
  let l := s.qm.pair.keys
  let s : State := { s with qm := { s.qm with pair := [], cmds := s.qm.cmds.filter (·.fromRegs), posted := [] } }
  l.foldl (fun s i => s.sweepQueueLost (pairQueue i)) s

/-- QM_BLOCK_RESET (R335). -/
def qmReset (s : State) : State :=
  if s.bf F.QM_STAT_RST_BUSY then s
  else
    let s := (((s.beginReset 0x1D).endFence 0x1D).endFence 0x1E).pairsNone
    let iqs := s.qm.iq.map (fun x => (x.1, { x.2 with p := 0, c := 0 }))
    let s : State := { s with qm := { s.qm with iq := iqs, cmds := [], rstEnd := some (s.tick + 2500), held := [] } }
    s.sfs [(F.QM_CMD_RES_VALID, 0), (F.QM_STAT_RST_BUSY, 1)]

/-- A QM block reset ends 10 µs after its start. -/
def State.qmResetEnd (s : State) : State :=
  match s.qm.rstEnd with
  | none => s
  | some t =>
    if s.tick < t then s
    else (({ s with qm := { s.qm with rstEnd := none } } : State).sf F.QM_STAT_RST_BUSY 0).endReset 0x1D

/-- What QM does at a tick by itself: the end of its reset, writes and deliveries that waited, admin commands of no OP (R323, R334, R335). -/
def State.qmTick (s : State) : State :=
  let s := s.qmResetEnd.flushPosted.flushHeld
  s.admSkip s.qm.cmds.length

end Sys2Proof.Machine
end

