-- ==== Sys2Proof/Machine/Yard.lean ====
section
/-! DEFINITION. Frames, cells, tokens and delivery lists of the yard (spec/09, R204 to R225), and of a port (spec/08) its
counters, time-stamp queue and transmitted flow control (R189, R190, R195 to R201). -/
namespace Sys2Proof.Machine

/-! ### Ports -/

def State.port (s : State) (p : Nat) : Port := s.eth.get (fun _ => Port.init) p
def State.setPort (s : State) (p : Nat) (v : Port) : State := { s with eth := s.eth.set (fun _ => Port.init) p v }
def State.setYrd (s : State) (y : YrdSt) : State := { s with yrd := y }

/-- Advance port counter `c` by `n`, wrapping at 40 bits; a change of bit 39 sets its half-range bit (R199, R200). -/
def State.ethAdd (s : State) (p c n : Nat) : State :=
  let q := s.port p
  let old := q.cnt.get (fun _ => 0) c
  let new := (old + n) % 2 ^ 40
  let s := s.setPort p { q with cnt := q.cnt.set (fun _ => 0) c new }
  if old / 2 ^ 39 = new / 2 ^ 39 then s
  else s.setReg (R.ETH_HALF_STAT p (c / 32)) (s.reg (R.ETH_HALF_STAT p (c / 32)) ||| 2 ^ (c % 32))

def State.ethInc (s : State) (p c : Nat) : State := s.ethAdd p c 1

/-- Link up (R178). -/
def State.ethLink (s : State) (p : Nat) : Bool := s.bf (F.ETH_STAT_LINK p)

/-- A tenth of a nanosecond per byte in a mode (R176). -/
def byteTime (mode : Nat) : Nat := [80, 8, 80, 80, 800, 80, 800, 8000].getD mode 80

/-- Tenths of a nanosecond per byte on output `o` (R228): P9 at 15.76 Gbit/s. -/
def State.outByte (s : State) (o : Nat) : Nat := if o < 8 then byteTime (s.gf (F.ETH_STAT_ACT_MODE o)) else 5

/-- Time of `n` bytes on the line of output `o`, in tenths of a nanosecond. -/
def State.lineTime (s : State) (o n : Nat) : Nat := if o < 8 then n * s.outByte o else n * 80000 / 15760

/-- The same in ticks, rounded up. -/
def State.lineTicks (s : State) (o n : Nat) : Nat := ceilDiv (s.lineTime o n) 40

/-! ### Transmit time stamps (R195 to R198) -/

/-- Claim an entry for a frame that asks for a stamp: its tag, or 0xFFFF when all 64 are claimed. -/
def State.tsClaim (s : State) (p : Nat) : State × Nat :=
  let q := s.port p
  if q.tsq.length ≥ 64 then ((s.ethInc p 46).sf (F.ETH_INT_STAT_TSQ_OVF p) 1, 0xFFFF)
  else
    let tag := s.gf (F.ETH_TSQ_STAT_NEXT_TAG p)
    let s := s.setPort p { q with tsq := q.tsq ++ [⟨tag, 0, 0, s.tick⟩] }
    (s.sf (F.ETH_TSQ_STAT_NEXT_TAG p) (if tag = 0xFFFE then 0 else tag + 1), tag)

/-- A pending entry becomes DONE with a stamp, or NOT_SENT. -/
def State.tsSettle (s : State) (p tag : Nat) (st : Nat) (stamp : BitVec 256) : State :=
  let q := s.port p
  match q.tsq.find? (fun e => e.tag == tag && e.st == 0) with
  | none => s
  | some _ =>
    let e : TsEnt := ⟨tag, st, stamp, s.tick⟩
    let s := s.setPort p { q with tsq := q.tsq.map (fun x => if x.tag == tag && x.st == 0 then e else x) }
    let s := if st = 2 then s.ethInc p 48 else s
    s.tsSettled p e

/-- An entry that is not NOT_SENT yet becomes so: PENDING, or DONE where the frame is cut off on the line (R180). -/
def State.tsVoid (s : State) (p tag : Nat) : State :=
  let q := s.port p
  match q.tsq.find? (fun e => e.tag == tag && e.st != 2) with
  | none => s
  | some _ =>
    let e : TsEnt := ⟨tag, 2, 0, s.tick⟩
    ((s.setPort p { q with tsq := q.tsq.map (fun x => if x.tag == tag then e else x) }).ethInc p 48).tsSettled p e

/-- The frame of a token is not sent: its entry, if it has one, becomes NOT_SENT (R195). -/
def State.tsLost (s : State) (k : Token) : State :=
  match k.ts with
  | some tag => if k.out < 8 then s.tsVoid k.out tag else s
  | none => s

/-- FRM.TS (R197): STATUS; the record goes to memory address `ta`. -/
def frmTs (p tag ta : Nat) (rel : Bool) (s : State) : State × Nat :=
  if 8 ≤ p then (s, 0x13)
  else if tag = 0xFFFF then (s, 0x1E)
  else match (s.port p).tsq.find? (fun e => e.tag == tag) with
    | none => (s, 0x1F)
    | some e =>
      if e.st = 0 then (s, 0x1D)
      else
        let s := if e.st = 1 then s.wrL ta (leBytes 32 e.stamp.toNat) else s
        (if rel then s.tsRelease p tag else s, if e.st = 1 then 0 else 0x1E)

/-- TSQ_EXPIRE (R198): DONE and NOT_SENT entries of port `p` held longer than HOLD_MS are freed. -/
def tsqExpire (p : Nat) (s : State) : State :=
  let h := 250000 * s.gf (F.ETH_TSQ_CFG_HOLD_MS p)
  let old (e : TsEnt) : Bool := e.st != 0 && e.since + h ≤ s.tick
  let n := ((s.port p).tsq.filter old).length
  if h = 0 ∨ n = 0 then s
  else ((s.setPort p { s.port p with tsq := (s.port p).tsq.filter (fun e => !old e) }).ethAdd p 47 n).sf (F.ETH_INT_STAT_TSQ_EXPIRE p) 1

/-! ### Cells and frames (R204 to R206) -/

/-- Cells of `n` bytes. -/
def cellsOf (n : Nat) : Nat := ceilDiv n 256

def State.frame (s : State) (h : Nat) : Option Frame := s.yrd.frames.find? (fun f => f.handle == h)
def State.setFrame (s : State) (f : Frame) : State :=
  s.setYrd { s.yrd with frames := s.yrd.frames.map (fun x => if x.handle == f.handle then f else x) }

/-- Sum of a quantity over frames. -/
def sumBy {α : Type} (f : α → Nat) (l : List α) : Nat := l.foldl (fun n x => n + f x) 0

/-- The inputs that have a reserve: P0 to P7 and P9. -/
def inputs : List Nat := [0, 1, 2, 3, 4, 5, 6, 7, 9]

/-- H_i (R205, R206). -/
def State.heldCells (s : State) (i : Nat) : Nat := sumBy (fun f => if f.input = i then f.cells.length else 0) s.yrd.frames

/-- Cells held by frames of one priority received on a port. -/
def State.heldPri (s : State) (p i : Nat) : Nat :=
  sumBy (fun f => if f.input = p ∧ f.pri = i then f.cells.length else 0) s.yrd.frames

/-- Sum of the reserves (R205). -/
def State.reserves (s : State) : Nat := sumBy (fun i => s.gf (F.YRD_PORT_CFG_RSV i)) inputs + s.gf F.YRD_POOL_PRIV_RSV

/-- Shared cells free now (YRD_FREE.SHARED). -/
def State.sharedFree (s : State) : Nat := 32768 - s.reserves - sumBy (·.sh) s.yrd.frames - s.yrd.retired.length

/-- Record the fewest shared cells free. -/
def State.noteFree (s : State) : State :=
  if s.sharedFree < s.gf F.YRD_FREE_MIN then s.sf F.YRD_FREE_MIN s.sharedFree else s

/-- The `n` lowest free cells from index `i` on. -/
def pickCells (used : List Nat) : Nat → Nat → List Nat
  | _, 0 => []
  | i, n + 1 => match firstFrom (fun c => !used.contains c) i 32768 with
    | some c => c :: pickCells used (c + 1) n
    | none => []

/-- How many cells of each pool a request of `n` cells takes: reserve, shared, privileged; `none` where none covers it (R205).
Input 8 is FRM.NEW; `priv` its paddock's rank. -/
def State.takeCells (s : State) (input n : Nat) (priv : Bool) : Option (Nat × Nat × Nat) :=
  let free := s.sharedFree
  if input = 8 then
    let sh := min n free
    let pr := n - sh
    if pr = 0 then some (0, sh, 0)
    else if priv ∧ sumBy (·.priv) s.yrd.frames + pr ≤ s.gf F.YRD_POOL_PRIV_RSV then some (0, sh, pr) else none
  else
    let r := min n (s.gf (F.YRD_PORT_CFG_RSV input) - s.heldCells input)
    if n - r ≤ free then some (r, n - r, 0) else none

/-- Give a frame that grows with its bytes the cells it still needs (R206): `none` where R205 supplies none. -/
def State.growFrame (s : State) (f : Frame) : Option State :=
  let n := cellsOf f.data.length - f.cells.length
  match s.takeCells f.input n false with
  | none => none
  | some (r, sh, pr) =>
    let cs := pickCells (s.yrd.frames.foldl (fun l f => l ++ f.cells) s.yrd.retired) 0 n
    if cs.length ≠ n then none
    else some (s.setFrame { f with cells := f.cells ++ cs, rsv := f.rsv + r, sh := f.sh + sh, priv := f.priv + pr }).noteFree

/-- A frame in cells: `proto` gives everything but handle and cells. It starts with one reference. -/
def State.newFrame (s : State) (proto : Frame) (priv : Bool) : Option (State × Nat) :=
  let n := cellsOf proto.data.length
  match s.takeCells proto.input n priv with
  | none => none
  | some (r, sh, pr) =>
    match pickCells (s.yrd.frames.foldl (fun l f => l ++ f.cells) s.yrd.retired) 0 n with
    | [] => none
    | c :: cs =>
      if cs.length + 1 ≠ n then none
      else
        let f := { proto with handle := c, cells := c :: cs, rsv := r, sh := sh, priv := pr, refs := 1 }
        some ((s.setYrd { s.yrd with frames := s.yrd.frames ++ [f] }).noteFree, c)

/-- A frame's descriptor fields at their least. -/
def Frame.blank (input : Nat) (data : List Byte) : Frame :=
  { handle := 0, cells := [], rsv := 0, sh := 0, priv := 0, input := input, data := data, refs := 0, owner := none, pri := 0, pcp := false,
    err := false, flow := 0, fver := 0, hash := 0, stamp := 0, gen := none, bad := [], badLink := none }

/-- The destination counter: unicast, multicast, broadcast, from `base`. -/
def destCounter (base : Nat) (d : List Byte) : Nat :=
  if (sliceB d 0 6).all (· == 0xFF) then base + 2 else if bit (d.headD 0).toNat 0 then base + 1 else base

/-- Wire bytes of a frame of `n` bytes (R228). -/
def wireBytes (n : Nat) : Nat := max n 60 + 24

/-- The leaf a token waits on: its input's VOQ, or 16 + its flow queue. -/
def Token.leaf (k : Token) : Nat := match k.fq with | some f => 16 + f | none => k.input

def State.lenOf (s : State) (k : Token) : Nat := ((s.frame k.frame).map (·.data.length)).getD 0

/-! ### Flow control sent (R189, R190) -/

/-- A MAC control frame of port `p`: opcode and payload (R188, R189). -/
def State.macControl (s : State) (p opcode : Nat) (payload : List Byte) : List Byte :=
  let lo := s.gf (F.ETH_MAC_LO_ADDR p)
  let hi := s.gf (F.ETH_MAC_HI_ADDR p)
  sliceB ([0x01, 0x80, 0xC2, 0x00, 0x00, 0x01] ++ beBytes 2 hi ++ beBytes 4 lo ++ [0x88, 0x08] ++ beBytes 2 opcode ++ payload) 0 60

/-- Can port `p` send: link up and not fenced (R202)? -/
def State.canSend (s : State) (p : Nat) : Bool := s.ethLink p && !s.fenced (0x10 + p)

/-- The FCS of a frame, least significant byte first (R186; log 154). -/
def fcsOf (d : List Byte) : List Byte := leBytes 4 (crc32Of 0xFFFFFFFF d ^^^ 0xFFFFFFFF)

/-- A frame with its FCS, inverted where the frame ends bad (R187). -/
def withFcs (d : List Byte) (bad : Bool) : List Byte := d ++ if bad then (fcsOf d).map (fun b => ~~~b) else fcsOf d

/-- Is the transmit path returned to the receive path (R181, R270)? -/
def State.looped (s : State) (p : Nat) : Bool := s.bf (F.ETH_CTL_LOOP p) || (s.port p).loopEnd.isSome

/-- Something leaves the MAC: to the partner, or back to the port's own receive path (R181). `data`: without FCS, as it will be received;
`out`: the bytes that leave. -/
def State.toWire (s : State) (p : Nat) (o : Looped) (out : List Byte) : State :=
  if s.looped p then s.setPort p { s.port p with loop := (s.port p).loop ++ [o] } else s.emit o.kind p out

/-- Time since reset, in 2^-32 ns. -/
def State.timeNow (s : State) : Nat := s.tick * 2 ^ 34

/-- Put a MAC control frame on the line: it occupies it for 84 bytes (R190). -/
def State.putControl (s : State) (p opcode : Nat) (d : List Byte) : State :=
  let q := s.port p
  let s := s.setPort p { q with free := max q.free s.tick + s.lineTicks p 84 }
  (s.toWire p ⟨.ethPause, .whole, d, false, s.timeNow⟩ (withFcs d false)).ethInc p (if opcode = 1 then 36 else 37)

/-- The MAC control frames that wait go out at a frame or fragment boundary (R190). -/
def State.flushCtl (s : State) (p : Nat) : State :=
  let l := (s.port p).ctl
  l.foldl (fun s x => s.putControl p x.1 x.2) (s.setPort p { s.port p with ctl := [] })

/-- Send a MAC control frame: at once on a free line, else at the next frame or fragment boundary (R190). -/
def State.sendControl (s : State) (p opcode : Nat) (payload : List Byte) : State :=
  if !s.canSend p then s
  else
    let d := s.macControl p opcode payload
    if (s.port p).tx.isSome then s.setPort p { s.port p with ctl := (s.port p).ctl ++ [(opcode, d)] } else s.putControl p opcode d

/-- PFC payload: the enable vector, and for each priority the quanta. -/
def pfcPayload (mask : Nat) (q : Nat → Nat) : List Byte :=
  beBytes 2 mask ++ ((List.range 8).foldl (fun l i => l ++ beBytes 2 (if bit mask i then q i else 0)) [])

/-- The priorities whose XOFF state changes now (R189). -/
def State.pfcChange (s : State) (p : Nat) : Nat :=
  let st := s.gf (F.ETH_FC_STAT_PFC_TX_XOFF p)
  (List.range 8).foldl (fun m i =>
    let n := s.heldPri p i
    if (!bit st i && s.gf (F.ETH_PFC_WM_XOFF p i) ≤ n) || (bit st i && n ≤ s.gf (F.ETH_PFC_WM_XON p i)) then m + 2 ^ i else m) 0

/-- Occupancy of port `p` has changed: XOFF or XON where a watermark is crossed (R189). -/
def State.flowCheck (s : State) (p : Nat) : State :=
  if 8 ≤ p then s
  else
    let t := s.gf (F.ETH_FC_CFG_PAUSE_TIME p)
    let m := s.gf (F.ETH_FC_CFG_FC_MODE p)
    if m = 1 then
      let n := s.heldCells p
      let on := s.bf (F.ETH_FC_STAT_TX_XOFF p)
      if !on && s.gf (F.ETH_FC_WM_XOFF p) ≤ n then
        let s := (s.sf (F.ETH_FC_STAT_TX_XOFF p) 1).sendControl p 1 (beBytes 2 t)
        s.setPort p { s.port p with xoff := s.tick }
      else if on && n ≤ s.gf (F.ETH_FC_WM_XON p) then (s.sf (F.ETH_FC_STAT_TX_XOFF p) 0).sendControl p 1 (beBytes 2 0)
      else s
    else if m = 2 then
      let ch := s.pfcChange p
      if ch = 0 then s
      else
        let new := s.gf (F.ETH_FC_STAT_PFC_TX_XOFF p) ^^^ ch
        let s := (s.sf (F.ETH_FC_STAT_PFC_TX_XOFF p) new).sendControl p 0x101 (pfcPayload ch (fun i => if bit new i then t else 0))
        let xs := (List.range 8).map (fun i => if bit ch i then s.tick else (s.port p).xoffP.getD i 0)
        s.setPort p { s.port p with xoffP := xs }
    else s

/-- PAUSE_REFRESH (R189): XOFF is sent again every PAUSE_TIME ÷ 2 quanta while in force. -/
def pauseRefresh (p : Nat) (s : State) : State :=
  let t := s.gf (F.ETH_FC_CFG_PAUSE_TIME p)
  let due (x : Nat) : Bool := x + t * s.lineTime p 64 / 80 ≤ s.tick
  let m := s.gf (F.ETH_FC_CFG_FC_MODE p)
  if m = 1 then
    if !s.bf (F.ETH_FC_STAT_TX_XOFF p) ∨ !due (s.port p).xoff then s
    else
      let s := s.sendControl p 1 (beBytes 2 t)
      s.setPort p { s.port p with xoff := s.tick }
  else if m = 2 then
    let st := s.gf (F.ETH_FC_STAT_PFC_TX_XOFF p)
    let ch := (List.range 8).foldl (fun n i => if bit st i && due ((s.port p).xoffP.getD i 0) then n + 2 ^ i else n) 0
    if ch = 0 then s
    else
      let s := s.sendControl p 0x101 (pfcPayload ch (fun _ => t))
      s.setPort p { s.port p with xoffP := (List.range 8).map (fun i => if bit ch i then s.tick else (s.port p).xoffP.getD i 0) }
  else s

/-! ### References (R204, R211) -/

/-- SETTLED becomes 1 when no frame classified before the most recent flow-table write remains (R211). -/
def State.ftSettle (s : State) : State :=
  if s.yrd.frames.any (fun f => match f.gen with | some g => decide (g < s.yrd.ftSeq) | none => false) then s
  else s.sf F.YRD_FT_STAT_SETTLED 1

/-- A frame's cells return to their pools. A link word in error that is met on the way: counted, reported, its cell retired (R224). -/
def State.freeFrame (s : State) (f : Frame) : State :=
  let s := s.setYrd { s.yrd with frames := s.yrd.frames.filter (fun x => x.handle != f.handle) }
  match f.badLink with
  | none => s
  | some k =>
    let s := s.setYrd { s.yrd with retired := s.yrd.retired ++ (f.cells.drop k).take 1 }
    ((s.incf F.YRD_CNT_LINK_ERR_COUNT).sf F.YRD_STAT_MEM_UE 1).raise 0x18 kUE 0

/-- End one reference of a frame; with the last one its cells are freed. -/
def State.dropRef (s : State) (h : Nat) : State :=
  match s.frame h with
  | none => s
  | some f =>
    if 1 < f.refs then s.setFrame { f with refs := f.refs - 1 }
    else ((s.freeFrame f).flowCheck f.input).ftSettle

/-- One more reference. -/
def State.addRef (s : State) (h : Nat) : State :=
  match s.frame h with
  | none => s
  | some f => s.setFrame { f with refs := f.refs + 1 }

/-! ### Class queues (R207, R216, R222, R223) -/

/-- Cells held on class queue (o, c) (YRD_QOCC). -/
def State.qocc (s : State) (o c : Nat) : Nat :=
  sumBy (fun k => if k.out = o ∧ k.tc = c then ((s.frame k.frame).map (·.cells.length)).getD 0 else 0) s.yrd.toks

/-- Is a copy that reaches output `o` freed at enqueue (R223)? -/
def State.outFlushes (s : State) (o : Nat) : Bool :=
  o < 8 && (s.fenced (0x10 + o) || (!s.ethLink o && s.gf (F.ETH_CTL_SVC o) != 0))

/-- Outcome of putting a copy on a class queue. -/
inductive EnqRes where
  | ok
  | full
  | noToken
  | flushed
  deriving DecidableEq, Repr

/-- Put a copy on its queue; the copy holds a reference when the answer is `ok`. -/
def State.enqueue (s : State) (k : Token) : State × EnqRes :=
  let n := ((s.frame k.frame).map (·.cells.length)).getD 0
  if s.outFlushes k.out then ((s.incf (F.YRD_CNT_FLUSH_COUNT k.out)).tsLost k, .flushed)
  else if s.gf (F.YRD_QLIM_CELLS k.out k.tc) < s.qocc k.out k.tc + n then (s, .full)
  else if 65536 ≤ s.yrd.toks.length then (s.incf F.YRD_CNT_NOTOKEN_COUNT, .noToken)
  else ((s.addRef k.frame).setYrd { (s.addRef k.frame).yrd with toks := s.yrd.toks ++ [{ k with tick := s.tick }] }, .ok)

/-- Remove a token from its queue, without ending its reference. -/
def State.removeTok (s : State) (k : Token) : State := s.setYrd { s.yrd with toks := s.yrd.toks.erase k }

/-- Free every copy on the class queues of output `o` (R223). -/
def State.flushOut (s : State) (o : Nat) : State :=
  let l := s.yrd.toks.filter (fun k => k.out == o)
  let s := s.setYrd { s.yrd with toks := s.yrd.toks.filter (fun k => k.out != o) }
  l.foldl (fun s k => ((s.incf (F.YRD_CNT_FLUSH_COUNT o)).tsLost k).dropRef k.frame) s

/-! ### Delivery on P8 (R212, R213, R214) -/

def State.dlvOf (s : State) (t : Nat) : List (Nat × Option Nat) := s.yrd.dlv.get (fun _ => []) t
def State.setDlv (s : State) (t : Nat) (l : List (Nat × Option Nat)) : State :=
  s.setYrd { s.yrd with dlv := s.yrd.dlv.set (fun _ => []) t l }

/-- Put a frame on a thread's delivery list; the delivery takes over one reference of the caller. -/
def State.deliverTo (s : State) (t h : Nat) (k : Option Nat) : State :=
  if max 1 (s.gf F.YRD_POOL_P8_MAX) ≤ (s.dlvOf t).length then (s.incf F.YRD_CNT_P8_FULL_COUNT).dropRef h
  else (s.setDlv t (s.dlvOf t ++ [(h, k)])).wake 2

/-- The thread of pin index `k`. -/
def State.pinThread (s : State) (k : Nat) : Nat := s.gf (F.YRD_PIN_THREAD k)

/-- Does a thread other than the pinned one still hold frames delivered under `k` (R213)? -/
def State.pinBusy (s : State) (k : Nat) : Bool :=
  s.yrd.dlv.keys.any (fun t => t != s.pinThread k && (s.dlvOf t).any (fun x => x.2 == some k))

/-- The pin index of h[25:16] = `x` in a group of a base and size (R212). -/
def pinIndex (base size x : Nat) : Nat := (base + x % 2 ^ size) % 1024

/-- Does a frame of the flow that `via` names, delivered before a change of its pin group, keep back index `k` (R213)? -/
def State.moveBusy (s : State) (via : Nat × Nat) (k : Nat) : Bool :=
  s.yrd.moves.any (fun m => m.grp == via.1 && m.left.any (fun x =>
    x.2 == pinIndex m.base m.size via.2 && !(s.dlvOf (s.pinThread k)).any (fun y => y.1 == x.1)))

/-- Deliver a classified frame under pin index `k`, or hold it behind a pin change (R213). -/
def State.deliverPin (s : State) (via : Nat × Nat) (k h : Nat) : State :=
  if s.pinBusy k || s.moveBusy via k || s.yrd.pinHeld.any (fun x => x.k == k || x.via == via) then
    s.setYrd { s.yrd with pinHeld := s.yrd.pinHeld ++ [⟨k, h, via⟩] }
  else s.deliverTo (s.pinThread k) h (some k)

/-- Frames that have been taken or freed keep nothing back any more. -/
def State.pruneMoves (s : State) : State :=
  let here (h : Nat) : Bool := s.yrd.pinHeld.any (fun x => x.frame == h) || s.yrd.dlv.any (fun p => p.2.any (fun y => y.1 == h && y.2.isSome))
  s.setYrd { s.yrd with moves := (s.yrd.moves.map (fun m => { m with left := m.left.filter (fun x => here x.1) })).filter (fun m => !m.left.isEmpty) }

/-- The first of the held frames that nothing keeps back any more, given those that were before it (R213). -/
def State.freePin (s : State) (before : List PinHeld) : List PinHeld → Option PinHeld
  | [] => none
  | x :: xs =>
    if s.pinBusy x.k || s.moveBusy x.via x.k || before.any (fun y => y.k == x.k || y.via == x.via) then s.freePin (before ++ [x]) xs
    else some x

/-- Release the frames that no previous thread blocks any more, in order (R213); `fuel`: how many at most. -/
def State.releasePins (s : State) : Nat → State
  | 0 => s.pruneMoves
  | n + 1 =>
    let s := s.pruneMoves
    match s.freePin [] s.yrd.pinHeld with
    | none => s
    | some x => ((s.setYrd { s.yrd with pinHeld := s.yrd.pinHeld.filter (fun y => y.frame != x.frame) }).deliverTo (s.pinThread x.k) x.frame
        (some x.k)).releasePins n

/-- Is some index still held by a pin change? -/
def State.pinOpen (s : State) : Bool :=
  !s.yrd.pinHeld.isEmpty || !s.yrd.moves.isEmpty || s.yrd.dlv.any (fun p => p.2.any (fun x => match x.2 with | some k => s.pinThread k != p.1 | none => false))

/-- Delivery lists have changed: frames held by pin changes move on, PIN_SETTLED follows (R213). -/
def State.pinSync (s : State) : State :=
  let s := s.releasePins s.yrd.pinHeld.length
  if s.pinOpen then s else s.sf F.YRD_FT_STAT_PIN_SETTLED 1

/-- A pin index may have another thread now (R213): PIN_GEN, PIN_SETTLED. -/
def State.pinChanged (s : State) : State :=
  let s := (s.sf F.YRD_FT_STAT_PIN_GEN (s.gf F.YRD_FT_STAT_PIN_GEN + 1)).sf F.YRD_FT_STAT_PIN_SETTLED 0
  if s.pinOpen then s else s.sf F.YRD_FT_STAT_PIN_SETTLED 1

/-- The frames not yet taken, each with its pin index and the thread that has it or will get it. -/
def State.pinnedFrames (s : State) : List (Nat × Nat × Nat) :=
  s.yrd.dlv.flatMap (fun p => p.2.filterMap (fun y => y.2.map (fun k => (y.1, k, p.1)))) ++
    s.yrd.pinHeld.map (fun x => (x.frame, x.k, s.pinThread x.k))

/-- A pin group takes a new base and size (R213): frames of flows that change their thread wait for those the previous thread has. -/
def State.moveGroup (s : State) (g base size : Nat) : State :=
  let ob := s.gf (F.YRD_PGRP_BASE g)
  let oz := s.gf (F.YRD_PGRP_SIZE g)
  let new (x : Nat) : Nat := s.pinThread (pinIndex base size x)
  let left := s.pinnedFrames.filter (fun f => (List.range 1024).any (fun x => pinIndex ob oz x == f.2.1 && new x != f.2.2))
  let ch := (List.range 1024).any (fun x => s.pinThread (pinIndex ob oz x) != new x)
  let s := s.sfs [(F.YRD_PGRP_SIZE g, size), (F.YRD_PGRP_BASE g, base)]
  if ch then (s.setYrd { s.yrd with moves := s.yrd.moves ++ [⟨g, ob, oz, left.map (fun f => (f.1, f.2.1))⟩] }).pruneMoves.pinChanged else s

/-- PIN_CHANGE (R213): a write of YRD_PIN[k], or where `grp`, of YRD_PGRP[k]. -/
def pinWrite (grp : Bool) (k v : Nat) (s : State) : State :=
  if grp then
    let size := bits v 19 16
    let base := bits v 9 0
    if 10 < size ∨ 1024 < base + 2 ^ size then s.sf F.YRD_STAT_CFG_REJ 1
    else s.moveGroup k base size
  else
    let ch := s.pinThread k ≠ bits v 8 0
    let s := s.sf (F.YRD_PIN_THREAD k) v
    if ch then s.pinChanged.pinSync else s

/-- A block reset of barn `b` (R214): frames its threads hold or that wait for them are freed. -/
def State.yrdBarnReset (s : State) (b : Nat) : State :=
  let held := (s.yrd.frames.filter (fun f => match f.owner with | some t => barnOf t == b | none => false)).map (·.handle)
  let lists := s.yrd.dlv.filter (fun p => barnOf p.1 == b)
  let wait := lists.foldl (fun l p => l ++ p.2.map (·.1)) []
  let s := s.setYrd { s.yrd with dlv := s.yrd.dlv.filter (fun p => barnOf p.1 != b) }
  ((held ++ wait).foldl (fun s h => (s.dropRef h).incf F.YRD_CNT_RESET_DROP_COUNT) s).pinSync

/-! ### A link word in error (R224) -/

/-- The number no frame has. -/
def noFrame : Nat := 32768

/-- A token that carries frame `h` names no frame any more. -/
def Token.unname (k : Token) (h : Nat) : Token := if k.frame = h then { k with frame := noFrame } else k

/-- A port's hold on frame `h` ends: selected or being reassembled; the line's own copy of its bytes goes on. -/
def Port.forget (q : Port) (h : Nat) : Port :=
  { q with sel := q.sel.filter (fun k => k.frame != h), tx := q.tx.map (fun l => { l with tok := l.tok.unname h }),
           cut := q.cut.map (fun l => { l with tok := l.tok.unname h }),
           rx := q.rx.map (fun a => if a.h = some h then { a with h := none } else a) }

/-- A read of frame `h` meets a cell whose link word has an uncorrected error (R224): the frame is freed whatever refers to it, counted,
its cell retired, and the time-stamp entries of its copies become NOT_SENT (R195). -/
def State.linkErr (s : State) (h : Nat) : State :=
  match s.frame h with
  | none => s
  | some f =>
    let lost := s.yrd.toks ++ s.red.held.map (·.tok) ++ s.eth.filterMap (fun q => q.2.sel)
    let s := s.freeFrame f
    let s := s.setYrd { s.yrd with toks := s.yrd.toks.filter (fun k => k.frame != h), pinHeld := s.yrd.pinHeld.filter (fun x => x.frame != h) }
    let s := s.yrd.dlv.keys.foldl (fun s t => s.setDlv t ((s.dlvOf t).filter (fun x => x.1 != h))) s
    let s : State := { s with red := { s.red with held := s.red.held.filter (fun x => x.tok.frame != h) },
                              sch := { s.sch with sel9 := s.sch.sel9.filter (fun k => k.frame != h) } }
    let s := s.eth.keys.foldl (fun s p => s.setPort p ((s.port p).forget h)) s
    let s := (lost.filter (fun k => k.frame == h)).foldl State.tsLost s
    ((s.flowCheck f.input).ftSettle).pinSync

/-- Does an access to bytes of the frame up to offset `e` meet the link word in error? -/
def Frame.linkMet (f : Frame) (e : Nat) : Bool :=
  match f.badLink with
  | none => false
  | some k => decide (k < (e - 1) / 256)

/-! ### Frame operations (R64, R68, R205): STATUS and VALUE -/

/-- Is YRD fenced (R225)? -/
def State.yrdFenced (s : State) : Bool := s.fenced 0x18

/-- The frame a thread holds by a handle (R67). -/
def State.ownFrame (s : State) (t h : Nat) : Option Frame :=
  s.yrd.frames.find? (fun f => f.handle == h && f.owner == some t)

/-- FRM.NEW (R205). Contents are undefined: `n` free bytes. -/
def frmNew (t len : Nat) (s : State) : State × Nat × Nat :=
  if len = 0 ∨ 9600 < len then (s, 0x13, 0)
  else if !s.canCharge (s.padOf t) 2 (cellsOf len) then (s.exhaust (s.padOf t) 2, 0x14, 0)
  else
    let data := (List.range len).map (fun i => (Config.freeVal (s.free + i)).setWidth 8)
    match s.newFrame { Frame.blank 8 data with owner := some t } (s.rank (s.padOf t) == 2) with
    | none => (s, 0x15, 0)
    | some (s', h) => (({ s' with free := s'.free + len } : State).charge (s.padOf t) 2 (cellsOf len), 0, h)

/-- FRM.HDR: `k` bytes at an offset, the first most significant. A link word in error frees the frame, and its handle is bad (log 150). -/
def frmHdr (t h o k : Nat) (s : State) : State × Nat × Nat :=
  match s.ownFrame t h with
  | none => (s, 0x12, 0)
  | some f =>
    if f.data.length < o + k then (s, 0x13, 0)
    else if f.linkMet (o + k) then (s.linkErr h, 0x12, 0) else (s, 0, beNat (sliceB f.data o k))

/-- FRM.LD: `n` bytes from the frame to memory address `ta`. An uncorrected error is reported by YRD (R224). -/
def frmLd (t h o ta n : Nat) (s : State) : State × Nat :=
  match s.ownFrame t h with
  | none => (s, 0x12)
  | some f =>
    if n = 0 ∨ 256 < n ∨ f.data.length < o + n then (s, 0x13)
    else if f.linkMet (o + n) then (s.linkErr h, 0x12)
    else if f.bad.any (fun w => o < 8 * w + 8 && 8 * w < o + n) then (s.raise 0x18 kUE 0, 0x26)
    else (s.wrL ta (sliceB f.data o n), 0)

/-- FRM.ST: `n` bytes from memory address `ta` to the frame. -/
def frmSt (t h o ta n : Nat) (s : State) : State × Nat :=
  match s.ownFrame t h with
  | none => (s, 0x12)
  | some f =>
    if n = 0 ∨ 256 < n ∨ f.data.length < o + n then (s, 0x13)
    else if f.linkMet (o + n) then (s.linkErr h, 0x12)
    else (s.setFrame { f with data := patchB f.data o (s.rdB ta n) }, 0)

/-- FRM.DROP. -/
def frmDrop (t h : Nat) (s : State) : State × Nat :=
  match s.ownFrame t h with
  | none => (s, 0x12)
  | some f => ((s.setFrame { f with owner := none }).dropRef h, 0)

/-- The FRM.GET descriptor. -/
def Frame.descriptor (f : Frame) : List Byte :=
  leBytes 2 f.data.length ++ leBytes 1 f.input ++ leBytes 1 (b2n f.err + 2 * b2n f.pcp) ++ leBytes 2 f.flow ++ leBytes 2 f.fver ++
    List.replicate 24 0 ++ leBytes 32 f.stamp.toNat

/-- FRM.GET: the oldest frame delivered to the thread; the descriptor goes to memory address `ta`. `none` while there is none. -/
def frmGet (t ta : Nat) (s : State) : Option (State × Nat) :=
  match s.dlvOf t with
  | [] => none
  | (h, _) :: rest =>
    match s.frame h with
    | none => some (s.setDlv t rest, h)
    | some f =>
      let s := (s.setDlv t rest).setFrame { f with owner := some t, gen := none }
      some ((s.wrL ta f.descriptor).ftSettle.pinSync, h)

end Sys2Proof.Machine
end

