-- ==== Sys2Proof/Machine/Eth.lean ====
section
/-! DEFINITION. Ethernet ports (spec/08): link state, received pause, verification, fence, block reset and register writes.
Reception stands in Machine/Classify.lean, transmission in Machine/Sched.lean. -/
namespace Sys2Proof.Machine

/-! ### Modes (R176, R177, R182) -/

/-- Does port `p` support a mode (R176)? Mode 0 leaves the port unused. -/
def modeOk (p m : Nat) : Bool :=
  m == 0 || (if p < 2 then 1 ≤ m && m ≤ 4 else if p < 6 then m == 3 || m == 4 else 5 ≤ m)

/-- The mode the port runs in now: 0 while it is disabled or shedding holds it down (R182). -/
def State.modeNow (s : State) (p : Nat) : Nat :=
  let m := s.gf (F.ETH_MODE_MODE p)
  let lv := s.shedEff
  if !s.bf (F.ETH_CTL_EN p) || 3 ≤ lv || (lv == 2 && s.bf (F.ETH_CTL_NONCRIT p)) then 0
  else if m = 1 ∧ (1 ≤ lv ∨ (s.port p).degraded) then s.gf (F.ETH_MODE_SHED_MODE p)
  else m

/-- Has shedding changed the port (ETH_STAT.SHED)? -/
def State.portShed (s : State) (p : Nat) : Bool := s.bf (F.ETH_CTL_EN p) && s.modeNow p != s.gf (F.ETH_MODE_MODE p)

/-- Are the conditions of R178 met? -/
def State.linkWants (s : State) (p : Nat) : Bool :=
  let m := s.modeNow p
  let c := (s.port p).cond
  let base := m != 0 && s.bf (F.ETH_CTL_TX_EN p) && s.bf (F.ETH_CTL_RX_EN p) && !s.safe &&
    !(6 ≤ p && !bit (s.gf F.PWR_RAIL_STAT_GOOD) 1)
  let an := !s.bf (F.ETH_MODE_AN_EN p)
  let spd := match c.speed with | some v => v.val == m | none => false
  base && (s.bf (F.ETH_CTL_LOOP p) || (s.port p).loopEnd.isSome ||
    (if m == 1 then c.lock && !c.localFault && !c.remoteFault &&
        (match (s.port p).rfLast with | some t => decide (t + 250000 ≤ s.tick) | none => true)
     else if m == 2 then c.lock && (an || (c.anDone && !c.remoteFault))
     else if m ≤ 4 then c.lock && (an || spd)
     else if s.bf (F.ETH_MODE_INBAND p) then spd else s.bf (F.ETH_CTL_LINK_FORCE p)))

/-- Does the PHY report a speed other than the one of the mode (R179)? -/
def State.speedWrong (s : State) (p : Nat) : Bool :=
  let m := s.modeNow p
  (((m == 3 || m == 4) && s.bf (F.ETH_MODE_AN_EN p)) || (5 ≤ m && s.bf (F.ETH_MODE_INBAND p))) &&
  (match (s.port p).cond.speed with | some v => v.val != m | none => false)

/-! ### Pre-emption verification (R191) -/

/-- Verification enters INITIAL: DISABLED with PRE_EN = 0, SUCCEEDED with VERIFY_DIS = 1, VERIFYING once the link is up. -/
def State.verInit (s : State) (p : Nat) : State :=
  let v := if !s.bf (F.ETH_PRE_CFG_PRE_EN p) then 0 else if s.bf (F.ETH_PRE_CFG_VERIFY_DIS p) then 3
    else if s.ethLink p then 2 else 1
  (s.setPort p { s.port p with verEnd := none }).sfs
    [(F.ETH_PRE_STAT_VSTATE p, v), (F.ETH_PRE_STAT_ACTIVE p, b2n (v == 3)), (F.ETH_PRE_STAT_ATTEMPTS p, 0)]

/-- Pre-emption is active. -/
def State.preActive (s : State) (p : Nat) : Bool := p < 8 && s.gf (F.ETH_PRE_STAT_VSTATE p) == 3

/-- The verify wait in ticks. -/
def State.verifyTicks (s : State) (p : Nat) : Nat := 250000 * max 1 (min 128 (s.gf (F.ETH_PRE_CFG_VERIFY_TIME p)))

/-- Send a verify mPacket and start the wait. -/
def State.sendVerify (s : State) (p : Nat) : State :=
  let s := s.setPort p { s.port p with verEnd := some (s.tick + s.verifyTicks p) }
  ((s.toWire p ⟨.ethVerify, .whole, [], false, s.timeNow⟩ []).ethInc p 40).sf (F.ETH_PRE_STAT_ATTEMPTS p) (s.gf (F.ETH_PRE_STAT_ATTEMPTS p) + 1)

/-- VERIFY_SEND (R191): the first send of a verification. -/
def verifySend (p : Nat) (s : State) : State :=
  if s.gf (F.ETH_PRE_STAT_VSTATE p) = 2 ∧ (s.port p).verEnd.isNone ∧ s.canSend p then s.sendVerify p else s

/-- VERIFY_TIMEOUT (R191): the wait ends: a further send, or FAILED after the third. -/
def verifyTimeout (p : Nat) (s : State) : State :=
  match (s.port p).verEnd with
  | none => s
  | some t =>
    if s.gf (F.ETH_PRE_STAT_VSTATE p) ≠ 2 ∨ s.tick < t then s
    else if s.gf (F.ETH_PRE_STAT_ATTEMPTS p) < 3 then (if s.canSend p then s.sendVerify p else s)
    else (s.setPort p { s.port p with verEnd := none }).sfs [(F.ETH_PRE_STAT_VSTATE p, 4), (F.ETH_INT_STAT_VERIFY_FAIL p, 1)]

/-- Does the port receive now? -/
def State.receives (s : State) (p : Nat) : Bool := s.ethLink p && s.bf (F.ETH_CTL_RX_EN p) && !s.fenced (0x10 + p)

/-- VERIFY_RECEIVED (R191): counted, and answered with PRE_EN = 1. -/
def verifyReceived (p : Nat) (s : State) : State :=
  if !s.receives p then s
  else
    let s := s.ethInc p 28
    if s.bf (F.ETH_PRE_CFG_PRE_EN p) then (s.toWire p ⟨.ethRespond, .whole, [], false, s.timeNow⟩ []).ethInc p 41 else s

/-- RESPONSE_RECEIVED (R191): VERIFYING becomes SUCCEEDED. -/
def responseReceived (p : Nat) (s : State) : State :=
  if !s.receives p then s
  else
    let s := s.ethInc p 29
    if s.gf (F.ETH_PRE_STAT_VSTATE p) = 2 then
      (s.setPort p { s.port p with verEnd := none }).sfs [(F.ETH_PRE_STAT_VSTATE p, 3), (F.ETH_PRE_STAT_ACTIVE p, 1)]
    else s

/-! ### Received pause and PFC (R188) -/

/-- Is a received hold in force? -/
def Port.heldNow (q : Port) : Bool := q.pause.isSome || q.pfc.any (·.isSome)

/-- Quanta of the hold in force that have passed (R188): 512 bit times each. -/
def State.quantaNow (s : State) (p : Nat) : Nat :=
  match (s.port p).heldSince with
  | some t => (s.tick - t) * 40 / max 1 (s.lineTime p 64)
  | none => 0

/-- The quanta that have passed since the last count advance TX_PAUSED_QUANTA (R188, R200). -/
def State.countQuanta (s : State) (p : Nat) : State :=
  let n := s.quantaNow p
  let q := s.port p
  if n ≤ q.heldQ then s else (s.setPort p { q with heldQ := n }).ethAdd p 42 (n - q.heldQ)

/-- After a change of the timers: the status bits, and the start or the end of the time held. -/
def State.holdSync (s : State) (p : Nat) : State :=
  let q := s.port p
  let m := (List.range 8).foldl (fun n i => if (q.pfc.getD i none).isSome then n + 2 ^ i else n) 0
  let s := s.sfs [(F.ETH_FC_STAT_RX_PAUSED p, b2n q.pause.isSome), (F.ETH_FC_STAT_PFC_RX_HELD p, m)]
  match q.heldSince, q.heldNow with
  | none, true => s.setPort p { q with heldSince := some s.tick, heldQ := 0 }
  | some _, false =>
    let s := s.countQuanta p
    s.setPort p { s.port p with heldSince := none, heldQ := 0 }
  | _, _ => s

/-- End every received hold (R180, R203). -/
def State.endHolds (s : State) (p : Nat) : State :=
  (s.setPort p { s.port p with pause := none, pfc := List.replicate 8 none }).holdSync p

/-- A timer of `q` quanta: none for 0. -/
def State.holdTimer (s : State) (p q : Nat) : Option (Nat × Nat) :=
  if q = 0 then none else some (s.tick, s.tick + ceilDiv (q * s.lineTime p 64) 40)

/-- A consumed MAC control frame (R188): counted, and acted on when FC_MODE matches and RX_EN is 1. -/
def State.pauseAct (s : State) (p : Nat) (o : PauseOp) : State :=
  let on := s.bf (F.ETH_FC_CFG_RX_EN p)
  let m := s.gf (F.ETH_FC_CFG_FC_MODE p)
  match o with
  | .other => s.ethInc p 15
  | .pause q =>
    let s := s.ethInc p 13
    if on && m == 1 then (s.setPort p { s.port p with pause := s.holdTimer p q.toNat }).holdSync p else s
  | .pfc mask q =>
    let s := s.ethInc p 14
    if on && m == 2 then
      let l := (List.range 8).map (fun i =>
        if bit mask.toNat i then s.holdTimer p (q.getD i 0).toNat else (s.port p).pfc.getD i none)
      (s.setPort p { s.port p with pfc := l }).holdSync p
    else s

/-- PAUSE_RECEIVED (R188): a MAC control frame of 64 bytes. -/
def pauseReceived (p : Nat) (o : PauseOp) (s : State) : State :=
  if !s.bf (F.ETH_CTL_EN p) then s
  else
    let s := s.ethAdd p 23 64
    if !s.receives p ∨ s.yrdFenced then s.ethInc p 22 else s.pauseAct p o

/-- PAUSE_EXPIRE (R188): timers that have run out end their holds. -/
def pauseExpire (p : Nat) (s : State) : State :=
  let q := s.port p
  let live (x : Option (Nat × Nat)) : Option (Nat × Nat) :=
    match x with
    | some (a, e) => if e ≤ s.tick then none else some (a, e)
    | none => none
  (s.setPort p { q with pause := live q.pause, pfc := q.pfc.map live }).holdSync p

/-! ### Link rise and fall (R178 to R180) -/

/-- A frame on the line, or one that pre-emption stopped, is cut off (R180, R202): its time-stamp entry becomes NOT_SENT. -/
def State.cutLine (s : State) (p : Nat) (l : Line) : State := ((s.ethInc p 45).tsLost l.tok).dropRef l.tok.frame

def State.cutFrames (s : State) (p : Nat) : State :=
  let q := s.port p
  let s := s.setPort p { q with tx := none, cut := none, ctl := [], loop := [] }
  let s := match q.tx with | some l => s.cutLine p l | none => s
  match q.cut with | some l => s.cutLine p l | none => s

/-- What a member of a round was charged is given back. -/
def giveBack (i n : Nat) (l : List RLeaf) : List RLeaf := l.map (fun x => if x.id = i then { x with def_ := x.def_ + n } else x)

/-- The rounds take back what they charged for a frame that is not sent after all. -/
def State.refund (s : State) (o : Nat) (k : Token) : State :=
  let n := wireBytes (s.lenOf k)
  let at_ (m : SMap (List RLeaf)) (j i : Nat) : SMap (List RLeaf) := m.set (fun _ => []) j (giveBack i n (m.get (fun _ => []) j))
  { s with sch := { s.sch with rounds := at_ s.sch.rounds (8 * o + k.tc) k.leaf,
                               crounds := at_ (at_ s.sch.crounds (2 * o) k.tc) (2 * o + 1) k.tc } }

/-- A frame selected and not started goes back to the head of its queue. -/
def State.unselect (s : State) (p : Nat) : State :=
  match (s.port p).sel with
  | none => s
  | some k => ((s.refund p k).setPort p { s.port p with sel := none }).setYrd { s.yrd with toks := k :: s.yrd.toks }

/-- The cells of a frame being received are freed. -/
def State.dropCells (s : State) : Option Nat → State
  | none => s
  | some h => s.dropRef h

/-- A frame being received is discarded. -/
def State.cutRx (s : State) (p : Nat) : State :=
  match (s.port p).rx with
  | none => s
  | some a => (((s.setPort p { s.port p with rx := none }).ethInc p 22).dropCells a.h)

/-- The link falls (R180). -/
def State.linkFall (s : State) (p : Nat) : State :=
  let s := ((s.unselect p).cutFrames p).cutRx p
  let s := s.sfs [(F.ETH_STAT_LINK p, 0), (F.ETH_INT_STAT_LINK_CHG p, 1)]
  let s := ((s.ethInc p 30).verInit p).endHolds p
  if s.gf (F.ETH_CTL_SVC p) = 0 then s else s.flushOut p

/-- The link rises. -/
def State.linkRise (s : State) (p : Nat) : State :=
  (s.sfs [(F.ETH_STAT_LINK p, 1), (F.ETH_INT_STAT_LINK_CHG p, 1)]).verInit p

/-- The status of the port follows its conditions: the mode it runs in, shedding, the link. A change of mode restarts the port. -/
def State.linkEval (s : State) (p : Nat) : State :=
  let m := s.modeNow p
  let s := if m ≠ s.gf (F.ETH_STAT_ACT_MODE p) then
      let s := if s.ethLink p then s.linkFall p else s
      (s.setPort p { s.port p with cond := LinkCond.init }).sfs [(F.ETH_STAT_ACT_MODE p, m), (F.ETH_STAT_PCS_LOCK p, 0),
        (F.ETH_STAT_AN_DONE p, 0), (F.ETH_STAT_LOCAL_FAULT p, 0), (F.ETH_STAT_REMOTE_FAULT p, 0)]
    else s
  let s := s.sf (F.ETH_STAT_SHED p) (b2n (s.portShed p))
  let up := s.linkWants p
  if up && !s.ethLink p then s.linkRise p else if !up && s.ethLink p then s.linkFall p else s

/-- The PCS and the PHY report new conditions. -/
def State.setCond (s : State) (p : Nat) (c : LinkCond) : State :=
  if s.modeNow p = 0 then s
  else
    let rf := if c.remoteFault || (s.port p).cond.remoteFault then some s.tick else (s.port p).rfLast
    let s := (s.setPort p { s.port p with cond := c, rfLast := rf }).sfs [(F.ETH_STAT_PCS_LOCK p, b2n c.lock), (F.ETH_STAT_LOCAL_FAULT p, b2n c.localFault),
      (F.ETH_STAT_REMOTE_FAULT p, b2n c.remoteFault), (F.ETH_STAT_AN_DONE p, b2n c.anDone)]
    (if s.speedWrong p then s.sf (F.ETH_INT_STAT_MODE_MISMATCH p) 1 else s).linkEval p

/-- A link whose last remote fault sequence is 1 ms old may come up (R178). -/
def State.linkTick (s : State) : State :=
  s.eth.keys.foldl (fun s p => if (s.port p).rfLast.isSome && !s.ethLink p && s.linkWants p then s.linkEval p else s) s

/-- Holds in force for another quantum are counted (R188). -/
def State.holdTick (s : State) : State := s.eth.keys.foldl State.countQuanta s

/-- LINK_UP (R178, R179): the port reports conditions under which the link may come up. -/
def linkUpCmd (p : Nat) (c : LinkCond) (s : State) : State := s.setCond p c

/-- LINK_DOWN (R180): the port reports conditions under which the link is down. -/
def linkDownCmd (p : Nat) (c : LinkCond) (s : State) : State := s.setCond p c

/-! ### Fence and block reset (R202, R203) -/

/-- The FCU fences port `p` (R202, R223). -/
def State.ethFence (s : State) (p : Nat) : State := (((s.unselect p).cutFrames p).cutRx p).flushOut p

/-- Every time-stamp entry of the port is freed: frames that waited for one complete without a stamp. -/
def State.tsFree (s : State) (p : Nat) : State :=
  let l := (s.port p).tsq
  let s := l.foldl (fun s e => s.tsSettled p { e with st := 2 }) s
  s.setPort p { s.port p with tsq := [] }

/-- PORT_RESET (R203): at most 2 µs, here one step. -/
def portReset (p : Nat) (s : State) : State :=
  if s.safe then s
  else
    let s := (s.beginReset (0x10 + p)).endFence (0x10 + p)
    let s := if s.ethLink p then s.linkFall p else s.cutRx p
    let s := ((s.tsFree p).verInit p).endHolds p
    let s := (s.setPort p { s.port p with cond := LinkCond.init }).sfs [(F.ETH_STAT_PCS_LOCK p, 0), (F.ETH_STAT_AN_DONE p, 0),
      (F.ETH_STAT_LOCAL_FAULT p, 0), (F.ETH_STAT_REMOTE_FAULT p, 0)]
    (s.endReset (0x10 + p)).linkEval p

/-- The degrade action of P0 and P1 (R360): the port restarts in SHED_MODE. -/
def State.ethDegrade (s : State) (p : Nat) : State := (s.setPort p { s.port p with degraded := true }).linkEval p

/-! ### Register writes -/

/-- CNT_CLR (R201). -/
def cntClr (p : Nat) (s : State) : State :=
  let s := s.setPort p { s.port p with cnt := [] }
  let s : State := { s with hiCap := s.hiCap.clearRange (R.ETH_CNT_HI p 0) (R.ETH_CNT_HI p 49) }
  (s.setReg (R.ETH_HALF_STAT p 0) 0).setReg (R.ETH_HALF_STAT p 1) 0

def State.ethRej (s : State) (p : Nat) : State := s.sf (F.ETH_STAT_CFG_REJ p) 1

/-- PORT_ENABLE: a write of ETH_CTL[p] (R177, R223): EN = 1 without a mode refuses the write whole. -/
def ethCtl (p v : Nat) (s : State) : State :=
  if bit v 0 ∧ s.gf (F.ETH_MODE_MODE p) = 0 then s.ethRej p
  else
    let was := s.bf (F.ETH_CTL_EN p)
    let svc := s.gf (F.ETH_CTL_SVC p)
    let s := s.setReg (R.ETH_CTL p) (v &&& (if p < 2 then 0x367 else 0x3E7))
    let s := if !was && bit v 0 then s.setPort p { s.port p with degraded := false } else s
    let s := s.linkEval p
    let s := if svc = 0 ∧ s.gf (F.ETH_CTL_SVC p) ≠ 0 ∧ !s.ethLink p then s.flushOut p else s
    let s := if bit v 4 then cntClr p s else s
    if bit v 3 then portReset p s else s

/-- ETH_MODE_WRITE (R177). -/
def ethMode (p v : Nat) (s : State) : State :=
  if s.bf F.ETH_GCTL_LOCK then s
  else if s.bf (F.ETH_CTL_EN p) ∨ !modeOk p (bits v 2 0) ∨ (p < 2 ∧ bits v 6 4 ≠ 2 ∧ bits v 6 4 ≠ 3) then s.ethRej p
  else
    let m := if p < 2 then 0x177 else if p < 6 then 0x107 else 0xF07
    (s.setReg (R.ETH_MODE p) (v &&& m)).setPort p { s.port p with degraded := false }

/-- A write of ETH_MAXLEN[p]. -/
def ethMaxlen (p v : Nat) (s : State) : State :=
  if s.bf F.ETH_GCTL_LOCK then s
  else if bits v 13 0 < 1514 ∨ 9600 < bits v 13 0 then s.ethRej p else s.sf (F.ETH_MAXLEN_MAXLEN p) (bits v 13 0)

/-- A write of ETH_FC_CFG[p]: discarded while EN is 1, and for the reserved FC_MODE. -/
def ethFcCfg (p v : Nat) (s : State) : State :=
  if s.bf (F.ETH_CTL_EN p) ∨ bits v 1 0 = 3 then s.ethRej p else s.plainWrite (R.ETH_FC_CFG p) v false

/-- A write of ETH_FC_WM[p], or of ETH_PFC_WM[p][i] (R189). -/
def ethWm (off p v : Nat) (s : State) : State :=
  if bits v 31 16 ≤ bits v 15 0 then s.ethRej p else (s.plainWrite off v false).flowCheck p

/-- A write of ETH_PRE_CFG[p] (R191): one that changes PMASK alone leaves the verification as it is. -/
def ethPreCfg (p v : Nat) (s : State) : State :=
  let old := s.reg (R.ETH_PRE_CFG p)
  let s := s.plainWrite (R.ETH_PRE_CFG p) v false
  let new := s.reg (R.ETH_PRE_CFG p)
  if old % 2 ^ 24 = new % 2 ^ 24 ∧ old ≠ new then s else s.verInit p

/-- A port counter as ETH_CNT_LO reads it (R199). -/
def State.ethCnt (s : State) (p c : Nat) : Nat := (s.port p).cnt.get (fun _ => 0) c % 2 ^ 40

end Sys2Proof.Machine
end

