-- ==== Sys2Proof/Machine/Red.lean ====
section
/-! DEFINITION. RED and VOX (spec/11, R408, R409): sequence generation and recovery, mirroring, roles and the heartbeat, hand-over,
digests and verdicts, groom, Voxam links and peer messages. -/
namespace Sys2Proof.Machine

def State.setRed (s : State) (r : RedSt) : State := { s with red := r }

/-! ### Roles (R254, R263) -/

def rNONE : Nat := 0
def rRESOLVING : Nat := 1
def rACTIVE : Nat := 2
def rSTANDBY : Nat := 3
def rOUT : Nat := 4

def State.role (s : State) : Nat := s.gf F.RED_ROLE_ROLE
def State.setRole (s : State) (r : Nat) : State := s.sf F.RED_ROLE_ROLE r
def State.partnerLost (s : State) : Bool := s.bf F.RED_ROLE_PARTNER_LOST
def State.twin (s : State) : Bool := s.bf F.RED_TWIN_CFG_TWIN_EN
def State.redFenced (s : State) : Bool := s.fenced 0x1A
def State.devId (s : State) : Nat := s.gf F.VOX_RING_CFG_DEV_ID
/-- The twin partner's DEV_ID (R276). -/
def State.partnerId (s : State) : Nat := if s.devId % 2 = 0 then s.devId + 1 else s.devId - 1

/-! ### R-tags and keys (R253, R258) -/

/-- Position of the R-tag, if the frame has one whole. -/
def rtagAt (d : List Byte) : Option Nat :=
  let e := beNat (sliceB d 12 2)
  let p := if e = 0x8100 ∨ e = 0x88A8 then 16 else 12
  if p + 6 ≤ d.length ∧ beNat (sliceB d p 2) = 0xF1C1 then some p else none

/-- The frame numbered `q`: reserved bytes zero, sequence field. -/
def withSeq (d : List Byte) (q : Nat) : List Byte :=
  match rtagAt d with
  | some p => patchB d (p + 2) ([0, 0] ++ beBytes 2 q)
  | none => d

/-- The key of a mirrored frame (R258). -/
def mirrorKey (d : List Byte) : Nat :=
  let z := match rtagAt d with | some p => patchB d (p + 4) [0, 0] | none => d
  crc32cOf 0xFFFFFFFF (z.take 6 ++ sliceB z 12 (min z.length 128 - 12))

/-! ### Schedule clocks (R255) -/

/-- Does clock `x` run: enabled, its domain usable? -/
def State.clkOk (s : State) (x : Nat) : Bool := s.bf (F.RED_CLK_CFG_EN x) && s.domOk (s.gf (F.RED_CLK_CFG_DOM x))

/-- v − A. -/
def State.clkPos (s : State) (x : Nat) : Int :=
  (s.whole (s.gf (F.RED_CLK_CFG_DOM x)) : Int) - (s.reg (R.RED_CLK_ANCHOR_LO x) + s.reg (R.RED_CLK_ANCHOR_HI x) * 2 ^ 32 : Nat)

def State.clkCycle (s : State) (x : Nat) : Int := (max 1 (s.gf (F.RED_CLK_CYCLE_VALUE x)) : Nat)

/-- The cycle number now. -/
def State.cycleNo (s : State) (x : Nat) : Int := s.clkPos x / s.clkCycle x

/-- Is the value within GUARD of a boundary? -/
def State.nearEdge (s : State) (x : Nat) : Bool :=
  let r := (s.clkPos x) % (s.clkCycle x)
  let g : Int := s.gf (F.RED_CLK_CFG_GUARD x)
  r ≤ g || s.clkCycle x - r ≤ g

/-! ### Generation (R254, R256) -/

def State.gen (s : State) (i : Nat) : GenSt := s.red.gen.get (fun _ => GenSt.init) i
def State.setGen (s : State) (i : Nat) (v : GenSt) : State :=
  s.setRed { s.red with gen := s.red.gen.set (fun _ => GenSt.init) i v }

/-- Stream cycle of a put now. -/
def State.streamCycle (s : State) (i : Nat) : Int := s.cycleNo (s.gf (F.RED_GEN_CFG_CLK i)) / ((max 1 (s.gf (F.RED_GEN_CFG_DIV i)) : Nat) : Int)

/-- Position of a put now in its stream cycle. -/
def State.streamPos (s : State) (i : Nat) : Nat := if (s.gen i).lastM = some (s.streamCycle i) then (s.gen i).j else 0

def State.isEvent (s : State) (i : Nat) : Bool := s.bf (F.RED_GEN_CFG_KIND i)

/-- The checks of R254 on a put of a frame with contents `d`: the state with its counters, and STATUS. -/
def State.redCheck (s : State) (i : Nat) (d : List Byte) : State × Nat :=
  if !s.bf (F.RED_GEN_CFG_EN i) ∨ (rtagAt d).isNone then (s, 0x13)
  else if s.redFenced ∨ s.role = rOUT ∨ s.role = rNONE then (s, 0x25)
  else if s.isEvent i then (s, 0)
  else if !s.clkOk (s.gf (F.RED_GEN_CFG_CLK i)) then (s.incf F.RED_CNT_NOCLK_COUNT, 0x13)
  else if max 1 (s.gf (F.RED_GEN_CFG_K i)) ≤ s.streamPos i then (s.incf F.RED_CNT_SURPLUS_COUNT, 0x13)
  else (s, 0)

/-! ### Passing frames to YRD (R258, R268) -/

/-- Does flow queue `f` take copies for (o, c) (R229)? -/
def State.fqTakes (s : State) (f o c : Nat) : Bool :=
  s.bf (F.SCH_FQ_CFG_EN f) && s.gf (F.SCH_FQ_CFG_OUT f) == o && s.gf (F.SCH_FQ_CFG_TC f) == c

/-- The leaf a copy joins as it is enqueued: a flow queue that does not take it gives way to the VOQ (R229). -/
def State.joinLeaf (s : State) (k : Token) : State × Token :=
  match k.fq with
  | none => (s, k)
  | some q => if s.fqTakes q k.out k.tc then (s, k) else (s.incf (F.SCH_CNT_FQ_MISMATCH_COUNT k.out), { k with fq := none })

/-- A copy that leaves RED, or a FRM.PUT, is enqueued (R254); the reference it held ends. -/
def State.toQueue (s : State) (k : Token) : State :=
  let (s, k) := s.joinLeaf k
  match s.enqueue k with
  | (s, .ok) => s.dropRef k.frame
  | (s, .full) => ((s.incf (F.YRD_CNT_QFULL_COUNT k.out)).tsLost k).dropRef k.frame
  | (s, .noToken) => (s.tsLost k).dropRef k.frame
  | (s, .flushed) => s.dropRef k.frame

/-- The contribution of a frame to the digest (R268). -/
def digestOf (i q : Nat) (d : List Byte) : Nat :=
  crc32cOf 0xFFFFFFFF (leBytes 2 i ++ leBytes 2 q ++ d.take 6 ++ d.drop 12)

/-- Add a contribution to a cycle's digest. -/
def addDigest (l : List Digest) (n : Int) (c : Nat) : List Digest :=
  if l.any (·.n == n) then l.map (fun x => if x.n = n then { x with d := x.d ^^^ c, cnt := x.cnt + 1 } else x)
  else l ++ [⟨n, c, 1⟩]

/-- Number a frame and pass it to YRD. -/
def State.redPass (s : State) (i q : Nat) (k : Token) : State :=
  match s.frame k.frame with
  | none => s
  | some f =>
    let d := withSeq f.data q
    let s := s.setFrame { f with data := d }
    let x := s.gf F.RED_TWIN_CFG_DIG_CLK
    let s := if s.gf F.RED_TWIN_CFG_SUPV = 2 ∧ s.bf (F.RED_GEN_CFG_DIGEST i) ∧ s.clkOk x then
        s.setRed { s.red with digs := addDigest s.red.digs (s.cycleNo x) (digestOf i q d) } else s
    s.toQueue k

/-- A frame that RED frees (R259). -/
def State.redFree (s : State) (k : Token) : State := ((s.incf F.RED_CNT_UNMATCHED_COUNT).tsLost k).dropRef k.frame

/-! ### Event streams (R258 to R260) -/

/-- Does the active mirror event numbers? -/
def State.mirroring (s : State) : Bool := s.twin && !s.partnerLost

/-- NEXT stands one above `q` at least. -/
def nextAbove (g : GenSt) (q : Nat) : GenSt := { g with next := (q + 1) % 65536 }

/-- Match a frame of stream `i` with the oldest stored entry: `none` where there is none (R259). -/
def State.matchEntry (s : State) (i key : Nat) (k : Token) : Option State :=
  match s.red.mirrors.find? (fun m => m.stream == i) with
  | none => none
  | some m =>
    let s := s.setRed { s.red with mirrors := s.red.mirrors.erase m }
    some (if m.key = key then s.redPass i m.seq k else s.redFree k)

/-- Frames that wait for an acknowledgement are passed: the partner is lost, and the active holds nothing (R258). -/
def State.passHeld (s : State) : State :=
  let l := s.red.held.filter (fun h => h.seq.isSome)
  let s := s.setRed { s.red with held := s.red.held.filter (fun h => h.seq.isNone) }
  l.foldl (fun s h => s.redPass h.stream (h.seq.getD 0) h.tok) s

/-- Hold a frame. -/
def State.redHold (s : State) (i key : Nat) (q : Option Nat) (k : Token) : State :=
  s.setRed { s.red with held := s.red.held ++ [⟨i, k, key, q, s.tick⟩] }

/-- An accepted put on an event stream. -/
def State.eventPut (s : State) (i : Nat) (k : Token) : State :=
  let key := mirrorKey (((s.frame k.frame).map (·.data)).getD [])
  match s.matchEntry i key k with
  | some s => s
  | none =>
    if s.role = rACTIVE ∧ s.red.ho = 0 then
      let q := (s.gen i).next
      let s := s.setGen i (nextAbove (s.gen i) q)
      if s.mirroring then
        let s := if s.linkUp 0 then s.emit .mirror 0 (leBytes 2 i ++ leBytes 2 q ++ leBytes 4 key) else s
        s.redHold i key (some q) k
      else s.redPass i q k
    else s.redHold i key none k

/-- An accepted put on a scheduled stream (R255, R256). -/
def State.schedPut (s : State) (i : Nat) (k : Token) : State :=
  let x := s.gf (F.RED_GEN_CFG_CLK i)
  let m := s.streamCycle i
  let j := s.streamPos i
  let q := wrap 16 (m * ((max 1 (s.gf (F.RED_GEN_CFG_K i)) : Nat) : Int) + j)
  let s := if s.nearEdge x then (s.incf F.RED_CNT_EDGE_COUNT).logRec 0x1A 0x10A1 i (wrap 64 (s.cycleNo x)) else s
  (s.setGen i { s.gen i with lastM := some m, j := j + 1 }).redPass i q k

/-- An accepted FRM.PUT with RED = 1; RED takes over the reference of the handle. -/
def State.redPut (s : State) (i : Nat) (k : Token) : State := if s.isEvent i then s.eventPut i k else s.schedPut i k

/-- The unnumbered held frames are numbered from NEXT in hold order and passed (R260). -/
def State.numberHeld (s : State) : State :=
  let l := s.red.held.filter (fun h => h.seq.isNone)
  let s := s.setRed { s.red with held := s.red.held.filter (fun h => h.seq.isSome) }
  l.foldl (fun s h =>
    let q := (s.gen h.stream).next
    (s.setGen h.stream (nextAbove (s.gen h.stream) q)).redPass h.stream q h.tok) s

/-- MIRROR_RECEIVED (R259): the standby stores and acknowledges an entry; a held frame of the stream is matched with it. -/
def mirrorReceived (i q key : Nat) (s : State) : State :=
  if !(s.role = rSTANDBY ∨ s.role = rRESOLVING) ∨ s.redFenced ∨ !s.linkUp 0 ∨ 4096 ≤ s.red.mirrors.length then s
  else
    let s := s.setRed { s.red with mirrors := s.red.mirrors ++ [⟨i, q, key, s.tick⟩] }
    let s := (s.setGen i (nextAbove (s.gen i) q)).emit .mirrorAck 0 (leBytes 2 i ++ leBytes 2 q)
    match s.red.held.find? (fun h => h.stream == i && h.seq.isNone) with
    | none => s
    | some h =>
      let s := s.setRed { s.red with held := s.red.held.erase h }
      (s.matchEntry i h.key h.tok).getD s

/-! ### Orderly hand-over (R266) -/

/-- Step 3 once every mirror has been acknowledged or has timed out. -/
def State.hoAdvance (s : State) : State :=
  if s.red.ho = 1 ∧ !s.red.held.any (fun h => h.seq.isSome) then
    let l := (List.range 4096).filter (fun i => s.isEvent i && s.bf (F.RED_GEN_CFG_EN i))
    let s := s.emit .handover 0 (l.foldl (fun b i => b ++ leBytes 2 i ++ leBytes 2 (s.gen i).next) [])
    s.setRed { s.red with ho := 2 }
  else s

/-- MIRROR_ACK (R258). -/
def mirrorAck (i q : Nat) (s : State) : State :=
  match s.red.held.find? (fun h => h.stream == i && h.seq == some q) with
  | none => s
  | some h => ((s.setRed { s.red with held := s.red.held.erase h }).redPass i q h.tok).hoAdvance

/-- ACK_TIMEOUT (R258): frames that have waited for ACK_TMO are passed. -/
def ackTimeout (s : State) : State :=
  let t := ticksOfNs (max 1 (s.gf F.RED_MIR_CFG_ACK_TMO))
  let late (h : RedHeld) : Bool := h.seq.isSome && h.since + t ≤ s.tick
  let l := s.red.held.filter late
  let s := s.setRed { s.red with held := s.red.held.filter (fun h => !late h) }
  (l.foldl (fun s h => (s.incf F.RED_CNT_MIR_TMO_COUNT).redPass h.stream (h.seq.getD 0) h.tok) s).hoAdvance

/-- MATCH_WAIT_EXPIRE (R259): frames and entries that have waited for WAIT. -/
def matchWaitExpire (s : State) : State :=
  let t := 250 * max 1 (s.gf F.RED_MIR_CFG_WAIT)
  let late (h : RedHeld) : Bool := h.seq.isNone && h.since + t ≤ s.tick
  let l := s.red.held.filter late
  let old (m : Mirror) : Bool := m.since + t ≤ s.tick
  let n := (s.red.mirrors.filter old).length
  let s := s.setRed { s.red with held := s.red.held.filter (fun h => !late h), mirrors := s.red.mirrors.filter (fun m => !old m) }
  (l.foldl (fun s h => s.redFree h.tok) s).addf F.RED_CNT_ORPHAN_COUNT n

/-- The active starts a hand-over. -/
def State.hoStart (s : State) : State :=
  if s.role ≠ rACTIVE ∨ s.red.ho ≠ 0 ∨ !s.twin then s
  else ((s.setRed { s.red with ho := 1 }).sf F.RED_ROLE_HANDOVER 1).hoAdvance

def State.redRej (s : State) : State := s.sf F.RED_ROLE_CFG_REJ 1

/-- May a hand-over be requested now? -/
def State.hoOk (s : State) : Bool := s.linkUp 0 && !s.partnerLost && s.twin

/-- STEPDOWN (R266): by a write, on the standby's request, or by shedding. -/
def stepdown (r : StepReason) (s : State) : State :=
  match r with
  | .write => if s.role ≠ rACTIVE ∨ !s.hoOk then s.redRej else s.hoStart
  | .request => if s.hoOk then s.hoStart else s
  | .shed =>
    if s.bf F.RED_TWIN_CFG_SHED_SWAP ∧ 2 ≤ s.gf F.PWR_STAT_SH ∧ s.red.peerShed < 2 ∧ s.hoOk then s.hoStart else s

/-- PROMOTE (R266): the standby asks the active to hand over. -/
def promoteReq (s : State) : State :=
  if s.role ≠ rSTANDBY ∨ !s.hoOk then s.redRej else s.emit .handover 0 []

/-- HANDOVER (R266): the NEXT values of the active; this member becomes ACTIVE. -/
def handoverMsg (l : List (Nat × Nat)) (s : State) : State :=
  if !(s.role = rSTANDBY ∨ s.role = rRESOLVING) ∨ s.redFenced ∨ !s.linkUp 0 then s
  else
    let s := l.foldl (fun s x => s.setGen x.1 { s.gen x.1 with next := x.2 % 65536 }) s
    ((s.setRole rACTIVE).numberHeld).emit .handoverAck 0 []

/-- HANDOVER_ACK (R266): the old active becomes STANDBY, or goes OUT after a verdict (R269). -/
def handoverAck (s : State) : State :=
  if s.red.ho ≠ 2 then s
  else
    let r := if s.red.outAfter then rOUT else rSTANDBY
    ((s.setRed { s.red with ho := 0, outAfter := false }).setRole r).sf F.RED_ROLE_HANDOVER 0

/-! ### Sequence recovery (R261, R262) -/

def State.recOf (s : State) (i : Nat) : RecSt := s.red.recs.get (fun _ => RecSt.init) i
def State.setRec (s : State) (i : Nat) (v : RecSt) : State :=
  s.setRed { s.red with recs := s.red.recs.set (fun _ => RecSt.init) i v }

/-- A saturating counter. -/
def sat32 (n : Nat) : Nat := min n (2 ^ 32 - 1)

/-- The vector algorithm on sequence number `q` (R262) with window `win`, at tick `t`: the stream and whether the frame passes. -/
def RecSt.take (r : RecSt) (win t q : Nat) : RecSt × Bool :=
  if r.takeAny then ({ r with recov := q, hist := [q], takeAny := false, pass := sat32 (r.pass + 1), last := t }, true)
  else
    let d := sgn 16 (q + 65536 - r.recov)
    if d ≥ win ∨ d ≤ -(win : Int) then ({ r with rogue := sat32 (r.rogue + 1) }, false)
    else if 0 < d then
      let n := d.toNat
      let gone := (List.range n).map (fun k => (r.recov + 65536 + k + 1 - win) % 65536)
      let lost := (gone.filter (fun x => !r.hist.contains x)).length
      ({ r with hist := r.hist.filter (fun x => !gone.contains x) ++ [q], recov := q, lost := sat32 (r.lost + lost),
                pass := sat32 (r.pass + 1), last := t }, true)
    else if r.hist.contains q then ({ r with dup := sat32 (r.dup + 1) }, false)
    else ({ r with hist := r.hist ++ [q], pass := sat32 (r.pass + 1), last := t }, true)

/-- Recover a frame with contents `d` on stream `i`: does it pass? While RED is fenced it is freed and counted (R277). -/
def State.recover (s : State) (i : Nat) (d : List Byte) : State × Bool :=
  let r := s.recOf i
  match rtagAt d with
  | none => (s.setRec i { r with notag := sat32 (r.notag + 1) }, false)
  | some p =>
    if s.redFenced then (s.setRec i { r with notag := sat32 (r.notag + 1) }, false)
    else
      let (r, ok) := r.take (s.gf (F.RED_REC_CFG_WIN i)) s.tick (beNat (sliceB d (p + 4) 2))
      (s.setRec i r, ok)

/-- RECOVERY_RESET (R262): no frame of the stream has passed for RESET_MS. -/
def recoveryReset (i : Nat) (s : State) : State :=
  let r := s.recOf i
  if !s.bf (F.RED_REC_CFG_EN i) ∨ r.takeAny ∨ s.tick < r.last + 250000 * max 1 (s.gf (F.RED_REC_CFG_RESET_MS i)) then s
  else s.setRec i { r with takeAny := true, resets := sat32 (r.resets + 1) }

/-- The stream that source-MAC and VLAN identification names for a frame on port `p` (R261). -/
def State.smacStream (s : State) (p : Nat) (d : List Byte) : Option Nat :=
  if 8 ≤ p ∨ !bit (s.gf F.RED_SID_CFG_PORTS) p then none
  else
    let e := beNat (sliceB d 12 2)
    let vid := if e = 0x8100 ∨ e = 0x88A8 then beNat (sliceB d 14 2) % 4096 else 0
    match firstIdx (fun x => s.bf (F.RED_SMAC_HI_VALID x) && s.reg (R.RED_SMAC_LO x) == beNat (sliceB d 8 4) &&
        s.gf (F.RED_SMAC_HI_ADDR x) == beNat (sliceB d 6 2) &&
        (s.bf (F.RED_SMAC_HI_ANY_VID x) || s.gf (F.RED_SMAC_HI_VID x) == vid)) 256 with
    | some x => some (s.gf (F.RED_SMAC_STR_STREAM x))
    | none => none

/-! ### Heartbeat (R263 to R267, R408, R409) -/

def State.hbPeriod (s : State) : Nat := 250 * s.gf F.RED_HB_CFG_PERIOD

/-- Bits [23:0] of the heartbeat word. -/
def State.hbBody (s : State) (final : Bool) : Nat :=
  s.devId + (if s.redFenced then rOUT else s.role) * 2 ^ 3 + s.gf F.PWR_STAT_SH * 2 ^ 6 + b2n final * 2 ^ 9 +
    s.gf F.RED_GROOM_STAT_PASS * 2 ^ 10 + s.gf F.RED_ROLE_SUSPECT * 2 ^ 11 + s.gf F.RED_ROLE_DIVERGED * 2 ^ 12 +
    s.red.hbCnt % 256 * 2 ^ 16

/-- CRC-8 over [23:0] of a word. -/
def hbCrc (w : Nat) : Nat := crc8Of 0 (beBytes 3 (w % 2 ^ 24))

def State.hbWord (s : State) (final : Bool) : Nat := s.hbBody final + hbCrc (s.hbBody final) * 2 ^ 24

/-- The half bits of bytes in Manchester code, each byte least significant bit first: 1 is one transition, 0 the other (log 153). -/
def manchester (l : List Byte) : List Byte :=
  l.flatMap (fun b => (List.range 8).flatMap (fun i => if bit b.toNat i = Config.hbOneRises then [0, 1] else [1, 0]))

/-- What HB_TX shows for a word: 40 bits of 1 µs as half bits, and low again (R263). -/
def hbLine (w : List Byte) : List Byte := manchester (0xAB :: w) ++ [0]

/-- Send a word on the enabled paths. -/
def State.sendHb (s : State) (final : Bool) : State :=
  let w := leBytes 4 (s.hbWord final)
  let s := if s.bf F.RED_HB_CFG_WIRE_EN ∧ s.vioA then s.emit .hbWire 0 (hbLine w) else s
  let s := if s.bf F.RED_HB_CFG_VOX_EN ∧ s.linkUp 0 then s.emit .hbVox 0 w else s
  s.setRed { s.red with hbCnt := (s.red.hbCnt + 1) % 256, hbLast := some s.tick }

/-- The health report (R271). -/
def State.healthReport (s : State) : List Byte :=
  let g := s.reg R.RED_GROOM_STAT
  leBytes 2 (bits g 31 16) ++ leBytes 1 (bits g 3 0 + 16 * b2n s.red.roundV) ++ leBytes 1 (s.gf F.PWR_STAT_SH) ++
    leBytes 4 (s.red.delta.getD 0 0) ++ leBytes 2 (s.red.delta.getD 1 0) ++ leBytes 2 (s.red.delta.getD 2 0) ++
    leBytes 5 s.lft.sealed ++ leBytes 1 (s.gf F.VOX_REPL_STAT_BROKEN + 2 * s.gf F.VOX_REPL_STAT_RSYNC) ++
    leBytes 2 (s.reg R.FCU_FIRST) ++ List.replicate 12 0

def State.sendHealth (s : State) : State :=
  let s := s.setRed { s.red with health := s.hbBody false / 2 ^ 10 % 8 }
  if s.linkUp 0 then s.emit .health 0 s.healthReport else s

/-- Does the heartbeat run (R265)? -/
def State.hbRuns (s : State) : Bool :=
  s.bf F.RED_CTL_EN && s.role != rNONE && !s.safe && !s.red.stopped && s.gf F.PWR_STAT_PS < 4

/-- HEARTBEAT_SEND (R263): a period has passed since the last word; a changed summary is reported (R271). -/
def heartbeatSend (s : State) : State :=
  let due := match s.red.hbLast with | none => true | some t => decide (t + s.hbPeriod ≤ s.tick)
  if !s.hbRuns ∨ !due then s
  else
    let s := s.sendHb false
    if s.hbBody false / 2 ^ 10 % 8 = s.red.health then s else s.sendHealth

/-- The summary bits have changed since the last report: the next one goes out (R271). -/
def State.healthSync (s : State) : State :=
  if s.hbRuns && s.hbBody false / 2 ^ 10 % 8 != s.red.health then s.sendHealth else s

/-- Set PIN_CLASH, reporting it when it was clear (R409). -/
def State.pinClash (s : State) : State :=
  if s.bf F.GCTL_STAT_PIN_CLASH then s else (s.sf F.GCTL_STAT_PIN_CLASH 1).raise 0x01 kCONFIG 0

/-- TWIN_ROLE selects standby at start (R409). -/
def State.selectsStandby (s : State) : Bool :=
  if s.bf F.GCTL_STAT_PIN_CLASH then s.devId % 2 == 1 else !s.bf F.GCTL_BOOT_STAT_TWIN_ROLE

/-- RESOLVE_MS in ticks. -/
def State.resolveTicks (s : State) : Nat := 250000 * max 1 (s.gf F.GCTL_TWIN_CFG_RESOLVE_MS)

/-- The partner is lost (R264): promotion of a STANDBY or RESOLVING member. -/
def State.losePartner (s : State) : State :=
  let s := s.sf F.RED_ROLE_PARTNER_LOST 1
  if s.role = rSTANDBY ∨ s.role = rRESOLVING then
    let s := ((s.setRed { s.red with resolving := none }).setRole rACTIVE).numberHeld
    let s := if s.bf F.RED_TWIN_CFG_AUTO_LOFT then replicaWrite false s else s
    (s.logRec 0x1A 0x10A2 rACTIVE (s.gf F.RED_ROLE_PARTNER_ROLE)).incf F.RED_CNT_PROMOTE_COUNT
  else if s.red.ho ≠ 0 then
    ((s.setRed { s.red with ho := 0, outAfter := false }).sf F.RED_ROLE_HANDOVER 0).passHeld.numberHeld
  else s.passHeld

/-- Tick of the last valid word on an enabled path, or of the start. -/
def State.lastWord (s : State) : Nat :=
  let w := if s.bf F.RED_HB_CFG_WIRE_EN then s.red.wireAt.getD 0 else 0
  let v := if s.bf F.RED_HB_CFG_VOX_EN then s.red.voxAt.getD 0 else 0
  max s.red.since (max w v)

/-- PARTNER_LOST (R264): no valid word for three periods. -/
def partnerLostEv (s : State) : State :=
  if !s.bf F.RED_CTL_EN ∨ s.role = rNONE ∨ !s.twin ∨ s.partnerLost ∨ s.tick < s.lastWord + 3 * s.hbPeriod then s
  else s.losePartner

/-- PATH_FAULT (R264): a path has been silent for three periods while the other delivered. -/
def pathFault (p : HbPath) (s : State) : State :=
  let r := s.red
  let en := s.bf F.RED_HB_CFG_WIRE_EN && s.bf F.RED_HB_CFG_VOX_EN && s.twin && s.bf F.RED_CTL_EN
  let (mine, other, rep) := match p with
    | .wire => (r.wireAt, r.voxAt, r.wireRep)
    | .vox => (r.voxAt, r.wireAt, r.voxRep)
  let silent := max r.since (mine.getD 0) + 3 * s.hbPeriod ≤ s.tick
  let other := match other with | some t => decide (s.tick < t + 3 * s.hbPeriod) | none => false
  if !en ∨ rep ∨ !silent ∨ !other then s
  else
    let s := s.setRed (match p with | .wire => { r with wireRep := true } | .vox => { r with voxRep := true })
    (s.sf F.RED_ROLE_PATH_FAULT 1).raise 0x1A kLINK_DOWN 0

/-- The pair is declared DIVERGED (R268, R269): a verdict round starts. -/
def State.diverge (s : State) (start : State → State) : State :=
  if s.bf F.RED_ROLE_DIVERGED then s
  else
    let s := (s.sf F.RED_ROLE_DIVERGED 1).sf F.RED_ROLE_VERDICT_BUSY 1
    start (s.setRed { s.red with divAt := some s.tick, myV := none, digRun := 0 })

/-! ### Groom rounds (R270, R271) -/

/-- DRAM corrected, DRAM uncorrected, SRAM uncorrected errors counted so far. -/
def State.errTotals (s : State) : Nat × Nat × Nat :=
  (s.gf (F.DMC_ECC_CNT_CE 0) + s.gf (F.DMC_ECC_CNT_CE 1), s.gf (F.DMC_ECC_CNT_UE 0) + s.gf (F.DMC_ECC_CNT_UE 1),
    (List.range 8).foldl (fun n b => n + s.gf (F.BRN_ECC_CNT_UE b)) 0)

/-- Bytes of groom frame `k` on port `p` (R270): 64 with the FCS. -/
def groomFrame (p k : Nat) : List Byte := (List.range 60).map (Config.groomByte p k)

/-- A port in loopback sends its 16 groom frames (R270); they are counted and return (R181). -/
def State.groomSend (s : State) (p : Nat) : State :=
  let s := s.setPort p { s.port p with groomRx := 0 }
  if !s.canSend p then s
  else
    let s := s.setPort p { s.port p with free := max (s.port p).free s.tick + s.lineTicks p (16 * 84) }
    (List.range 16).foldl (fun s k =>
      let d := groomFrame p k
      (((s.ethAdd p 31 64).ethInc p 32).ethInc p (destCounter 33 d)).toWire p ⟨.groom, .whole, d, false, s.timeNow⟩ (withFcs d false)) s

/-- Start a round: kernel event, scrub check, and for a groom round the loopbacks. -/
def State.roundStart (s : State) (verdict : Bool) : State :=
  let n := (s.gf F.RED_GROOM_STAT_ROUND + 1) % 65536
  let (ce, ue, sr) := s.errTotals
  let r := s.red
  let clean := ue = r.ueSeen ∧ sr = r.sramSeen
  let s := s.setRed { r with round := some s.tick, roundV := verdict, loopOk := if verdict then none else some true, lastRound := s.tick,
                             ceSeen := ce, ueSeen := ue, sramSeen := sr, delta := [ce - r.ceSeen, ue - r.ueSeen, sr - r.sramSeen] }
  let s := s.sfs [(F.RED_GROOM_STAT_ROUND, n), (F.RED_GROOM_STAT_BUSY, 1), (F.RED_GROOM_STAT_KERNEL_OK, 0),
    (F.RED_GROOM_STAT_SCRUB_OK, b2n clean), (F.RED_GROOM_STAT_LOOP_OK, 0)]
  let s := (s.postEvent (s.gf F.RED_GROOM_Q_QUEUE) n 0x1A).1
  if verdict then s
  else (List.range 8).foldl (fun s p =>
    if !bit (s.gf F.RED_GROOM_CFG_LOOP_PORTS) p then s
    else ((s.setPort p { s.port p with loopEnd := some (s.tick + 250000) }).linkEval p).groomSend p) s

/-- GROOM_ROUND (R270): a STANDBY member's periodic round. -/
def groomRound (s : State) : State :=
  let t := s.gf F.RED_GROOM_CFG_PERIOD
  if s.role ≠ rSTANDBY ∨ t = 0 ∨ s.red.round.isSome ∨ s.tick < s.red.lastRound + 250000000 * t then s else s.roundStart false

/-- KERNEL_SIGNATURE (R270): a write of RED_GROOM_KRES; one after VERDICT_MS counts as a failure. -/
def kernelSignature (v : Nat) (s : State) : State :=
  match s.red.round with
  | none => s
  | some t =>
    if t + 250000 * max 1 (s.gf F.RED_GROOM_CFG_VERDICT_MS) < s.tick then s
    else s.sf F.RED_GROOM_STAT_KERNEL_OK (b2n (v == s.reg R.RED_GROOM_SIG))

/-- LOOPBACK_END (R270): the loopback of port `p` ends; `ok`: the loopback path damaged none of the 16 frames. -/
def loopbackEnd (p : Nat) (ok : Bool) (s : State) : State :=
  match (s.port p).loopEnd with
  | none => s
  | some t =>
    if s.tick < t then s
    else
      let s := (s.setPort p { s.port p with loopEnd := none }).linkEval p
      let s := s.setRed { s.red with loopOk := s.red.loopOk.map (· && ok && (s.port p).groomRx == 16) }
      if s.eth.any (fun q => q.2.loopEnd.isSome) then s else s.sf F.RED_GROOM_STAT_LOOP_OK (b2n (s.red.loopOk == some true))

/-- ROUND_END (R270): every check has passed, or VERDICT_MS has. -/
def roundEnd (s : State) : State :=
  match s.red.round with
  | none => s
  | some t =>
    let loops := s.red.roundV || (s.red.loopOk == some true && !s.eth.any (fun q => q.2.loopEnd.isSome))
    let s := if s.red.roundV then s else s.sf F.RED_GROOM_STAT_LOOP_OK (b2n loops)
    let ok := s.bf F.RED_GROOM_STAT_KERNEL_OK && s.bf F.RED_GROOM_STAT_SCRUB_OK && loops
    if !ok ∧ s.tick < t + 250000 * max 1 (s.gf F.RED_GROOM_CFG_VERDICT_MS) then s
    else
      let s := s.sfs [(F.RED_GROOM_STAT_PASS, b2n ok), (F.RED_GROOM_STAT_BUSY, 0)]
      let s := if s.red.roundV then
          let s := s.setRed { s.red with myV := some ok }
          if s.linkUp 0 then s.emit .verdict 0 (leBytes 1 (b2n ok)) else s
        else s
      let s := s.sendHealth
      s.setRed { s.red with round := none }

/-- HEALTH_REPORT (R271): the partner's report. -/
def healthReceived (l : List Byte) (s : State) : State :=
  if !s.linkUp 0 ∨ !s.bf F.RED_CTL_EN then s
  else (List.range 8).foldl (fun s w => s.setReg (R.RED_HEALTH w) (leNat (sliceB l (4 * w) 4))) s

/-- VERDICT (R269): both verdicts are known or their time has passed; `peer` is the partner's where it has arrived. -/
def verdict (peer : Option Bool) (s : State) : State :=
  match s.red.divAt with
  | none => s
  | some t =>
    let tmo := t + 250000 * max 1 (s.gf F.RED_GROOM_CFG_VERDICT_MS) ≤ s.tick
    if !tmo ∧ (s.red.myV.isNone ∨ peer.isNone) then s
    else
      let mine := s.red.myV == some true
      let theirs := peer == some true
      let act := s.role == rACTIVE
      let a := if act then mine else theirs
      let b := if act then theirs else mine
      let s := s.sfs [(F.RED_ROLE_DIVERGED, 0), (F.RED_ROLE_VERDICT_BUSY, 0)]
      let s := (s.incf F.RED_CNT_DIVERGED_COUNT).setRed { s.red with divAt := none, myV := none }
      let s := s.logRec 0x1A 0x10A4 (b2n a + 2 * b2n b) (s.gf F.RED_ROLE_PARTNER_ROLE)
      if a && b then (if act then s else s.sf F.RED_ROLE_SUSPECT 1)
      else if !a && b then (if act then (s.setRed { s.red with outAfter := true }).hoStart else s)
      else
        let s := if act then (if a then s else s.raise 0x1A kSAFETY 0) else s.setRole rOUT
        s

/-! ### Digests (R268) -/

def State.dig (s : State) (n : Int) : Digest := (s.red.digs.find? (·.n == n)).getD ⟨n, 0, 0⟩

/-- Compare the two digests of a cycle. -/
def State.digCompare (s : State) (mine theirs : Digest) : State :=
  let s := s.setRed { s.red with digs := s.red.digs.filter (·.n != mine.n), peerDigs := s.red.peerDigs.filter (·.n != mine.n) }
  if mine.d = theirs.d ∧ mine.cnt = theirs.cnt then s.setRed { s.red with digRun := 0 }
  else
    let s := (s.setRed { s.red with digRun := s.red.digRun + 1 }).incf F.RED_CNT_DIG_MISMATCH_COUNT
    if max 1 (s.gf F.RED_TWIN_CFG_DIV_THRESH) ≤ s.red.digRun then s.diverge (·.roundStart true) else s

def State.digMode (s : State) : Bool := s.gf F.RED_TWIN_CFG_SUPV == 2 && s.twin && s.clkOk (s.gf F.RED_TWIN_CFG_DIG_CLK)

/-- DIGEST_SEND (R268): the clock has passed boundary n + 1 by GUARD. -/
def digestSend (s : State) : State :=
  let x := s.gf F.RED_TWIN_CFG_DIG_CLK
  let c := s.cycleNo x
  let n := match s.red.digSent with | some k => max (k + 1) (c - 2) | none => c - 1
  if !s.digMode ∨ c ≤ n ∨ (n = c - 1 ∧ (s.clkPos x) % (s.clkCycle x) < (s.gf (F.RED_CLK_CFG_GUARD x) : Int)) then s
  else
    let d := s.dig n
    let s := s.setRed { s.red with digSent := some n, digs := s.red.digs.filter (·.n != n) ++ [d] }
    let s := if s.linkUp 0 then s.emit .digest 0 (leBytes 8 (wrap 64 n) ++ leBytes 4 d.d ++ leBytes 4 d.cnt) else s
    match s.red.peerDigs.find? (·.n == n) with
    | some q => s.digCompare d q
    | none => s

/-- DIGEST_RECEIVED (R268): the partner's digest of cycle `n`. -/
def digestReceived (n : Int) (d cnt : Nat) (s : State) : State :=
  if !s.digMode ∨ !s.linkUp 0 then s
  else
    match s.red.digSent with
    | some k =>
      if k < n then s.setRed { s.red with peerDigs := s.red.peerDigs.filter (·.n != n) ++ [⟨n, d, cnt⟩] }
      else match s.red.digs.find? (·.n == n) with
        | some m => s.digCompare m ⟨n, d, cnt⟩
        | none => s
    | none => s.setRed { s.red with peerDigs := s.red.peerDigs.filter (·.n != n) ++ [⟨n, d, cnt⟩] }

/-- DIGEST_MISSING (R268): no digest of the partner by boundary n + 2, for the oldest cycle sent. -/
def digestMissing (s : State) : State :=
  let c := s.cycleNo (s.gf F.RED_TWIN_CFG_DIG_CLK)
  match s.red.digSent with
  | none => s
  | some k =>
    match s.red.digs.find? (fun m => m.n ≤ k) with
    | none => s
    | some m =>
      if !s.digMode ∨ c < m.n + 2 then s
      else (s.setRed { s.red with digs := s.red.digs.filter (·.n != m.n) }).incf F.RED_CNT_DIG_MISSING_COUNT

/-! ### A heartbeat word arrives (R263, R264, R267, R408) -/

/-- What a RESOLVING member makes of a valid word that does not make the partner lost (R408, R277). -/
def State.resolveOn (s : State) (pr : Nat) : State :=
  let r1 := s.bf F.GCTL_BOOT_STAT_TWIN_ROLE
  if pr = rACTIVE then (s.setRed { s.red with resolving := none }).setRole rSTANDBY
  else if s.red.afterRst then s
  else if r1 ∧ (pr = rRESOLVING ∨ pr = rSTANDBY) then
    ((s.setRed { s.red with actAt := some s.tick, resolving := none }).setRole rACTIVE).numberHeld
  else if pr = rRESOLVING then (if s.red.resolving.isSome then s else s.setRed { s.red with resolving := some s.tick })
  else s.setRed { s.red with resolving := none }

/-- What an ACTIVE member makes of a word that shows the partner ACTIVE (R267, R408). -/
def State.twoActive (s : State) (psh : Nat) : State :=
  let s := match s.red.actAt with
    | some t => if s.tick ≤ t + s.resolveTicks then s.pinClash else s
    | none => s
  let sh := s.gf F.PWR_STAT_SH
  if psh < sh ∨ (psh = sh ∧ s.selectsStandby) then
    let s := (s.setRole rSTANDBY).setRed { s.red with ho := 0, outAfter := false }
    let s := s.sf F.RED_ROLE_HANDOVER 0
    let s := if s.bf F.RED_TWIN_CFG_AUTO_LOFT then replicaWrite true s else s
    s.replBreak.logRec 0x1A 0x10A3 rSTANDBY rACTIVE
  else s

/-- HEARTBEAT_RECEIVED (R263, R264). -/
def heartbeatReceived (p : HbPath) (w : Nat) (s : State) : State :=
  let path := match p with
    | .wire => s.bf F.RED_HB_CFG_WIRE_EN && s.vioA
    | .vox => s.bf F.RED_HB_CFG_VOX_EN && s.linkUp 0
  if !s.bf F.RED_CTL_EN ∨ s.role = rNONE ∨ !path ∨ s.red.stopped then s
  else if bits w 31 24 ≠ hbCrc w ∨ bits w 1 0 ≠ s.partnerId then s.incf F.RED_CNT_HB_BAD_COUNT
  else
    let pr := bits w 5 3
    let sh := bits w 8 6
    let lost := bit w 9 || pr == rOUT || 3 ≤ sh
    let r := s.red
    let div := bit w 12 && !r.peerDiv
    let s := s.setRed (match p with
      | .wire => { r with wireAt := some s.tick, wireRep := false, peerShed := sh, peerDiv := bit w 12 }
      | .vox => { r with voxAt := some s.tick, voxRep := false, peerShed := sh, peerDiv := bit w 12 })
    let s := s.sf F.RED_ROLE_PARTNER_ROLE pr
    if !s.twin then s
    else if lost then s.losePartner
    else
      let s := s.sf F.RED_ROLE_PARTNER_LOST 0
      let s := if s.role = rRESOLVING then s.resolveOn pr
        else if s.role = rACTIVE ∧ pr = rACTIVE then s.twoActive sh else s
      if div ∧ s.gf F.RED_TWIN_CFG_SUPV = 2 then s.diverge (·.roundStart true) else s

/-- RESOLVE_TIMEOUT (R408): with TWIN_ROLE 0 the partner has shown RESOLVING for RESOLVE_MS. -/
def resolveTimeout (s : State) : State :=
  match s.red.resolving with
  | none => s
  | some t =>
    if s.role ≠ rRESOLVING ∨ s.red.afterRst ∨ s.bf F.GCTL_BOOT_STAT_TWIN_ROLE ∨ s.tick < t + s.resolveTicks then s
    else
      let s := (s.setRed { s.red with resolving := none }).pinClash
      if s.devId % 2 = 0 then (s.setRole rACTIVE).numberHeld else s

/-! ### RED registers and block reset (R277, R278, R408) -/

/-- RED_ENABLE (R408): the partner is lost from EN on only. A member that is OUT stays so until a block or cold reset (R269). -/
def redEnable (s : State) : State :=
  if s.bf F.RED_CTL_EN then s
  else if s.red.stopped then s.sf F.RED_CTL_EN 1
  else
    let s := (s.sf F.RED_CTL_EN 1).setRed { s.red with since := s.tick, wireAt := none, voxAt := none, resolving := none, actAt := none,
                                                        hbLast := none, wireRep := false, voxRep := false }
    let s := s.sf F.RED_ROLE_PARTNER_LOST 0
    if s.role = rOUT then s else s.setRole (if s.twin then rRESOLVING else rACTIVE)

/-- EN = 0: the member is in no role, or stays OUT (R269). -/
def State.redOff (s : State) : State :=
  if s.bf F.RED_CTL_EN then
    ((s.sf F.RED_CTL_EN 0).setRole (if s.role = rOUT then rOUT else rNONE)).setRed { s.red with ho := 0, outAfter := false, resolving := none }
  else s

/-- RED_BLOCK_RESET (R277). -/
def redReset (s : State) : State :=
  let s := (s.beginReset 0x1A).endFence 0x1A
  let l := s.red.held.map (·.tok)
  let s := l.foldl (fun s k => (s.tsLost k).dropRef k.frame) (s.setRed { s.red with held := [] })
  let recs := s.red.recs.map (fun x => (x.1, { x.2 with takeAny := true }))
  let s := s.setRed { RedSt.init with recs := recs, afterRst := true, hbCnt := s.red.hbCnt, ueSeen := s.red.ueSeen, ceSeen := s.red.ceSeen,
                                      sramSeen := s.red.sramSeen, lastRound := s.red.lastRound, stopped := s.red.stopped }
  let s := s.sfs [(F.RED_CTL_EN, 0), (F.RED_ROLE_ROLE, rNONE), (F.RED_ROLE_PARTNER_ROLE, 0), (F.RED_ROLE_PARTNER_LOST, 0),
    (F.RED_ROLE_HANDOVER, 0), (F.RED_ROLE_DIVERGED, 0), (F.RED_ROLE_VERDICT_BUSY, 0), (F.RED_GROOM_STAT_BUSY, 0)]
  s.endReset 0x1A

/-- A write of RED_CTL. -/
def redCtl (v : Nat) (s : State) : State :=
  let s := if bit v 31 then s.sf F.RED_CTL_LOCK 1 else s
  if bit v 1 then redReset s
  else
    let s := if bit v 0 then redEnable s else s.redOff
    let s := if bit v 4 then stepdown .write s else s
    if bit v 3 then promoteReq s else s

/-- RED_SEL (R278): a stream's snapshot. -/
def redSel (v : Nat) (s : State) : State :=
  let i := bits v 11 0
  let g := s.gen i
  let r := s.recOf i
  let s := s.sfs [(F.RED_SEL_STREAM, i), (F.RED_SEL_VALID, 1), (F.RED_SEL_GEN_NEXT, g.next), (F.RED_SEL_GEN_J, g.j),
    (F.RED_SEL_REC_RECOV, r.recov), (F.RED_SEL_REC_TAKE_ANY, b2n r.takeAny)]
  s.sfs [(F.RED_SEL_CNT_VALUE 0, r.pass), (F.RED_SEL_CNT_VALUE 1, r.dup), (F.RED_SEL_CNT_VALUE 2, r.rogue),
    (F.RED_SEL_CNT_VALUE 3, r.lost), (F.RED_SEL_CNT_VALUE 4, r.notag), (F.RED_SEL_CNT_VALUE 5, r.resets)]

/-- A write of RED_CLK_CFG[x]. -/
def redClk (x v : Nat) (s : State) : State :=
  if s.bf F.RED_CTL_LOCK then s
  else if (s.bf (F.RED_CLK_CFG_EN x) ∧ bits v 2 0 ≠ s.gf (F.RED_CLK_CFG_DOM x)) ∨ (bit v 31 ∧ s.reg (R.RED_CLK_CYCLE x) = 0) then s.redRej
  else s.plainWrite (R.RED_CLK_CFG x) v false

/-- A write of an anchor or cycle register of clock `x`. -/
def redClkVal (off x v : Nat) (s : State) : State :=
  if s.bf F.RED_CTL_LOCK then s else if s.bf (F.RED_CLK_CFG_EN x) then s.redRej else s.plainWrite off v false

/-- A write of RED_GEN_CFG[i]. -/
def redGenCfg (i v : Nat) (s : State) : State :=
  if s.bf (F.RED_GEN_CFG_EN i) ∧ bit v 31 then s.redRej
  else
    let s := s.plainWrite (R.RED_GEN_CFG i) v false
    if bit v 31 then s.setGen i GenSt.init else s

/-- A write of RED_REC_CFG[i] (R262). -/
def redRecCfg (i v : Nat) (s : State) : State :=
  if bits v 23 16 < 1 ∨ 128 < bits v 23 16 then s.redRej
  else (s.plainWrite (R.RED_REC_CFG i) v false).setRec i { s.recOf i with takeAny := true }

/-- A write of RED_TWIN_CFG or RED_HB_CFG. -/
def redCfg (off v : Nat) (s : State) : State :=
  let lock := s.bf F.RED_CTL_LOCK
  let bad := if off = R.RED_TWIN_CFG then bits v 2 1 ≠ 1 ∧ bits v 2 1 ≠ 2 else bits v 13 0 < 100 ∨ 10000 < bits v 13 0
  if lock then s else if bad then s.redRej else s.plainWrite off v false

/-! ### Voxam links (R273, R275, R277) -/

def State.setReplays (s : State) (l n : Nat) : State := { s with vox := { s.vox with replays := setAt s.vox.replays l n } }

/-- Link `l` falls. -/
def State.voxFall (s : State) (l : Nat) : State :=
  if !s.linkUp l then s
  else
    let s := (s.sfs [(F.VOX_LINK_STAT_UP l, 0), (F.VOX_LINK_STAT_DOWN_EV l, 1), (F.VOX_LINK_STAT_LANES_UP l, 0),
      (F.VOX_LINK_STAT_DEGRADED l, 0)]).setReplays l 0
    let s := s.raise 0x1B kLINK_DOWN l
    if l = 0 then s.replBreak else s

/-- VOX_LINK_DOWN (R275): the link is lost. -/
def voxLinkDown (l : Nat) (s : State) : State := s.voxFall l

/-- VOX_LINK_UP (R275): the link trains on the lanes named. -/
def voxLinkUp (l lanes peer : Nat) (s : State) : State :=
  if !bit (s.gf F.VOX_CTL_EN) l ∨ s.safe ∨ 3 ≤ s.gf F.PWR_STAT_SH ∨ 3 ≤ s.gf F.PWR_STAT_PS ∨ lanes = 0 ∨ s.linkUp l then s
  else
    let s := (s.sfs [(F.VOX_LINK_STAT_UP l, 1), (F.VOX_LINK_STAT_LANES_UP l, lanes), (F.VOX_LINK_STAT_DEGRADED l, b2n (lanes != 3)),
      (F.VOX_LINK_STAT_PEER_ID l, peer)]).setReplays l 0
    if l = 0 then s.replDrain else s

/-- VOX_MESSAGE_RECEIVED (R275): acknowledged, or counted and replayed; eight replays without progress take the link down. -/
def voxMessage (l : Nat) (m : VoxRx) (s : State) : State :=
  if !s.linkUp l then s
  else match m with
    | .good c => s.emit .voxAck l (leBytes 1 c.val)
    | .badCrc => s.incf (F.VOX_CNT_CRC_COUNT l)
    | .progress => s.setReplays l 0
    | .replay =>
      let n := s.vox.replays.getD l 0 + 1
      let s := (s.incf (F.VOX_CNT_RETRY_COUNT l)).setReplays l n
      if 8 ≤ n then s.voxFall l else s

/-- The degrade action of VOX (R360): link `l` runs on one lane. -/
def State.voxDegrade (s : State) (l : Nat) : State :=
  if s.linkUp l then s.sf (F.VOX_LINK_STAT_DEGRADED l) 1 else s

/-- VOX_BLOCK_RESET (R277). -/
def voxReset (s : State) : State := (((s.beginReset 0x1B).voxFall 0).voxFall 1).endReset 0x1B

/-- A write of VOX_CTL. -/
def voxCtl (v : Nat) (s : State) : State :=
  let s := if bit v 31 then s.sf F.VOX_CTL_LOCK 1 else s
  let s := s.sf F.VOX_CTL_EN (bits v 1 0)
  let s := if bit v 0 then s else s.voxFall 0
  let s := if bit v 1 then s else s.voxFall 1
  if bit v 2 then voxReset s else s

/-! ### Peer messages (R276) -/

/-- The link toward a device. -/
def State.peerLink (s : State) (d : Nat) : Nat := if d = s.partnerId then 0 else if s.linkUp 1 then 1 else 0

/-- Deliver a message to its queue, or drop it. -/
def State.peerDeliver (s : State) (l : Nat) (m : List Byte) : State :=
  let q := leNat (sliceB m 2 2)
  if !s.wideQueue q then s.incf (F.VOX_CNT_DROP_COUNT l)
  else (s.deliver q m [F.VOX_CNT_DROP_COUNT l]).1

/-- PEER_MESSAGE (R276): a message from the transmit queue is routed; one from a link is delivered, forwarded or dropped. -/
def peerMessage (o : PeerSrc) (s : State) : State :=
  if !s.bf F.VOX_RING_CFG_RING_EN then s
  else match o with
    | .queue =>
      if !s.dramUp || !s.dramIdle cQM then s
      else match s.qTake (s.gf F.VOX_Q_CFG_PEER_TX_Q) with
      | (s', .got m _) =>
        let d := (m.headD 0).toNat % 4
        let m := patchB (sliceB m 0 64) 1 (leBytes 1 s.devId)
        if d = s.devId then s'.peerDeliver 0 m
        else if s.linkUp (s.peerLink d) then s'.emit .peer (s.peerLink d) (leBytes 1 3 ++ m) else s
      | (s', .memErr) => s'
      | _ => s
    | .link l h m =>
      let m := sliceB m 0 64
      if !s.linkUp l.val then s
      else if (m.headD 0).toNat % 4 = s.devId then s.peerDeliver l.val m
      else if h.val = 0 ∨ !s.linkUp (1 - l.val) then s.incf (F.VOX_CNT_DROP_COUNT l.val)
      else s.emit .peer (1 - l.val) (leBytes 1 (h.val - 1) ++ m)

/-- RED stops at SH4 and stays stopped (R391). -/
def redRun (f : State → State) (s : State) : State := if s.red.stopped then s else f s

end Sys2Proof.Machine
end

