-- ==== Sys2Proof/Machine/Classify.lean ====
section
/-! DEFINITION. Reception and classification (R183 to R185, R194, R206, R208 to R220), FRM.PUT, the flow table and the registers and block
reset of YRD (R205, R225, R226). -/
namespace Sys2Proof.Machine

/-! ### Flow keys and the hash (R208, R209) -/

/-- Position of the EtherType after the tags. -/
def etherAt (d : List Byte) : Nat → Nat → Nat
  | p, 0 => p
  | p, n + 1 =>
    let e := beNat (sliceB d p 2)
    if e = 0x8100 ∨ e = 0x88A8 then etherAt d (p + 4) n else p

/-- Is there an outer tag (R185)? -/
def tagged (d : List Byte) : Bool := let e := beNat (sliceB d 12 2); e == 0x8100 || e == 0x88A8

/-- The outer tag's control information. -/
def tciOf (d : List Byte) : Nat := beNat (sliceB d 14 2)

/-- The L2 key. -/
def keyL2 (i : Nat) (d : List Byte) : List Byte :=
  sliceB d 0 6 ++ leBytes 2 (if tagged d then tciOf d % 4096 else 0) ++ sliceB d (etherAt d 12 28) 2 ++ [0, 0] ++ leBytes 4 (i % 16)

/-- Exclusive-or of four 4-byte groups. -/
def fold16 (l : List Byte) : List Byte :=
  (List.range 4).map (fun k => (l.getD k 0) ^^^ (l.getD (k + 4) 0) ^^^ (l.getD (k + 8) 0) ^^^ (l.getD (k + 12) 0))

/-- Port fields of TCP or UDP at an offset, else zero. -/
def portBytes (d : List Byte) (proto o : Nat) : List Byte := if proto = 6 ∨ proto = 17 then sliceB d o 4 else [0, 0, 0, 0]

/-- The 16 key bytes of a frame from input `i` under KEYSEL `sel` (R208). -/
def flowKey (i sel : Nat) (d : List Byte) : List Byte :=
  let e := etherAt d 12 28
  let l := e + 2
  let ty := beNat (sliceB d e 2)
  let b0 := (d.getD l 0).toNat
  if sel = 1 ∧ ty = 0x0800 ∧ b0 / 16 = 4 ∧ l + 20 ≤ d.length then
    let pr := (d.getD (l + 9) 0).toNat
    sliceB d (l + 12) 8 ++ portBytes d pr (l + b0 % 16 * 4) ++ leBytes 1 pr ++ leBytes 1 (i % 16) ++ [0, 0]
  else if sel = 2 ∧ ty = 0x86DD ∧ b0 / 16 = 6 ∧ l + 40 ≤ d.length then
    let pr := (d.getD (l + 6) 0).toNat
    fold16 (sliceB d (l + 8) 16) ++ fold16 (sliceB d (l + 24) 16) ++ portBytes d pr (l + 40) ++ leBytes 1 pr ++ leBytes 1 (i % 16) ++ [0, 0]
  else keyL2 i d

/-- The flow hash (R209). -/
def State.flowHash (s : State) (key : List Byte) : Nat := crc32cOf (s.reg R.YRD_HASH_SEED) key

/-! ### The flow table (R210, R211, R226) -/

def State.ftEnt (s : State) (x : Nat) : FtEnt := s.yrd.ft.get (fun _ => FtEnt.init) x
def FtEnt.valid (e : FtEnt) : Bool := bit e.act 31

/-- The index of the entry that a key of hash `h` hits: the lowest way. -/
def State.ftFind (s : State) (key : BitVec 128) (h : Nat) : Option Nat :=
  match firstIdx (fun w => let e := s.ftEnt (h % 2 ^ 14 * 4 + w); e.valid && e.key == key) 4 with
  | some w => some (h % 2 ^ 14 * 4 + w)
  | none => none

/-- Does a lookup in the bucket of `h` meet an uncorrected error (R224)? -/
def State.ftBadBucket (s : State) (h : Nat) : Bool :=
  (List.range 4).any (fun w => s.yrd.ftBad.get (fun _ => false) (h % 2 ^ 14 * 4 + w))

/-- The key registers. -/
def State.keyRegs (s : State) : List Byte := (List.range 4).foldl (fun l w => l ++ leBytes 4 (s.reg (R.YRD_FT_KEY w))) []

/-- A command completes (R226). -/
def State.ftDone (s : State) (status ver : Nat) : State :=
  s.sfs [(F.YRD_FT_RES_VALID, 1), (F.YRD_FT_RES_STATUS, status), (F.YRD_FT_RES_TAG, s.gf F.YRD_FT_RES_TAG + 1), (F.YRD_FT_RES_VER, ver)]

/-- A flow-table write of entry `x` (R211): VER, GEN, SETTLED. -/
def State.ftPut (s : State) (x : Nat) (e : FtEnt) : State :=
  let v := ((s.ftEnt x).ver + 1) % 65536
  let s := s.setYrd { s.yrd with ft := s.yrd.ft.set (fun _ => FtEnt.init) x { e with ver := v },
                                 ftBad := s.yrd.ftBad.set (fun _ => false) x false, ftSeq := s.yrd.ftSeq + 1 }
  let s := s.sfs [(F.YRD_FT_STAT_GEN, s.gf F.YRD_FT_STAT_GEN + 1), (F.YRD_FT_STAT_SETTLED, 0)]
  s.ftSettle

/-- While the table is invalidated a command ends with BUSY_INIT (R225). -/
def State.ftRun (s : State) (f : State → State) : State :=
  if s.bf F.YRD_STAT_INIT_BUSY then s.ftDone 4 0 else f s

/-- FT_READ (R226). -/
def ftRead (x : Nat) (s : State) : State :=
  s.ftRun (fun s =>
    let e := s.ftEnt x
    let s := (List.range 4).foldl (fun s w => s.setReg (R.YRD_FT_KEY w) (e.key.toNat / 2 ^ (32 * w) % 2 ^ 32)) s
    ((s.setReg R.YRD_FT_ACT e.act).setReg R.YRD_FT_ACT2 e.act2).ftDone 0 e.ver)

/-- FT_WRITE (R226): BUCKET, DUP; an entry with a reserved action is written with VALID = 0 (R210). -/
def ftWrite (x : Nat) (s : State) : State :=
  s.ftRun (fun s =>
    let key := BitVec.ofNat 128 (leNat s.keyRegs)
    let h := s.flowHash s.keyRegs
    let act := s.reg R.YRD_FT_ACT
    if x / 4 ≠ h % 2 ^ 14 then s.ftDone 2 (s.ftEnt x).ver
    else if (List.range 4).any (fun w => x / 4 * 4 + w != x && (s.ftEnt (x / 4 * 4 + w)).valid && (s.ftEnt (x / 4 * 4 + w)).key == key) then
      s.ftDone 3 (s.ftEnt x).ver
    else
      let act := if 5 ≤ bits act 30 28 then setBits act 31 31 0 else act
      let s := s.ftPut x { key := key, act := act, act2 := s.reg R.YRD_FT_ACT2, ver := 0 }
      s.ftDone 0 (s.ftEnt x).ver)

/-- FT_INVALIDATE (R226). -/
def ftInvalidate (x : Nat) (s : State) : State :=
  s.ftRun (fun s =>
    let e := s.ftEnt x
    let s := s.ftPut x { e with act := setBits e.act 31 31 0 }
    s.ftDone 0 (s.ftEnt x).ver)

/-- FT_LOOKUP (R226). -/
def ftLookup (s : State) : State :=
  s.ftRun (fun s =>
    let h := s.flowHash s.keyRegs
    if s.ftBadBucket h then ((s.sf F.YRD_STAT_MEM_UE 1).raise 0x18 kUE 0).ftDone 1 0
    else match s.ftFind (BitVec.ofNat 128 (leNat s.keyRegs)) h with
      | some x => (s.setReg R.YRD_FT_IDX x).ftDone 0 (s.ftEnt x).ver
      | none => s.ftDone 1 0)

/-- A write of YRD_FT_CMD. -/
def ftCmd (v : Nat) (s : State) : State :=
  match bits v 31 30 with
  | 0 => ftRead (bits v 15 0) s
  | 1 => ftWrite (bits v 15 0) s
  | 2 => ftInvalidate (bits v 15 0) s
  | _ => ftLookup s

/-- INIT_DONE (R225): the invalidation after a reset is complete. -/
def initDone (s : State) : State := s.sf F.YRD_STAT_INIT_BUSY 0

/-! ### What a classified frame becomes (R210 to R220) -/

/-- Make one copy of a received frame on output `o` (R215, R216, R229). `fq`: the entry's flow queue. -/
def State.copyTo (s : State) (h o c : Nat) (fq : Option Nat) : State :=
  match s.frame h with
  | none => s
  | some f =>
    let (s, k) := s.joinLeaf { frame := h, input := f.input, out := o, tc := c, fq := fq, tick := s.tick, ts := none, hash := f.hash }
    match s.enqueue k with
    | (s, .full) => s.incf (F.YRD_CNT_QFULL_COUNT o)
    | (s, _) => s

/-- The member of aggregate `a` that takes a flow of hash `h` (R218). -/
def State.aggMember (s : State) (a h : Nat) : Option Nat :=
  let l := (List.range 8).filter (fun p => bit (s.gf (F.YRD_AGG_MEMBERS a)) p)
  let up := l.filter (fun p => s.ethLink p && !s.fenced (0x10 + p))
  if up.isEmpty then l.head? else up[h / 2 ^ 24 % 256 % up.length]?

/-- Frame freed by action DROP. -/
def State.dropFrame (s : State) (i h : Nat) : State := (s.incf (F.YRD_CNT_DROP_COUNT i)).dropRef h

/-- Deliver to the thread that pin group `g` gives (R212). -/
def State.toP8 (s : State) (g h hash : Nat) : State :=
  let x := hash / 2 ^ 16 % 1024
  s.deliverPin (g, x) (pinIndex (s.gf (F.YRD_PGRP_BASE g)) (s.gf (F.YRD_PGRP_SIZE g)) x) h

/-- A sampled copy (R220): only where a cell of the shared pool and room on the list are found. -/
def State.sample (s : State) (x h : Nat) : State :=
  let n := s.gf (F.YRD_SMP_N x)
  match s.frame h with
  | none => s
  | some f =>
    if n = 0 then s
    else
      let c := s.yrd.smp.get (fun _ => 0) x + 1
      let s := s.setYrd { s.yrd with smp := s.yrd.smp.set (fun _ => 0) x (c % n) }
      if c % n ≠ 0 then s
      else
        let t := s.gf (F.YRD_SMP_DST_THREAD x)
        let m := max 1 (min 252 (s.gf (F.YRD_SMP_TRUNC x)))
        let data := f.data.take (min f.data.length m) ++ leBytes 4 (f.data.length % 65536 + x * 2 ^ 16)
        let lost := s.incf (F.YRD_CNT_SMP_DROP_COUNT x)
        if max 1 (s.gf F.YRD_POOL_P8_MAX) ≤ (s.dlvOf t).length then lost
        else match s.newFrame { Frame.blank 8 data with stamp := f.stamp, pri := f.pri, pcp := f.pcp, flow := f.flow, fver := f.fver } false with
          | some (s, h') => s.deliverTo t h' none
          | none => lost

/-- Class of a copy (R215). -/
def State.copyClass (s : State) (f : Frame) (e : Option FtEnt) : Nat :=
  match e with
  | some e => if bit e.act 15 then bits e.act 14 12 else if f.pcp then f.pri else s.gf (F.YRD_PORT_CFG_DEF_TC f.input)
  | none => if f.pcp then f.pri else s.gf (F.YRD_PORT_CFG_DEF_TC f.input)

/-- The recovery stream of a frame (R261). -/
def State.recStream (s : State) (f : Frame) (e : Option FtEnt) : Option Nat :=
  let i := match e with
    | some e => if bit e.act2 15 then (if s.gf (F.YRD_PORT_CFG_KEYSEL f.input) = 0 then some (bits e.act2 11 0) else none) else s.smacStream f.input f.data
    | none => s.smacStream f.input f.data
  match i with
  | some i => if s.bf (F.RED_REC_CFG_EN i) then some i else none
  | none => none

/-- The action of a hit: what YRD does with a frame that passed recovery. -/
def State.ftAction (s : State) (h : Nat) (f : Frame) (e : FtEnt) : State :=
  let c := s.copyClass f (some e)
  let fq := if bit e.act2 31 then some (bits e.act2 29 16) else none
  let out := bits e.act 27 24
  match bits e.act 30 28 with
  | 1 => if out < 8 ∨ out = 9 then (s.copyTo h out c fq).dropRef h else s.dropFrame f.input h
  | 2 => match s.aggMember (out % 4) f.hash with
    | some p => (s.copyTo h p c fq).dropRef h
    | none => s.dropFrame f.input h
  | 3 =>
    let m := s.gf (F.YRD_MCG_OUTS (bits e.act 23 16))
    let outs := ([0, 1, 2, 3, 4, 5, 6, 7, 9] : List Nat).filter (fun o => bit m o && o != f.input)
    (outs.foldl (fun s o => s.copyTo h o c fq) s).dropRef h
  | 4 => s.toP8 (bits e.act 19 16) h f.hash
  | _ => s.dropFrame f.input h

/-- The action of a miss. -/
def State.missAction (s : State) (h : Nat) (f : Frame) : State :=
  match s.gf (F.YRD_PORT_CFG_MISS f.input) with
  | 1 => s.toP8 (s.gf (F.YRD_PORT_CFG_PGRP f.input)) h f.hash
  | 2 => (s.copyTo h 9 (s.copyClass f none) none).dropRef h
  | _ => s.dropFrame f.input h

/-- Would the action enqueue or deliver the frame? -/
def State.wouldPass (s : State) (f : Frame) (e : Option FtEnt) : Bool :=
  match e with
  | some e => 1 ≤ bits e.act 30 28 && bits e.act 30 28 ≤ 4
  | none => let m := s.gf (F.YRD_PORT_CFG_MISS f.input); m == 1 || m == 2

/-- Look frame `h` up (R208 to R211): what it hits is captured in the frame's metadata. The entry hit, if any. -/
def State.lookUp (s : State) (h : Nat) : State × Option FtEnt :=
  match s.frame h with
  | none => (s, none)
  | some f =>
    let i := f.input
    let key := flowKey i (s.gf (F.YRD_PORT_CFG_KEYSEL i)) (f.data.take 128)
    let hash := s.flowHash key
    let on := s.bf (F.YRD_PORT_CFG_CLS_EN i)
    let bad := on && s.ftBadBucket hash
    let hit := if on && !bad then s.ftFind (BitVec.ofNat 128 (leNat key)) hash else none
    let s := if bad then (s.sf F.YRD_STAT_MEM_UE 1).raise 0x18 kUE 0 else s
    let e := hit.map s.ftEnt
    (s.setFrame { f with hash := hash, gen := some s.yrd.ftSeq, flow := hit.getD 0, fver := (e.map (·.ver)).getD 0 }, e)

/-- A frame that ETH delivers whole takes the action captured for it (R210 to R220); the caller's reference goes with it. -/
def State.ftApply (s : State) (h : Nat) (e : Option FtEnt) : State :=
  match s.frame h with
  | none => s
  | some f =>
    let s := if e.isNone then s.incf (F.YRD_CNT_MISS_COUNT f.input) else s
    let s := match e with
      | some e => if bit e.act 7 then s.sample (bits e.act 11 8) h else s
      | none => s
    let (s, pass) := match s.recStream f e with
      | some r => if s.wouldPass f e then s.recover r f.data else (s, true)
      | none => (s, true)
    if !pass then s.dropRef h
    else match e with
      | some e => s.ftAction h f e
      | none => s.missAction h f

/-- Classify frame `h` and carry out its action (R208 to R220). -/
def State.classify (s : State) (h : Nat) : State :=
  let (s, e) := s.lookUp h
  s.ftApply h e

/-! ### Reception (R183 to R185, R194) -/

/-- Domain 0 a time `ago` (2^-32 ns) before now: value, era, state byte as they stood then (R132). -/
def State.dom0At (s : State) (ago : Nat) : Nat × Nat × Nat :=
  let back (v t : Nat) : Nat := v - t * (s.dom 0).incr / 2 ^ 34
  match s.tbu.past.find? (fun m => s.timeNow < m.1 * 2 ^ 34 + ago) with
  | some (t, v, e, st) => (back v (ago - (s.timeNow - t * 2 ^ 34)), e, st)
  | none => (back (s.dom 0).val ago, s.era 0, s.stampState 0)

/-- The receive stamp of a frame whose SFD crossed the boundary `ago` earlier (R132). -/
def State.rxStamp (s : State) (p ago : Nat) : BitVec 256 :=
  let (v, e, st) := s.dom0At ago
  BitVec.ofNat 256 (leNat (stampRec 0 (v - s.gf (F.TBU_PHY_DLY_RX p) * 2 ^ 28) e st 1 p 0))

/-- A frame in the yard as ETH delivers it: priority from the tag, or DEF_PRI. -/
def State.rxProto (s : State) (p : Nat) (d : List Byte) (stamp : BitVec 256) (err : Bool) : Frame :=
  { Frame.blank p d with pri := if tagged d then tciOf d / 2 ^ 13 else s.gf (F.ETH_FC_CFG_DEF_PRI p), pcp := tagged d, err := err, stamp := stamp }

/-- The size counter of a frame of `n` bytes, FCS included. -/
def sizeCounter (n : Nat) : Nat :=
  if n ≤ 64 then 6 else if n ≤ 127 then 7 else if n ≤ 255 then 8 else if n ≤ 511 then 9 else if n ≤ 1023 then 10 else if n ≤ 1518 then 11 else 12

/-- Counters of a frame delivered unflagged. -/
def State.rxCount (s : State) (p : Nat) (d : List Byte) : State :=
  let s := ((s.ethAdd p 0 (d.length + 4)).ethInc p 1).ethInc p (destCounter 2 d)
  (if tagged d then s.ethInc p 5 else s).ethInc p (sizeCounter (d.length + 4))

/-- Hand a frame to YRD: `none` where it finds no cell (R206). -/
def State.toYard (s : State) (p : Nat) (f : Frame) : Option (State × Nat) :=
  if !s.bf F.YRD_CTL_EN then none
  else match s.newFrame f false with
    | some (s, h) => some (s.flowCheck p, h)
    | none => none

/-- A flagged frame (R184). -/
def State.rxFlagged (s : State) (p : Nat) (d : List Byte) (stamp : BitVec 256) : State :=
  if !s.bf (F.ETH_ERR_DST_ERR_FWD p) then s
  else match s.toYard p (s.rxProto p d stamp true) with
    | some (s, h) => (s.ethInc p 20).deliverTo (s.gf (F.ETH_ERR_DST_THREAD p)) h none
    | none => s.ethInc p 21

/-- A MAC control frame (R183, R188). -/
def State.rxControl (s : State) (p : Nat) (d : List Byte) : State :=
  let op := beNat (sliceB d 14 2)
  if sliceB d 0 6 ≠ [0x01, 0x80, 0xC2, 0x00, 0x00, 0x01] then s.pauseAct p .other
  else if op = 1 then s.pauseAct p (.pause (BitVec.ofNat 16 (beNat (sliceB d 16 2))))
  else if op = 0x101 then
    s.pauseAct p (.pfc (BitVec.ofNat 8 (beNat (sliceB d 16 2))) ((List.range 8).map (fun i => BitVec.ofNat 16 (beNat (sliceB d (18 + 2 * i) 2)))))
  else s.pauseAct p .other

/-- A frame that ETH does not deliver whole gives back the cells its fragments took, before `f` treats it. -/
def State.rxBad (s : State) (p : Nat) (got : Option Nat) (f : State → State) : State :=
  match got.bind s.frame with
  | none => f s
  | some x => ((f (s.freeFrame x)).flowCheck p).ftSettle

/-- A whole frame (R183): rows in order. `got`: the handle of a frame that came in fragments, and what it hit once classified. -/
def State.rxFrame (s : State) (p : Nat) (d : List Byte) (badFcs symErr : Bool) (st : BitVec 256) (got : Option Nat)
    (cls : Option (Option FtEnt)) : State :=
  let n := d.length + 4
  let lim := s.gf (F.ETH_MAXLEN_MAXLEN p) + 4
  if n < 64 then s.rxBad p got (·.ethInc p 18)
  else if 9604 < n then s.rxBad p got (·.ethInc p 19)
  else if lim < n then s.rxBad p got (fun s => (s.ethInc p 19).rxFlagged p (d.take (lim - 4)) st)
  else if symErr then s.rxBad p got (fun s => (s.ethInc p 17).rxFlagged p d st)
  else if badFcs then s.rxBad p got (fun s => (s.ethInc p 16).rxFlagged p d st)
  else if beNat (sliceB d 12 2) = 0x8808 then s.rxBad p got (·.rxControl p d)
  else match got with
    | some h => match cls with
      | some e => (s.rxCount p d).ftApply h e
      | none => (s.rxCount p d).classify h
    | none => match s.toYard p (s.rxProto p d st false) with
      | some (s, h) => (s.rxCount p d).classify h
      | none => s.ethInc p 21

/-- An open reassembly is discarded (R194). -/
def State.assyDrop (s : State) (p : Nat) : State :=
  match (s.port p).rx with
  | some a => (((s.setPort p { s.port p with rx := none }).ethInc p 26).dropCells a.h)
  | none => s

/-- The first fragment of a frame: its bytes take cells as they arrive; where none is found the frame is discarded at once (R206). -/
def State.assyStart (s : State) (p : Nat) (d : List Byte) (symErr : Bool) (st : BitVec 256) : State :=
  match s.toYard p (s.rxProto p d st false) with
  | some (s, h) => s.setPort p { s.port p with rx := some ⟨some h, d, 0, st, symErr, none⟩ }
  | none =>
    let s := s.ethInc p 21
    s.setPort p { s.port p with rx := some ⟨none, d, 0, st, symErr, none⟩ }

/-- A further fragment: its bytes join the frame and take the cells they need (R206). -/
def State.assyGrow (s : State) (p : Nat) (a : Assy) (d : List Byte) (symErr : Bool) : State × Assy :=
  let a : Assy := { a with data := a.data ++ d, next := (a.next + 1) % 4, bad := a.bad || symErr }
  match a.h.bind s.frame with
  | none => (s, a)
  | some f => match s.growFrame { f with data := a.data } with
    | some s => (s.flowCheck p, a)
    | none => ((s.dropRef f.handle).ethInc p 21, { a with h := none })

/-- A frame of which 128 bytes are in the yard is classified (R208). -/
def State.assyClassify (s : State) (p : Nat) : State :=
  match (s.port p).rx with
  | some { h := some h, data := d, next := n, stamp := st, bad := b, cls := none } =>
    if d.length < 128 then s
    else
      let (s, e) := s.lookUp h
      s.setPort p { s.port p with rx := some ⟨some h, d, n, st, b, some e⟩ }
  | _ => s

/-- RECEIVE_FRAME (R183, R194). -/
def receiveFrame (o : RxOp) (s : State) : State :=
  let p := o.port.val
  if !s.bf (F.ETH_CTL_EN p) then s
  else
    let s := s.ethAdd p 23 (o.data.length + 4)
    if !s.receives p ∨ s.yrdFenced then
      (match o.kind with
       | .cont _ _ => s.cutRx p
       | .start _ => (s.assyDrop p).ethInc p 22
       | _ => s.ethInc p 22)
    else
      let st := s.rxStamp p o.ago
      match o.kind with
      | .whole => s.rxFrame p o.data o.badFcs o.symErr st none none
      | .unknown => s.ethInc p 27
      | .start fin =>
        let s := s.assyDrop p
        if fin then (if o.badFcs then s.ethInc p 26 else s.rxFrame p o.data false o.symErr st none none)
        else (s.assyStart p o.data o.symErr st).assyClassify p
      | .cont cnt fin =>
        let s := s.ethInc p 24
        match (s.port p).rx with
        | none => s.ethInc p 26
        | some a =>
          if a.next ≠ cnt.val then s.assyDrop p
          else
            if fin ∧ o.badFcs then s.assyDrop p
            else
              let lost := a.h.isNone
              let (s, a) := s.assyGrow p a o.data o.symErr
              if !fin then (s.setPort p { s.port p with rx := some a }).assyClassify p
              else
                let s := (s.setPort p { s.port p with rx := none }).ethInc p 25
                if lost || a.h.isNone then s else s.rxFrame p a.data false a.bad a.stamp a.h a.cls

/-- What a port in loopback returned to itself is received (R181); groom frames are compared (R270). -/
def State.loopIn (s : State) (p : Nat) (o : Looped) : State :=
  match o.kind with
  | .ethVerify => verifyReceived p s
  | .ethRespond => responseReceived p s
  | .groom =>
    if !s.receives p then s
    else
      let s := (s.ethAdd p 23 64).rxCount p o.data
      s.setPort p { s.port p with groomRx := (s.port p).groomRx + b2n (o.data == groomFrame p (s.port p).groomRx) }
  | _ => receiveFrame ⟨Fin.ofNat 8 p, o.rx, o.data, o.bad, false, s.timeNow - o.sfd⟩ s

/-- Loopback delivers on the tick after. -/
def State.loopRun (s : State) : State :=
  s.eth.keys.foldl (fun s p =>
    let l := (s.port p).loop
    if l.isEmpty then s else l.foldl (fun s o => s.loopIn p o) (s.setPort p { s.port p with loop := [] })) s

/-! ### FRM.PUT (R64, R68, R195, R215, R229, R254) -/

/-- Is class queue (o, c) at its limit for `n` more cells, or no token left (R216, R207)? -/
def State.queueFull (s : State) (o c n : Nat) : Bool :=
  !s.outFlushes o && (s.gf (F.YRD_QLIM_CELLS o c) < s.qocc o c + n || 65536 ≤ s.yrd.toks.length)

/-- FRM.PUT of handle `h` by thread `t` with output word `w`: STATUS and VALUE. -/
def frmPut (t h w : Nat) (s : State) : State × Nat × Nat :=
  let o := bits w 3 0
  let c := bits w 6 4
  let red := bit w 8
  let fq := if bit w 31 then some (bits w 45 32) else none
  if s.yrdFenced then (s, 0x25, 0)
  else match s.ownFrame t h with
    | none => (s, 0x12, 0)
    | some f =>
      if o = 8 ∨ 10 ≤ o then (s, 0x13, 0)
      else
        let (s, st) := if red then s.redCheck (bits w 20 9) f.data else (s, 0)
        if st ≠ 0 then (s, st, 0)
        else if (match fq with | some q => !s.fqTakes q o c | none => false) then (s, 0x13, 0)
        else if s.queueFull o c f.cells.length then
          ((if 65536 ≤ s.yrd.toks.length then s.incf F.YRD_CNT_NOTOKEN_COUNT else s), 0x11, 0)
        else
          let (s, tag) := if bit w 7 then (if o < 8 then s.tsClaim o else (s, 0xFFFF)) else (s, 0)
          let ts := if bit w 7 ∧ tag ≠ 0xFFFF then some tag else none
          let s := s.setFrame { f with owner := none }
          let k : Token := { frame := h, input := 8, out := o, tc := c, fq := fq, tick := s.tick, ts := ts, hash := 0 }
          (if red then s.redPut (bits w 20 9) k else s.toQueue k, 0, tag)

/-! ### YRD registers and block reset (R205, R209, R225) -/

def State.yrdRej (s : State) : State := s.sf F.YRD_STAT_CFG_REJ 1

/-- YRD_POOL_WRITE (R205): a write of YRD_POOL (`none`) or of YRD_PORT_CFG[i]. -/
def poolWrite (i : Option Nat) (v : Nat) (s : State) : State :=
  let off := match i with | some i => R.YRD_PORT_CFG i | none => R.YRD_POOL
  let s' := s.plainWrite off v false
  if s.bf F.YRD_CTL_LOCK ∨ i = some 8 then s
  else if i.isSome ∧ bits v 9 8 = 3 then s.yrdRej
  else if 32768 < s'.reserves then s.yrdRej
  else s'.noteFree

/-- The frame on the line of port `p` ends with an inverted FCS: its contents are gone (R187). -/
def State.txAbort (s : State) (p : Nat) : State :=
  let q := s.port p
  let s := s.setPort p { q with tx := none, cut := none, sel := none }
  let s := if q.tx.isSome then s.ethInc p 44 else s
  if q.cut.isSome then s.ethInc p 44 else s

/-- YRD_BLOCK_RESET (R225). -/
def yrdReset (s : State) : State :=
  let s := (s.beginReset 0x18).endFence 0x18
  let s := (List.range 8).foldl (fun s p => (s.port p).tsq.foldl (fun s e =>
    s.tsVoid p e.tag) (s.txAbort p)) s
  let s := s.eth.keys.foldl (fun s p => s.setPort p { s.port p with rx := (s.port p).rx.map (fun a => { a with h := none }) }) s
  let s := s.setYrd { s.yrd with frames := [], toks := [], dlv := [], pinHeld := [], moves := [], retired := [] }
  let s : State := { s with red := { s.red with held := [] }, sch := { s.sch with sel9 := none, rounds := [], crounds := [] } }
  let s := (List.range 8).foldl State.flowCheck s
  ((s.noteFree).ftSettle.pinSync).endReset 0x18

/-- A write of YRD_CTL. -/
def yrdCtl (v : Nat) (s : State) : State :=
  let s := if bit v 31 then s.sf F.YRD_CTL_LOCK 1 else s
  let s := s.sf F.YRD_CTL_EN (bits v 0 0)
  if bit v 1 then yrdReset s else s

/-- A write of YRD_HASH_SEED (R209). -/
def hashSeed (v : Nat) (s : State) : State :=
  if s.bf F.YRD_CTL_LOCK then s else if s.bf F.YRD_CTL_EN then s.yrdRej else s.setReg R.YRD_HASH_SEED v

end Sys2Proof.Machine
end

