-- ==== Sys2Proof/Machine/Sched.lean ====
section
/-! DEFINITION. Gates, shapers, queue service and transmission (spec/10; R186, R187, R190 to R193). -/
namespace Sys2Proof.Machine

def State.setSch (s : State) (x : SchSt) : State := { s with sch := x }
def State.gcl (s : State) (p : Nat) : Gcl := s.sch.gcl.get (fun _ => Gcl.init) p
def State.setGcl (s : State) (p : Nat) (g : Gcl) : State := s.setSch { s.sch with gcl := s.sch.gcl.set (fun _ => Gcl.init) p g }
def State.schRej (s : State) : State := s.sf F.SCH_STAT_CFG_REJ 1

/-! ### Gate lists (R235, R241, R247) -/

/-- A gate list as it runs: domain, start, cycle, and the entries as (hold, gates, start, end) within a cycle. -/
structure GList where
  dom : Nat
  start : Nat
  cycle : Nat
  spans : List (Bool × Nat × Nat × Nat)
  deriving DecidableEq, Repr

/-- Hold and gates of an entry; one that fails its parity acts as SET with IDLE_GATES (R251). -/
def State.entry (s : State) (p k : Nat) : Bool × Nat :=
  if s.sch.bad.get (fun _ => false) (2048 * p + k) then (false, s.gf (F.SCH_GCL_CTL_IDLE_GATES p))
  else (s.gf (F.SCH_GCL_ENTRY_OP p k) == 1, s.gf (F.SCH_GCL_ENTRY_GATES p k))

/-- The spans of the `n` entries from `k`, the first starting at `at_`; the last lasts to the end of the cycle `c` (R235). -/
def State.spansFrom (s : State) (p c : Nat) : Nat → Nat → Nat → List (Bool × Nat × Nat × Nat)
  | 0, _, _ => []
  | n + 1, k, at_ =>
    let (h, g) := s.entry p k
    let e := if n = 0 then c else min c (at_ + s.gf (F.SCH_GCL_IVL_INTERVAL p k))
    (h, g, min c at_, max (min c at_) e) :: s.spansFrom p c n (k + 1) e

/-- The operational list. -/
def State.oprList (s : State) (p : Nat) : GList :=
  let c := s.gf (F.SCH_GCL_OPR_CYCLE_CYCLE p)
  { dom := s.gf (F.SCH_GCL_OPR_CFG_DOM p), start := s.reg (R.SCH_GCL_OPR_BASE_LO p) + s.reg (R.SCH_GCL_OPR_BASE_HI p) * 2 ^ 32, cycle := max 1 c,
    spans := s.spansFrom p c (s.gf (F.SCH_GCL_OPR_CFG_LEN p)) (1024 * s.gf (F.SCH_GCL_STAT_OPER_BANK p)) 0 }

/-- The administrative list, started at `at_`. -/
def State.admList (s : State) (p at_ : Nat) : GList :=
  let c := s.gf (F.SCH_GCL_ADM_CYCLE_CYCLE p)
  { dom := s.gf (F.SCH_GCL_ADM_CFG_DOM p), start := at_, cycle := max 1 c,
    spans := s.spansFrom p c (s.gf (F.SCH_GCL_ADM_CFG_LEN p)) (1024 * (1 - s.gf (F.SCH_GCL_STAT_OPER_BANK p))) 0 }

/-- Index of the span that holds position `q`. -/
def spanAt (l : List (Bool × Nat × Nat × Nat)) (q : Nat) : Nat := (l.findIdx? (fun x => x.2.2.1 ≤ q && q < x.2.2.2)).getD (l.length - 1)

/-- Does an operational list govern the gates now? -/
def State.listRuns (s : State) (p : Nat) : Bool :=
  s.bf (F.SCH_GCL_STAT_OPER_VALID p) && !s.bf (F.SCH_GCL_STAT_FALLBACK p)

/-- Index of the entry in effect (R235). -/
def State.gclIdx (s : State) (p : Nat) : Nat :=
  let l := s.oprList p
  spanAt l.spans ((s.whole l.dom - l.start) % l.cycle)

/-- Hold and gates in effect of a running list. -/
def State.gclNow (s : State) (p : Nat) : Bool × Nat :=
  match (s.oprList p).spans[s.gclIdx p]? with
  | some (h, g, _) => (h, g)
  | none => (false, s.gf (F.SCH_GCL_CTL_IDLE_GATES p))

/-- The gates of output `o` (R235, R236, R240). -/
def State.gates (s : State) (o : Nat) : Nat :=
  if 8 ≤ o ∨ !s.bf (F.SCH_GCL_CTL_EN o) then 0xFF
  else if s.listRuns o then (s.gclNow o).2 else s.gf (F.SCH_GCL_CTL_IDLE_GATES o)

/-- The gates that were last put in force: those of the entry OPER_IDX names. -/
def State.gatesShown (s : State) (p : Nat) : Nat :=
  if 8 ≤ p ∨ !s.bf (F.SCH_GCL_CTL_EN p) then 0xFF
  else if s.listRuns p then (s.entry p (1024 * s.gf (F.SCH_GCL_STAT_OPER_BANK p) + s.gf (F.SCH_GCL_STAT_OPER_IDX p))).2
  else s.gf (F.SCH_GCL_CTL_IDLE_GATES p)

/-- The gates were `was` and change: an admitted transmission still on the line when its class's gate closes is an overrun (R246). -/
def State.overrun (s : State) (p was : Nat) : State :=
  match (s.port p).tx with
  | none => s
  | some l =>
    if bit was l.tok.tc ∧ !bit (s.gates p) l.tok.tc ∧ s.tick < l.fitEnd then
      ((s.sf (F.SCH_GCL_STAT_OVERRUN p) 1).incf (F.SCH_CNT_OVERRUN_COUNT p)).logRec 0x19 0x1092 p (s.gf (F.SCH_GCL_STAT_OPER_IDX p))
    else s

/-- Cycle of the running list now. -/
def State.gclCycle (s : State) (p : Nat) : Nat := let l := s.oprList p; (s.whole l.dom - l.start) / l.cycle

/-- The entry of a running list that is in effect now is taken: OPER_IDX; one that fails its parity is reported (R251). -/
def State.takeEntry (s : State) (p : Nat) : State :=
  let i := s.gclIdx p
  let s := (s.sf (F.SCH_GCL_STAT_OPER_IDX p) i).setGcl p { s.gcl p with cyc := s.gclCycle p }
  if s.sch.bad.get (fun _ => false) (2048 * p + 1024 * s.gf (F.SCH_GCL_STAT_OPER_BANK p) + i) then
    (s.sf F.SCH_STAT_MEM_UE 1).raise 0x19 kPARITY 0
  else s

/-- Time from now to whole count `w` of domain `n`, in 2^-32 ns; `none` while a coordinate stands still (R241). -/
def State.untilWhole (s : State) (n w : Nat) : Option Nat :=
  let d := w * wholeUnit n - (s.dom n).val
  if n < 4 then some d else if s.rateOf n = 0 then none else some (d * (4 * 2 ^ 32) / s.rateOf n)

/-- The first whole count, from `from_` on and not before `since`, at which an entry that satisfies `f` starts. -/
def GList.nextStart (l : GList) (f : Bool × Nat → Bool) (from_ : Nat) : Option (Nat × Bool) :=
  let c := if from_ < l.start then 0 else (from_ - l.start) / l.cycle
  let cand := (List.range 2).foldl (fun a k => a ++ l.spans.map (fun x => (l.start + (c + k) * l.cycle + x.2.2.1, x))) []
  match cand.find? (fun y => from_ ≤ y.1 && y.2.2.2.1 < y.2.2.2.2 && f (y.2.1, y.2.2.1)) with
  | some y => some (y.1, y.2.1)
  | none => none

/-- The next start of an entry that satisfies `f` after now, in the list that runs or in the one that follows it (R241, R244): time in
2^-32 ns, domain and whole count, and whether the entry holds. -/
def State.nextEntry (s : State) (p : Nat) (f : Bool × Nat → Bool) : Option (Nat × (Nat × Nat) × Bool) :=
  let ahead (l : GList) (from_ : Nat) : Option (Nat × (Nat × Nat) × Bool) :=
    match l.nextStart f from_ with
    | some (w, h) => (s.untilWhole l.dom w).map (fun t => (t, (l.dom, w), h))
    | none => none
  let o := s.oprList p
  let now := if s.listRuns p then ahead o (s.whole o.dom + 1) else
    match (s.gcl p).re with
    | some w => ahead { o with start := w } w
    | none => none
  match (s.gcl p).pend with
  | none => now
  | some w =>
    let l := s.admList p w
    match s.untilWhole l.dom w with
    | none => now
    | some t => match now with
      | some x => if x.1 < t then some x else ahead l w
      | none => ahead l w

/-- Longest run of open gate of class `c` in one cycle, joined over its end (R247). -/
def GList.longestRun (l : GList) (c : Nat) : Option Nat :=
  let r := (l.spans ++ l.spans).foldl (fun (a : Nat × Nat) x =>
    let len := x.2.2.2 - x.2.2.1
    if bit x.2.1 c then (a.1 + len, max a.2 (a.1 + len)) else if len = 0 then a else (0, a.2)) (0, 0)
  if r.2 = 0 then none else some (min r.2 l.cycle)

/-! ### Swaps (R237 to R239) -/

/-- The result of a request. -/
def State.swapRes (s : State) (p r : Nat) : State :=
  s.sfs [(F.SCH_GCL_STAT_RES_VALID p, 1), (F.SCH_GCL_STAT_RES p, r), (F.SCH_GCL_STAT_RES_TAG p, s.gf (F.SCH_GCL_STAT_RES_TAG p) + 1)]

/-- Is the administrative list out of range (R237)? -/
def State.admBad (s : State) (p : Nat) : Bool :=
  let n := s.gf (F.SCH_GCL_ADM_CFG_LEN p)
  let k := 1024 * (1 - s.gf (F.SCH_GCL_STAT_OPER_BANK p))
  n == 0 || 1024 < n || s.gf (F.SCH_GCL_ADM_CYCLE_CYCLE p) == 0 ||
    (List.range n).any (fun i => s.gf (F.SCH_GCL_IVL_INTERVAL p (k + i)) == 0 || 2 ≤ s.gf (F.SCH_GCL_ENTRY_OP p (k + i)))

/-- The start S (R238). -/
def State.swapStart (s : State) (n base cycle : Nat) : Nat :=
  let lo := ceilDiv ((s.dom n).val + s.leadVal n) (wholeUnit n)
  if lo ≤ base then base else base + ceilDiv (lo - base) (max 1 cycle) * max 1 cycle

def State.admStart (s : State) (p : Nat) : Nat :=
  s.swapStart (s.gf (F.SCH_GCL_ADM_CFG_DOM p)) (s.reg (R.SCH_GCL_ADM_BASE_LO p) + s.reg (R.SCH_GCL_ADM_BASE_HI p) * 2 ^ 32)
    (s.gf (F.SCH_GCL_ADM_CYCLE_CYCLE p))

/-- SWAP (R237). -/
def swapReq (p : Nat) (s : State) : State :=
  if s.bf (F.SCH_GCL_STAT_SWAP_PEND p) then s.swapRes p 3
  else if s.admBad p then s.swapRes p 2
  else if !s.domOk (s.gf (F.SCH_GCL_ADM_CFG_DOM p)) then s.swapRes p 1
  else ((s.setGcl p { s.gcl p with pend := some (s.admStart p) }).sf (F.SCH_GCL_STAT_SWAP_PEND p) 1).swapRes p 0

/-- End a pending swap with result `r`. -/
def State.swapDrop (s : State) (p r : Nat) : State :=
  if s.bf (F.SCH_GCL_STAT_SWAP_PEND p) then
    ((s.setGcl p { s.gcl p with pend := none }).sf (F.SCH_GCL_STAT_SWAP_PEND p) 0).swapRes p r
  else s

/-- CANCEL (R239). -/
def swapCancel (p : Nat) (s : State) : State := s.swapDrop p 4

/-! ### Hold (R193, R244) -/

def State.setHold (s : State) (p : Nat) (b : Bool) : State :=
  s.sfs [(F.SCH_GCL_STAT_HOLD p, b2n b), (F.ETH_PRE_STAT_HOLD p, b2n b)]

def State.releaseHold (s : State) (p : Nat) : State :=
  if s.bf (F.SCH_GCL_STAT_HOLD p) then (s.setGcl p { s.gcl p with holdAt := none }).setHold p false else s

/-- HOLD_ASSERT (R244): the remaining time to the next SET_HOLD entry is at most HOLD_ADV. -/
def holdAssert (p : Nat) (s : State) : State :=
  if !s.bf (F.SCH_GCL_CTL_EN p) ∨ s.bf (F.SCH_GCL_STAT_HOLD p) then s
  else if s.listRuns p ∧ (s.gclNow p).1 then
    (s.setGcl p { s.gcl p with holdAt := some ((s.oprList p).dom, s.whole (s.oprList p).dom) }).setHold p true
  else match s.nextEntry p (fun x => x.1) with
    | some (t, w, _) =>
      if t ≤ s.gf (F.SCH_PORT_GB_HOLD_ADV p) * 2 ^ 32 then (s.setGcl p { s.gcl p with holdAt := some w }).setHold p true else s
    | none => s

/-- Has the domain of a pending list reached its start? -/
def State.swapDue (s : State) (p : Nat) : Bool :=
  match (s.gcl p).pend with
  | none => false
  | some w => let n := s.gf (F.SCH_GCL_ADM_CFG_DOM p); s.domOk n && decide (w ≤ s.whole n)

/-- HOLD_RELEASE (R244): the last of the consecutive SET_HOLD entries has ended. -/
def holdRelease (p : Nat) (s : State) : State :=
  match (s.gcl p).holdAt with
  | none => s
  | some (n, w) => if s.listRuns p ∧ !(s.gclNow p).1 ∧ w ≤ s.whole n ∧ !s.swapDue p then s.releaseHold p else s

/-- SWAP_TAKE_EFFECT (R239): the new list's domain has reached S. -/
def swapTakeEffect (p : Nat) (s : State) : State :=
  match (s.gcl p).pend with
  | none => s
  | some w =>
    let n := s.gf (F.SCH_GCL_ADM_CFG_DOM p)
    if !s.swapDue p then s
    else
      let was := s.gatesShown p
      let s := s.sfs [(F.SCH_GCL_STAT_OPER_BANK p, 1 - s.gf (F.SCH_GCL_STAT_OPER_BANK p)), (F.SCH_GCL_OPR_CFG_DOM p, n),
        (F.SCH_GCL_OPR_CFG_LEN p, s.gf (F.SCH_GCL_ADM_CFG_LEN p)), (F.SCH_GCL_OPR_CYCLE_CYCLE p, s.gf (F.SCH_GCL_ADM_CYCLE_CYCLE p)),
        (F.SCH_GCL_OPR_BASE_LO_BASE p, w), (F.SCH_GCL_OPR_BASE_HI_BASE p, w / 2 ^ 32), (F.SCH_GCL_STAT_SWAP_PEND p, 0),
        (F.SCH_GCL_STAT_OPER_VALID p, 1), (F.SCH_GCL_STAT_FALLBACK p, 0)]
      let l := s.oprList p
      let s := s.setGcl p { s.gcl p with pend := none, wait := false, re := none, runs := (List.range 8).map l.longestRun }
      let s := (s.takeEntry p).overrun p was
      let mine := match (s.gcl p).holdAt with | some (m, v) => decide (m = n ∧ w ≤ v) | none => false
      if (s.gclNow p).1 || mine then s else s.releaseHold p

/-- GCL_ENABLE (R236). -/
def gclEnable (p : Nat) (b : Bool) (s : State) : State :=
  let was := s.gatesShown p
  let s := s.sf (F.SCH_GCL_CTL_EN p) (b2n b)
  if b then s.overrun p was
  else
    let s := (s.setGcl p { s.gcl p with wait := false, re := none }).releaseHold p
    s.sfs [(F.SCH_GCL_STAT_OPER_VALID p, 0), (F.SCH_GCL_STAT_FALLBACK p, 0)]

/-- A write of SCH_GCL_CTL[p]; ignored for P9. -/
def gclCtl (p v : Nat) (s : State) : State :=
  if 8 ≤ p then s
  else
    let was := s.gatesShown p
    let s := s.sf (F.SCH_GCL_CTL_IDLE_GATES p) (bits v 15 8)
    let s := if bit v 0 then s.sf (F.SCH_GCL_CTL_EN p) 1 else gclEnable p false s
    let s := s.overrun p was
    let s := if bit v 30 then swapCancel p s else s
    if bit v 31 then swapReq p s else s

/-- Does port `p` have an operational list in domain `n`? -/
def State.listIn (s : State) (p n : Nat) : Bool :=
  s.bf (F.SCH_GCL_STAT_OPER_VALID p) && s.gf (F.SCH_GCL_OPR_CFG_DOM p) == n

/-- The gates fall back (R240): IDLE_GATES, no hold, one record. -/
def State.gateFallback (s : State) (p : Nat) : State :=
  let i := s.gf (F.SCH_GCL_STAT_OPER_IDX p)
  let was := s.gatesShown p
  (((s.sf (F.SCH_GCL_STAT_FALLBACK p) 1).releaseHold p).logRec 0x19 0x1091 p i).overrun p was

/-- Where a list in fallback runs again (R240). -/
def State.gateRestart (s : State) (p : Nat) : State :=
  let l := s.oprList p
  s.setGcl p { s.gcl p with wait := false, re := some (s.swapStart l.dom l.start l.cycle) }

/-- The era of domain `n` changed (R240). -/
def State.gatesEra (s : State) (n : Nat) : State :=
  (List.range 8).foldl (fun s p =>
    let s := if s.listIn p n then (s.gateFallback p).gateRestart p else s
    if (s.gcl p).pend.isSome ∧ s.gf (F.SCH_GCL_ADM_CFG_DOM p) = n then s.setGcl p { s.gcl p with pend := some (s.admStart p) } else s) s

/-- Domain `n` became UNLOCKED or OFF (R240). -/
def State.gatesLost (s : State) (n : Nat) : State :=
  (List.range 8).foldl (fun s p =>
    let f := s.gateFallback p
    let s := if s.listIn p n then f.setGcl p { f.gcl p with wait := true, re := none } else s
    if (s.gcl p).pend.isSome ∧ s.gf (F.SCH_GCL_ADM_CFG_DOM p) = n then s.swapDrop p 1 else s) s

/-- Domain `n` regained lock (R240). -/
def State.gatesLock (s : State) (n : Nat) : State :=
  (List.range 8).foldl (fun s p => if s.listIn p n ∧ (s.gcl p).wait then s.gateRestart p else s) s

/-- Domain `n` stepped forward without an era change (R240): one record; the entry follows the new value. -/
def State.gatesStep (s : State) (n : Nat) : State :=
  (List.range 8).foldl (fun s p => if s.listIn p n ∧ s.listRuns p then s.logRec 0x19 0x1091 p (s.gclIdx p) else s) s

/-- GATE_ENTRY_CHANGE (R235, R240, R246, R251): another entry is in effect, or a list in fallback runs again. -/
def gateEntryChange (p : Nat) (s : State) : State :=
  let was := s.gatesShown p
  match (s.gcl p).re with
  | some w =>
    let l := s.oprList p
    if !s.domOk l.dom ∨ s.whole l.dom < w then s
    else
      let s := (s.setGcl p { s.gcl p with re := none }).sfs [(F.SCH_GCL_STAT_FALLBACK p, 0), (F.SCH_GCL_OPR_BASE_LO_BASE p, w),
        (F.SCH_GCL_OPR_BASE_HI_BASE p, w / 2 ^ 32)]
      (s.takeEntry p).overrun p was
  | none =>
    if !s.listRuns p ∨ (s.gf (F.SCH_GCL_STAT_OPER_IDX p) = s.gclIdx p ∧ (s.gcl p).cyc = s.gclCycle p) then s
    else (s.takeEntry p).overrun p was

/-! ### Shapers (R248 to R250) -/

def State.shp (s : State) (i : Nat) : Shaper := s.sch.shp.get (fun _ => Shaper.init) i
def State.setShp (s : State) (i : Nat) (v : Shaper) : State := s.setSch { s.sch with shp := s.sch.shp.set (fun _ => Shaper.init) i v }

/-- Is the excess bucket used? -/
def Shaper.excess (x : Shaper) : Bool := x.mode == 1 && x.eir != 0

/-- In debt (R249). -/
def Shaper.debt (x : Shaper) : Bool := x.mode != 0 && x.cb < 0 && (!x.excess || x.eb < 0)

/-- Debit `n` bytes (R249). -/
def Shaper.debit (x : Shaper) (n : Nat) : Shaper :=
  if x.mode = 0 then x
  else if 0 ≤ x.cb then { x with cb := x.cb - n * 2 ^ 24 }
  else if x.excess then { x with eb := x.eb - n * 2 ^ 24 } else { x with cb := x.cb - n * 2 ^ 24 }

/-- Full buckets. -/
def Shaper.fill (x : Shaper) : Shaper := { x with cb := x.cbs * 64 * 2 ^ 24, eb := x.ebs * 64 * 2 ^ 24 }

/-- One tick of a shaper (R248): `waits`: a frame under it waits; `open_`: and its gate is open. -/
def Shaper.tick (x : Shaper) (waits open_ : Bool) : Shaper :=
  if x.mode = 1 then
    { x with cb := max x.cb (min (x.cb + x.cir) (x.cbs * 64 * 2 ^ 24 : Nat)),
             eb := if x.eir = 0 then x.eb else max x.eb (min (x.eb + x.eir) (x.ebs * 64 * 2 ^ 24 : Nat)) }
  else if x.mode = 2 then
    if open_ then { x with cb := x.cb + x.cir }
    else if x.cb < 0 then { x with cb := min 0 (x.cb + x.cir) }
    else if waits then x else { x with cb := 0 }
  else x

/-- The shapers a token is subject to: its flow queue's and its class's. -/
def State.shapersOf (s : State) (k : Token) : List Nat :=
  (match k.fq with
   | some f => if s.bf (F.SCH_FQ_CFG_SHP_EN f) then [s.gf (F.SCH_FQ_CFG_SHAPER f)] else []
   | none => []) ++
  (if s.bf (F.SCH_CLS_CFG_SHP_EN k.out k.tc) then [s.gf (F.SCH_CLS_CFG_SHAPER k.out k.tc)] else [])

/-- Frames that wait: queued, or selected and not started. -/
def State.waitingToks (s : State) : List Token := s.yrd.toks ++ s.eth.filterMap (fun q => q.2.sel) ++ s.sch.sel9.toList

/-- Every shaper of the frame is debited once (R249). -/
def State.debitTok (s : State) (k : Token) (n : Nat) : State :=
  (s.shapersOf k).eraseDups.foldl (fun s i => s.setShp i ((s.shp i).debit n)) s

/-- Every running shaper gains for one tick. -/
def State.shpTick (s : State) : State :=
  s.sch.shp.keys.foldl (fun s i =>
    let under := s.waitingToks.filter (fun k => (s.shapersOf k).contains i)
    s.setShp i ((s.shp i).tick (!under.isEmpty) (under.any (fun k => bit (s.gates k.out) k.tc)))) s

/-- APPLY (R250): the staged values run, and the buckets are set. -/
def applyShp (i : Nat) (s : State) : State :=
  let x : Shaper := { mode := s.gf (F.SCH_SHP_CTL_MODE i), cir := s.reg (R.SCH_SHP_CIR i), eir := s.reg (R.SCH_SHP_EIR i),
                      cbs := s.gf (F.SCH_SHP_BURST_CBS i), ebs := s.gf (F.SCH_SHP_BURST_EBS i), cb := 0, eb := 0 }
  s.setShp i (if s.bf (F.SCH_SHP_CTL_RESET_FILL i) then x.fill else x)

/-- A write of SCH_SHP_CTL[i] (R248, R250). -/
def shpCtl (i v : Nat) (s : State) : State :=
  if bits v 29 28 = 3 then s.schRej
  else
    let s := s.sfs [(F.SCH_SHP_CTL_RESET_FILL i, bits v 30 30), (F.SCH_SHP_CTL_MODE i, bits v 29 28)]
    if bit v 31 then applyShp i s else s

/-! ### Leaves and round lists (R230 to R233) -/

/-- The head of a leaf of class queue (o, c). -/
def State.headOf (s : State) (o c leaf : Nat) : Option Token := s.yrd.toks.find? (fun k => k.out == o && k.tc == c && k.leaf == leaf)

/-- Heads of every leaf of output `o`, in order of enqueueing. -/
def State.heads (s : State) (o : Nat) : List Token :=
  s.yrd.toks.foldl (fun l k => if k.out = o ∧ !l.any (fun x => x.tc == k.tc && x.leaf == k.leaf) then l ++ [k] else l) []

/-- Is class `c` of output `o` held by PFC (R188)? -/
def State.pfcHeld (s : State) (o c : Nat) : Bool := o < 8 && ((s.port o).pfc.getD c none).isSome

/-- Is the leaf's own shaper in debt? -/
def State.leafDebt (s : State) (leaf : Nat) : Bool :=
  16 ≤ leaf && s.bf (F.SCH_FQ_CFG_SHP_EN (leaf - 16)) && (s.shp (s.gf (F.SCH_FQ_CFG_SHAPER (leaf - 16)))).debt

/-- Is the class shaper in debt? -/
def State.classDebt (s : State) (o c : Nat) : Bool := s.bf (F.SCH_CLS_CFG_SHP_EN o c) && (s.shp (s.gf (F.SCH_CLS_CFG_SHAPER o c))).debt

/-- Is the class preemptable now (R191)? -/
def State.preClass (s : State) (o c : Nat) : Bool := s.preActive o && bit (s.gf (F.ETH_PRE_CFG_PMASK o)) c

/-- Is the class weighted (R231)? -/
def State.weighted (s : State) (o c : Nat) : Bool := !s.bf (F.SCH_PORT_CFG_STRICT o) || c < s.gf (F.SCH_PORT_CFG_STRICT_MIN o)

/-- Active leaves of (o, c), in order of their oldest token (R232). -/
def State.activeLeaves (s : State) (o c : Nat) : List Nat :=
  if s.pfcHeld o c then []
  else ((s.heads o).filter (fun k => k.tc == c && !s.leafDebt k.leaf)).map Token.leaf

/-- A leaf's quantum in bytes (R232). -/
def State.leafQuantum (s : State) (o c leaf : Nat) : Nat :=
  64 * max 1 (if 16 ≤ leaf then s.gf (F.SCH_FQ_CFG_QUANTUM (leaf - 16)) else s.gf (F.SCH_CLS_CFG_VOQ_QUANTUM o c))

/-- Bring a round list up to date: members that are no longer active leave, new ones join the tail with deficit 0. -/
def syncRound (l : List RLeaf) (act : List Nat) : List RLeaf :=
  let keep := l.filter (fun x => act.contains x.id)
  keep ++ (act.filter (fun i => !keep.any (fun x => x.id == i))).map (fun i => ⟨i, 0, false⟩)

def State.round (s : State) (o c : Nat) : List RLeaf := s.sch.rounds.get (fun _ => []) (8 * o + c)
def State.setRound (s : State) (o c : Nat) (l : List RLeaf) : State :=
  s.setSch { s.sch with rounds := s.sch.rounds.set (fun _ => []) (8 * o + c) l }
def State.cround (s : State) (o : Nat) (pre : Bool) : List RLeaf := s.sch.crounds.get (fun _ => []) (2 * o + b2n pre)
def State.setCround (s : State) (o : Nat) (pre : Bool) (l : List RLeaf) : State :=
  s.setSch { s.sch with crounds := s.sch.crounds.set (fun _ => []) (2 * o + b2n pre) l }

/-- The classes that are members of the class round (R233). -/
def State.activeClasses (s : State) (o : Nat) (pre : Bool) : List Nat :=
  (List.range 8).filter (fun c => s.weighted o c && s.preClass o c == pre && !s.classDebt o c && !(s.activeLeaves o c).isEmpty)

/-- Bring the round lists of an output up to date. -/
def State.schSync (s : State) (o : Nat) : State :=
  let s := (List.range 8).foldl (fun s c => s.setRound o c (syncRound (s.round o c) (s.activeLeaves o c))) s
  let s := s.setCround o false (syncRound (s.cround o false) (s.activeClasses o false))
  s.setCround o true (syncRound (s.cround o true) (s.activeClasses o true))

/-- One deficit round (R232, R233): the member served and the list after it, its deficit charged. `q`: quantum, `w`: wire bytes of
what a member would send, `none` while it may send nothing now. Each member is passed over or gains a quantum; `fuel` bounds the rounds. -/
def drrPick (q : Nat → Nat) (w : Nat → Option Nat) : Nat → List RLeaf → Option (Nat × List RLeaf)
  | 0, _ => none
  | _, [] => none
  | fuel + 1, x :: xs =>
    match w x.id with
    | none => drrPick q w fuel (xs ++ [{ x with turn := false }])
    | some n =>
      let d := if x.turn then x.def_ else x.def_ + q x.id
      if n ≤ d then some (x.id, ⟨x.id, d - n, true⟩ :: xs)
      else drrPick q w fuel (xs ++ [⟨x.id, d, false⟩])

/-- Rounds enough for the largest frame at the least quantum. -/
def drrFuel (l : List RLeaf) : Nat := (l.length + 1) * 160

/-! ### Tests of a head frame (R221, R242, R243, R247) -/

/-- The close of class `c` (R241). -/
def State.close (s : State) (o c : Nat) : Option (Nat × (Nat × Nat) × Bool) :=
  if 8 ≤ o ∨ !s.bf (F.SCH_GCL_CTL_EN o) then none else s.nextEntry o (fun x => !bit x.2 c)

/-- MIN of R192. -/
def State.minFrag (s : State) (o : Nat) : Nat := 64 * (1 + s.gf (F.ETH_PRE_CFG_ADD_FRAG o)) - 4

/-- The fit length of a frame (R242). -/
def State.fitBytes (s : State) (k : Token) : Nat :=
  let n := wireBytes (s.lenOf k)
  match s.close k.out k.tc with
  | some (_, _, true) => if s.preClass k.out k.tc then min n (8 + s.minFrag k.out + 4 + 12) else n
  | _ => n

/-- Does `n` bytes plus the margin fit in `t` (2^-32 ns)? -/
def State.fits (s : State) (o n t : Nat) : Bool := (s.lineTime o n + 10 * s.gf (F.SCH_PORT_GB_ADM_MARGIN o)) * 2 ^ 32 ≤ t * 10

/-- Admission (R243). -/
def State.admits (s : State) (k : Token) : Bool :=
  match s.close k.out k.tc with
  | none => true
  | some (t, _, _) => s.fits k.out (s.fitBytes k) t

/-- Age (R221). -/
def State.aged (s : State) (k : Token) : Bool :=
  let a := s.gf (F.YRD_AGE_LIMIT k.tc)
  a != 0 && 250 * a < s.tick - k.tick

/-- A frame that never fits an open run of its class (R247). -/
def State.tooBig (s : State) (k : Token) : Bool :=
  k.out < 8 && s.bf (F.SCH_GCL_STAT_OPER_VALID k.out) && (s.close k.out k.tc).isSome &&
  (match (s.gcl k.out).runs.getD k.tc none with
   | none => false
   | some r =>
     let n := s.gf (F.SCH_GCL_OPR_CFG_DOM k.out)
     let t := if n < 4 then r * 2 ^ 32 else if s.rateOf n = 0 then 2 ^ 128 else r * wholeUnit n * (4 * 2 ^ 32) / s.rateOf n
     !s.fits k.out (s.fitBytes k) t)

/-- Discard a copy at its queue's head. -/
def State.discardTok (s : State) (k : Token) : State := ((s.removeTok k).tsLost k).dropRef k.frame

/-- Heads of the classes that SCH now selects from that fail age or size are discarded until none does; `pre`: the preemptable classes too. -/
def State.purge (s : State) (o : Nat) (pre : Bool) : Nat → State
  | 0 => s
  | n + 1 =>
    let l := (s.heads o).filter (fun k => pre || !s.preClass o k.tc)
    match l.find? s.aged with
    | some k => ((s.discardTok k).incf (F.YRD_CNT_AGED_COUNT o)).purge o pre n
    | none =>
      match l.find? (fun k => bit (s.gates o) k.tc && !s.pfcHeld o k.tc && s.tooBig k) with
      | some k => ((s.discardTok k).incf (F.SCH_CNT_TOOBIG_COUNT o)).purge o pre n
      | none => s

/-! ### Selection (R230) -/

/-- The leaf that flow-level DRR takes in class `c`, with the round list after it. -/
def State.pickLeaf (s : State) (o c : Nat) : Option (Token × List RLeaf) :=
  let w (i : Nat) : Option Nat := match s.headOf o c i with
    | some k => if s.admits k then some (wireBytes (s.lenOf k)) else none
    | none => none
  match drrPick (s.leafQuantum o c) w (drrFuel (s.round o c)) (s.round o c) with
  | some (i, l) => (s.headOf o c i).map (fun k => (k, l))
  | none => none

/-- Is class `c` eligible, apart from having an eligible leaf? -/
def State.classOpen (s : State) (o c : Nat) : Bool := bit (s.gates o) c && !s.pfcHeld o c && !s.classDebt o c

/-- Members of a round end their turns and keep their deficits. -/
def endTurns (f : Nat → Bool) (l : List RLeaf) : List RLeaf := l.map (fun x => if f x.id then { x with turn := false } else x)

/-- Classes of which no leaf is admitted end their turns, and so do their leaves (R232, R233). -/
def State.endIdle (s : State) (o : Nat) (pre : Bool) (mine : Nat → Bool) : State :=
  let idle (c : Nat) : Bool := mine c && (s.pickLeaf o c).isNone
  ((List.range 8).filter idle).foldl (fun s c => s.setRound o c (endTurns (fun _ => true) (s.round o c)))
    (s.setCround o pre (endTurns idle (s.cround o pre)))

/-- The frame chosen among the express or the preemptable classes, and the state with rounds charged. -/
def State.choose (s : State) (o : Nat) (pre : Bool) : State × Option Token :=
  let mine (c : Nat) : Bool := s.preClass o c == pre && s.classOpen o c
  let s := s.endIdle o pre mine
  let strict := ((List.range 8).reverse.filter (fun c => mine c && !s.weighted o c)).findSome? (fun c =>
    (s.pickLeaf o c).map (fun x => (s.setRound o c x.2, x.1)))
  match strict with
  | some x => (x.1, some x.2)
  | none =>
    let w (c : Nat) : Option Nat := if mine c then (s.pickLeaf o c).map (fun x => wireBytes (s.lenOf x.1)) else none
    let q (c : Nat) : Nat := s.gf (F.SCH_CLS_CFG_MULT o c) * sumBy (fun i => s.leafQuantum o c i) (s.activeLeaves o c)
    match drrPick q w (drrFuel (s.cround o pre)) (s.cround o pre) with
    | some (c, l) => match s.pickLeaf o c with
      | some x => ((s.setCround o pre l).setRound o c x.2, some x.1)
      | none => (s, none)
    | none => (s, none)

/-- Does output `o` select now: SCH enabled and not fenced, YRD not fenced, the output usable? -/
def State.selects (s : State) (o : Nat) : Bool :=
  s.bf F.SCH_CTL_EN && !s.fenced 0x19 && !s.yrdFenced && s.gf F.PWR_STAT_SH < 3 &&
  (if o < 8 then s.canSend o && (s.port o).pause.isNone && !s.safe else o == 9)

/-- Does a hold that began after its selection keep back the frame selected for port `o` (R188, R193)? -/
def State.selHeld (s : State) (o : Nat) : Bool :=
  o < 8 && (match (s.port o).sel with
    | some k => (s.port o).pause.isSome || s.pfcHeld o k.tc || ((s.port o).selPre && s.bf (F.SCH_GCL_STAT_HOLD o))
    | none => false)

/-- Is the line of output `o` free, and nothing chosen for it? -/
def State.lineFree (s : State) (o : Nat) : Bool :=
  if o < 8 then (s.port o).sel.isNone && (s.port o).tx.isNone && (s.port o).free ≤ s.tick
  else s.sch.sel9.isNone && s.sch.free9 ≤ s.tick

/-- Hand the chosen frame to the MAC, or to QM for P9. -/
def State.take (s : State) (o : Nat) (pre : Bool) (k : Token) : State :=
  let s := s.removeTok k
  let s : State := if o < 8 then s.setPort o { s.port o with sel := some k, selPre := pre } else s.setSch { s.sch with sel9 := some k }
  s.schSync o

/-- LINE_SELECT (R230): express frames first; a preemptable frame only on a free line, with no hold and no frame to resume; an
express frame also while a preemptable one is on the line. -/
def lineSelect (o : Nat) (s : State) : State :=
  if !s.selects o then s
  else
    let s := if s.selHeld o then s.unselect o else s
    let onLine := o < 8 && (s.port o).sel.isNone && (match (s.port o).tx with | some l => l.pre | none => false)
    if !s.lineFree o && !onLine then s
    else
      let s := (s.purge o (!onLine) (s.yrd.toks.length + 1)).schSync o
      match s.choose o false with
      | (s, some k) => s.take o false k
      | (s, none) =>
        if onLine || !s.preActive o || s.bf (F.SCH_GCL_STAT_HOLD o) || (s.port o).cut.isSome then s
        else match s.choose o true with
          | (s, some k) => s.take o true k
          | (s, none) => s

/-- The round lists of every output are brought up to date. -/
def State.schAll (s : State) : State := ([0, 1, 2, 3, 4, 5, 6, 7, 9] : List Nat).foldl State.schSync s

/-- The rounds as time passes: leaves that a debt or a hold stops leave them (R232). -/
def State.schTick (s : State) : State :=
  if s.yrd.toks.isEmpty && s.sch.rounds.isEmpty && s.sch.crounds.isEmpty then s else s.schAll

/-- DEBT_END (R249): the shaper's debt has ended; its leaves join their rounds. -/
def debtEnd (i : Nat) (s : State) : State := if (s.shp i).debt then s else s.schAll

/-! ### Transmission (R186, R187, R190 to R193, R195, R245) -/

/-- The transmit stamp of a frame on port `p` whose SFD is `off` after now (R132): the PHY delay is added in the domain's units. -/
def State.txStamp (s : State) (p tag off : Nat) : BitVec 256 :=
  let n := s.gf (F.TBU_PORT_TS_TX_DOM p)
  let d := s.gf (F.TBU_PHY_DLY_TX p)
  let add := if n < 4 then d * 2 ^ 28 else d * s.rateOf n / 64
  BitVec.ofNat 256 (leNat (s.stampOf n ((s.dom n).val + off + add) 2 p tag))

/-- Start the frame `k`. -/
def State.startFrame (s : State) (p : Nat) (pre : Bool) (k : Token) (off : Nat) : State :=
  let s := s.setPort p { s.port p with sel := none }
  match s.frame k.frame with
  | none => s
  | some f =>
    if s.gf (F.ETH_MAXLEN_MAXLEN p) < f.data.length then ((s.ethInc p 43).tsLost k).dropRef k.frame
    else if f.badLink.isSome then (s.tsLost k).linkErr k.frame
    else
      let err := !f.bad.isEmpty
      let w := wireBytes f.data.length
      let fit := s.fitBytes k
      let s := if err then ((s.ethInc p 44).tsLost k).raise (0x10 + p) kUE 0
        else match k.ts with
          | some tag => s.tsSettle p tag 1 (s.txStamp p tag off)
          | none => s
      let s := s.debitTok k w
      s.setPort p { s.port p with tx := some { tok := k, data := f.data, pre := pre, done := 0, frags := 0, start := s.tick, piece := w, last := true,
                                               sfd := s.timeNow + off, fitEnd := s.tick + s.lineTicks p fit, err := err } }

/-- Does an express frame wait that SCH would select (R192, R245)? -/
def State.expressWaits (s : State) (p : Nat) : Bool := s.selects p && ((s.schSync p).choose p false).2.isSome

/-- TRANSMIT_FRAME (R186, R245): the selected frame starts, or the frame that pre-emption stopped goes on. -/
def transmitFrame (p off : Nat) (s : State) : State :=
  let q := s.port p
  if !s.canSend p ∨ q.tx.isSome ∨ s.tick < q.free then s
  else match if s.selHeld p then none else q.sel with
    | some k => s.startFrame p q.selPre k off
    | none => match q.cut with
      | none => s
      | some l =>
        if s.bf (F.SCH_GCL_STAT_HOLD p) ∨ s.expressWaits p then s
        else
          let rest := 8 + (max l.data.length 60 + 4 - l.done) + 12
          let l := { l with frags := l.frags + 1, start := s.tick, piece := rest, last := true, fitEnd := 0 }
          ((s.setPort p { q with tx := some l, cut := none }).ethInc p 38).debitTok l.tok 24

/-- Bytes of the frame sent in the current fragment. -/
def State.sentNow (s : State) (p : Nat) (l : Line) : Nat := (s.tick - l.start) * 40 / max 1 (s.outByte p) - 8

/-- May the frame on the line be pre-empted now (R192, R193)? -/
def State.mayCut (s : State) (p : Nat) (l : Line) : Bool :=
  let n := s.sentNow p l
  l.pre && s.preActive p && (((s.port p).sel.isSome && !s.selHeld p) || s.bf (F.SCH_GCL_STAT_HOLD p) || !(s.port p).ctl.isEmpty) && s.minFrag p ≤ n &&
    l.done + n + 64 ≤ max l.data.length 60 + 4

/-- The mCRC of a fragment that ends after the bytes `d` of its frame (R192; log 154). -/
def mcrcOf (d : List Byte) : List Byte := leBytes 4 (crc32Of 0xFFFFFFFF d ^^^ 0xFFFF0000)

/-- A fragment leaves (R192): bytes `from_` on of the padded frame `d`, `n` of them or, in the last one, the rest and the FCS. The bytes that
leave are headed by 0 for SMD-S or 1 for SMD-C, and by the fragment count modulo 4. -/
def State.sendFrag (s : State) (p : Nat) (l : Line) (d : List Byte) (n : Nat) (fin : Bool) : State :=
  let c := (l.frags - 1) % 4
  let b := if fin then d.drop l.done else sliceB d l.done n
  let crc := if fin then (withFcs d l.err).drop d.length else mcrcOf (d.take (l.done + n))
  let rx := if l.frags = 0 then RxKind.start fin else .cont (Fin.ofNat 4 c) fin
  s.toWire p ⟨.ethFrag, rx, b, fin && l.err, l.sfd⟩ (leBytes 1 (min 1 l.frags) ++ leBytes 1 c ++ b ++ crc)

/-- The frame on the line is complete: its bytes with the FCS, counters, and its copy is freed; MAC control frames that waited go out. -/
def State.endFrame (s : State) (p : Nat) (l : Line) : State :=
  let d := sliceB l.data 0 (max l.data.length 60)
  let s := s.setPort p { s.port p with tx := none, free := max (s.port p).free s.tick }
  let s := if l.err then s else ((s.ethAdd p 31 (d.length + 4)).ethInc p 32).ethInc p (destCounter 33 d)
  let s := if l.frags = 0 then s.toWire p ⟨.ethFrame, .whole, d, l.err, l.sfd⟩ (withFcs d l.err) else s.sendFrag p l d 0 true
  (s.flushCtl p).dropRef l.tok.frame

/-- TRANSMIT_END (R186, R192): the frame's last byte and gap have passed, or the MAC ends a fragment. -/
def transmitEnd (p : Nat) (s : State) : State :=
  match (s.port p).tx with
  | none => s
  | some l =>
    if l.start + s.lineTicks p l.piece ≤ s.tick then s.endFrame p l
    else if s.mayCut p l then
      let n := s.sentNow p l
      let s := s.sendFrag p l (sliceB l.data 0 (max l.data.length 60)) n false
      let s := (s.setPort p { s.port p with tx := none, cut := some { l with done := l.done + n, last := false },
                                            free := s.tick + s.lineTicks p 16 }).flushCtl p
      if s.bf (F.SCH_GCL_STAT_HOLD p) then s.ethInc p 39 else s
    else s

/-! ### SCH registers and block reset (R229, R231, R239, R252) -/

/-- FQ_CFG_WRITE (R229). -/
def fqCfg (f v : Nat) (s : State) : State :=
  let o := bits v 30 27
  let ch := o ≠ s.gf (F.SCH_FQ_CFG_OUT f) ∨ bits v 26 24 ≠ s.gf (F.SCH_FQ_CFG_TC f)
  if o = 8 ∨ 10 ≤ o ∨ (ch ∧ s.yrd.toks.any (fun k => k.fq == some f)) then s.schRej
  else s.plainWrite (R.SCH_FQ_CFG f) v false

/-- FQ_SEL: a flow queue's snapshot. -/
def fqSel (v : Nat) (s : State) : State :=
  let f := bits v 13 0
  let o := s.gf (F.SCH_FQ_CFG_OUT f)
  let s := s.schSync o
  let x := (s.round o (s.gf (F.SCH_FQ_CFG_TC f))).find? (fun x => x.id == 16 + f)
  s.sfs [(F.SCH_FQ_SEL_FLOWQ, f), (F.SCH_FQ_SEL_VALID, 1), (F.SCH_FQ_INFO_ACTIVE, b2n x.isSome), (F.SCH_FQ_INFO_DEBT, b2n (s.leafDebt (16 + f))),
    (F.SCH_FQ_INFO_FRAMES, min 0xFFFF (s.yrd.toks.filter (fun k => k.fq == some f)).length), (F.SCH_FQ_DEF_DEF, (x.map (·.def_)).getD 0)]

/-- SHP_SEL: a shaper's snapshot. -/
def shpSel (v : Nat) (s : State) : State :=
  let i := bits v 10 0
  s.sfs [(F.SCH_SHP_SEL_SHAPER, i), (F.SCH_SHP_SEL_VALID, 1), (F.SCH_SHP_CB_BYTES, wrap 32 ((s.shp i).cb / (2 ^ 24 : Nat))),
    (F.SCH_SHP_EB_BYTES, wrap 32 ((s.shp i).eb / (2 ^ 24 : Nat)))]

/-- A write of SCH_PORT_CFG[o] (R231). -/
def schPortCfg (o v : Nat) (s : State) : State :=
  if s.bf F.SCH_CTL_LOCK then s
  else if (bit v 0 ∧ !bit v 8) ∨ (!bit v 8 ∧ s.bf (F.SCH_PORT_CFG_STRICT o)) then s.schRej
  else s.plainWrite (R.SCH_PORT_CFG o) v false

/-- A write of SCH_CLS_CFG[o][c] (R233). -/
def clsCfg (o c v : Nat) (s : State) : State :=
  if bits v 31 28 = 0 then s.schRej else s.plainWrite (R.SCH_CLS_CFG o c) v false

/-- A write of an SCH_GCL_ADM register of port `p` (R239). -/
def admWrite (off p v : Nat) (s : State) : State :=
  if 8 ≤ p then s else if s.bf (F.SCH_GCL_STAT_SWAP_PEND p) then s.schRej else s.plainWrite off v false

/-- A write of entry `k` of port `p`, gates and operation or interval (R239). -/
def entryWrite (off p k v : Nat) (s : State) : State :=
  let oper := k / 1024 = s.gf (F.SCH_GCL_STAT_OPER_BANK p)
  if (oper ∧ s.bf (F.SCH_GCL_STAT_OPER_VALID p)) ∨ (!oper ∧ s.bf (F.SCH_GCL_STAT_SWAP_PEND p)) then s.schRej
  else
    let s := s.plainWrite off v false
    s.setSch { s.sch with bad := s.sch.bad.set (fun _ => false) (2048 * p + k) false }

/-- SCH_BLOCK_RESET (R252). -/
def schReset (s : State) : State :=
  let s := (s.beginReset 0x19).endFence 0x19
  let s := (List.range 8).foldl (fun s p =>
    let s := (s.swapDrop p 4).releaseHold p
    (s.setGcl p { s.gcl p with wait := false, re := none, runs := List.replicate 8 none }).sfs
      [(F.SCH_GCL_STAT_OPER_VALID p, 0), (F.SCH_GCL_STAT_FALLBACK p, 0)]) s
  let s := s.setSch { s.sch with rounds := [], crounds := [], shp := s.sch.shp.map (fun x => (x.1, x.2.fill)) }
  s.endReset 0x19

/-- A write of SCH_CTL. -/
def schCtl (v : Nat) (s : State) : State :=
  let s := if bit v 31 then s.sf F.SCH_CTL_LOCK 1 else s
  let s := s.sf F.SCH_CTL_EN (bits v 0 0)
  if bit v 1 then schReset s else s

end Sys2Proof.Machine
end

