-- ==== Sys2Proof/Machine/DomainEvents.lean ====
section
/-! DEFINITION. Changes of a time domain that reach pending actions, waits, paddocks, gate lists and the loft (spec/06: R123, R125 to
R130, R141, R142, R441): steps, enabling, reference events, loss of the coordinate, the TBU block reset. -/
namespace Sys2Proof.Machine

/-! ### Waits (R71) -/

/-- Is `x` a TM.WAIT on domain `n` that has not been answered? -/
def Txn.waitsOn (x : Txn) (n : Nat) : Bool := x.kind == .unit && x.op == 0x12 && x.waits && x.res.isNone && x.args.getD 1 8 == n

/-- Every TM.WAIT on domain `n` ends (R71). -/
def State.endTmWaits (s : State) (n status value : Nat) : State :=
  s.brn.thr.keys.foldl (fun s t => (s.thr t).txns.foldl (fun s x => if x.waitsOn n then s.endWait t x.id status value else s) s) s

/-! ### Era changes (R126) and loss (R129) -/

/-- The record of the actions a change discarded (R141). -/
def State.actsRec (s : State) (n k : Nat) : State := if k = 0 then s else s.logRec 5 0x0053 n k

/-- What a change of domain `n`'s era does (R126); `before` is its whole count before the change. -/
def State.eraCore (s : State) (n before : Nat) : State :=
  let (s, k) := s.dropActs n
  let s := (s.endTmWaits n 0x24 (s.era n)).padsEra n
  let s := (s.logRec 5 0x0051 (n + s.era n * 2 ^ 16) before).actsRec n k
  let s := if s.domOk n then s.gatesEra n else s
  if n = 0 then s.lftEra else s

/-- The enabled synthetic domains computed from domain `k` (R130). -/
def State.synOf (s : State) (k : Nat) : List Nat :=
  (List.range 8).filter (fun m => s.synthetic m && s.bf (F.TBU_DOM_CTL_EN m) && s.gf (F.TBU_DOM_CTL_SYN_SRC m) == k)

/-- Those computed from them as well, each once. -/
def State.synAll (s : State) (k : Nat) : List Nat :=
  let add (l : List Nat) : List Nat := l ++ ((l.flatMap s.synOf).filter (fun m => !l.contains m && m != k)).eraseDups
  add (add (add (s.synOf k)))

/-- Advance a domain's era modulo 65,536 (R125). -/
def State.eraUp (s : State) (n : Nat) : State := s.sf (F.TBU_DOM_STAT_ERA n) (s.era n + 1)

/-- The era of domain `n` advances, and with it those of its synthetic domains (R125, R126). -/
def State.newEra (s : State) (n before : Nat) : State :=
  let s := (s.eraUp n).eraCore n before
  (s.synAll n).foldl (fun s m =>
    let b := s.whole m
    let s := if s.domOk m then s.setDom m { s.dom m with val := s.synValue m } else s
    (s.eraUp m).eraCore m b) s

/-- Domain `n` becomes OFF or UNLOCKED (R129, R441): its value freezes. -/
def State.lostCore (s : State) (n code : Nat) : State :=
  let d := s.dom n
  let s := s.setDom n { d with slew := 0, step := none, corr := 0, corrTicks := 0, obs := [], rejects := 0, lastEv := none, lastZ := none, edges := 0 }
  let s := s.sfs [(F.TBU_DOM_STAT_STATE n, code), (F.TBU_DOM_STAT_SLEWING n, 0), (F.TBU_DOM_STAT_FORCED n, 0)]
  let (s, k) := s.dropActs n
  let s := ((s.endTmWaits n 0x16 0).padsLost n).stopTrains n
  ((s.logRec 5 0x0052 (n + code * 8) (s.whole n)).actsRec n k).gatesLost n

/-- Domain `n` becomes usable again: paddocks and gate lists leave fallback (R110, R240). -/
def State.regain (s : State) (n : Nat) : State := (s.padsLock n).gatesLock n

/-- A coordinate domain becomes LOCKED from UNLOCKED: its era advances unless this is its first lock (R125). -/
def State.lockCore (s : State) (n before : Nat) (quiet : Bool) : State :=
  let again := (s.dom n).locked
  let s := (s.setDom n { s.dom n with locked := true }).sf (F.TBU_DOM_STAT_STATE n) dLOCKED
  let s := s.padsLock n
  let s := if again && !quiet then s.newEra n before else s
  s.gatesLock n

/-- The state a synthetic domain has by its source (R130). -/
def State.synState (s : State) (m : Nat) : Nat :=
  let k := s.gf (F.TBU_DOM_CTL_SYN_SRC m)
  if 4 ≤ k then s.domState k else if s.domState k = dOFF then dUNLOCKED else dLOCKED

/-- Bring one synthetic domain to its source's state. -/
def State.synSync (s : State) (quiet : Bool) (m : Nat) : State :=
  let new := s.synState m
  let old := s.domState m
  if new = old then s
  else if new = dOFF ∨ new = dUNLOCKED then s.lostCore m new
  else
    let b := s.whole m
    let s := s.setDom m { s.dom m with val := s.synValue m }
    if s.domOk m then s.sf (F.TBU_DOM_STAT_STATE m) new
    else (s.lockCore m b quiet).sf (F.TBU_DOM_STAT_STATE m) new

/-- The synthetic domains follow a change of domain `k`'s state; `quiet` when `k`'s era advanced with it. -/
def State.synFollow (s : State) (k : Nat) (quiet : Bool) : State := (s.synAll k).foldl (fun s m => s.synSync quiet m) s

/-- Domain `n` is lost (R128, R129). -/
def State.domLost (s : State) (n code : Nat) : State := (s.lostCore n code).synFollow n false

/-- Domain `n` locks (R128). -/
def State.domLocked (s : State) (n before : Nat) : State :=
  let again := (s.dom n).locked
  (s.lockCore n before false).synFollow n again

/-! ### STEP_APPLY (R123) -/

/-- Domain `m` follows a step without an era change: a synthetic domain is computed from the new value (R130), and the gate lists record
it (R240). -/
def State.stepOn (s : State) (m : Nat) : State :=
  (if s.synthetic m && s.domOk m then s.setDom m { s.dom m with val := s.synValue m } else s).gatesStep m

/-- STEP_APPLY (R123): the step accepted in ACQUIRE takes effect on the tick after its acceptance. -/
def stepApply (n : Nat) (s : State) : State :=
  let d := s.dom n
  match d.step with
  | none => s
  | some (o, t) =>
    if s.tick ≤ t then s
    else
      let forced := s.bf (F.TBU_DOM_STAT_FORCED n)
      let before := s.whole n
      let s := (s.mark0 n).setDom n { d with step := none, val := ((d.val : Int) + o * 2 ^ 32).toNat % nsModulus }
      let s := s.sfs [(F.TBU_DOM_STAT_STATE n, dTRACK), (F.TBU_DOM_STAT_FORCED n, 0)]
      if forced && o != 0 then s.newEra n before else if o = 0 then s else (n :: s.synAll n).foldl State.stepOn s

/-! ### Enabling and disabling (R128, R130, R441) -/

/-- EN = 1 is refused (R130; TBU_COORD_ENC.PPR) for these settings. -/
def State.domEnBad (s : State) (n src syn : Nat) : Bool :=
  4 ≤ n && ((src == 4 && (syn == n || s.synthetic syn || s.gf (F.TBU_COORD_SYN_DIV n) == 0)) ||
    ((src == 2 || src == 3) && s.gf (F.TBU_COORD_ENC_PPR n) == 0))

/-- A domain is enabled (R128, R441). -/
def State.domOn (s : State) (n : Nat) : State :=
  if n < 4 then
    let s := s.sfs [(F.TBU_DOM_STAT_STATE n, dACQUIRE), (F.TBU_DOM_STAT_FORCED n, 0)]
    let s := s.logRec 5 0x0052 (n + dACQUIRE * 8) (s.whole n)
    (s.regain n).synFollow n false
  else if s.synthetic n then (s.synSync false n).synFollow n false
  else (s.setDom n { s.dom n with rate := 0 }).domLost n dUNLOCKED

/-- A write of EN to one of domains 1 to 3 takes effect on the next tick (R441); DESIGN CHOICE (log 129): a second write before that tick
that asks for the state the domain is in leaves nothing to do. -/
def State.domTurn (s : State) (n : Nat) (on : Bool) : State :=
  s.setDom n { s.dom n with turn := if on == (s.domState n != dOFF) then none else some on }

/-- The tick on which a write of EN takes effect (R441). -/
def State.turnDom (s : State) (n : Nat) : State :=
  match (s.dom n).turn with
  | none => s
  | some on =>
    let s := s.setDom n { s.dom n with turn := none }
    if on then s.domOn n else s.domLost n dOFF

/-- The changes of EN that take effect on this tick (R441). -/
def State.turnDoms (s : State) : State := [1, 2, 3].foldl State.turnDom s

/-- A write of TBU_DOM_CTL[n]. -/
def domCtl (n v : Nat) (s : State) : State :=
  let rej := s.sf (F.TBU_DOM_STAT_CFG_REJ n) 1
  let on := s.bf (F.TBU_DOM_CTL_EN n)
  if s.bf F.TBU_CTL_LOCK then s
  else if n = 0 then s.sf (F.TBU_DOM_CTL_LATE_POLICY n) (bits v 1 1)
  else if n < 4 then
    let s := s.sfs [(F.TBU_DOM_CTL_LATE_POLICY n, bits v 1 1), (F.TBU_DOM_CTL_EN n, bits v 0 0)]
    s.domTurn n (bit v 0)
  else if 5 ≤ bits v 6 4 then rej
  else
    let chg := on && bits v 6 4 != s.gf (F.TBU_DOM_CTL_SRC n)
    let src := if chg then s.gf (F.TBU_DOM_CTL_SRC n) else bits v 6 4
    let bad := bit v 0 && s.domEnBad n src (bits v 10 8)
    if bad && on then rej
    else
      let s := if chg || bad then rej else s
      let en := bit v 0 && !bad
      let s := s.sfs [(F.TBU_DOM_CTL_EDGE n, bits v 12 12), (F.TBU_DOM_CTL_SYN_SRC n, bits v 10 8), (F.TBU_DOM_CTL_SRC n, src),
        (F.TBU_DOM_CTL_LATE_POLICY n, bits v 1 1), (F.TBU_DOM_CTL_EN n, b2n en)]
      if !on && en then s.domOn n
      else if on && !en then s.domLost n dOFF
      else if on && s.synthetic n then (s.synSync false n).synFollow n false
      else s

/-! ### Reference events (R127, R128) -/

/-- An event was rejected: three in a row unlock a LOCKED or HOLDOVER domain. -/
def State.coordReject (s : State) (n : Nat) : State :=
  let s := s.incf (F.TBU_COORD_CNT_REJECT n)
  let st := s.domState n
  if 3 ≤ (s.dom n).rejects ∧ (st = dLOCKED ∨ st = dHOLDOVER) then s.domLost n dUNLOCKED else s

/-- An event for the estimator of a LOCKED or HOLDOVER domain. -/
def State.coordEvent (s : State) (n : Nat) : State :=
  let (d, e, ok) := s.estimate n
  let s := (s.setDom n d).storeErr n e
  if !ok then s.coordReject n
  else if s.domState n = dHOLDOVER then (s.sf (F.TBU_DOM_STAT_STATE n) dLOCKED).synFollow n false
  else s

/-- An observed whole cycle while UNLOCKED; the fourth event locks the domain. -/
def State.observe (s : State) (n : Nat) (consistent : Bool) : State :=
  let d := s.dom n
  let obs := observed d.obs s.tick consistent
  if obs.length < 4 then s.setDom n { d with obs := obs, rejects := 0, lastEv := some s.tick }
  else
    let before := s.whole n
    let dt := max 1 (s.tick - obs.headD s.tick)
    let s := s.setDom n { d with obs := [], rejects := 0, lastEv := some s.tick, val := (d.val / cyc + 1) % 2 ^ 64 * cyc,
                                 rate := 3 * cyc / dt, corr := 0, corrTicks := 0 }
    s.domLocked n before

/-- An event from MAINS_SYNC. -/
def State.mainsEvent (s : State) (n : Nat) : State :=
  if s.domState n ≠ dUNLOCKED then s.coordEvent n
  else
    let d := s.dom n
    match d.lastEv with
    | none => s.observe n false
    | some t =>
      if s.tick - t < s.gf (F.TBU_COORD_PMIN_PMIN n) then (s.setDom n { d with rejects := d.rejects + 1 }).coordReject n
      else s.observe n (s.tick - t ≤ s.gf (F.TBU_COORD_PMAX_PMAX n))

/-- A quadrature edge. -/
def State.quadEvent (s : State) (n : Nat) (aLead : Bool) : State :=
  if aLead == s.bf (F.TBU_COORD_ENC_DIR n) then s.incf (F.TBU_COORD_CNT_REVERSE n)
  else
    let s := s.setDom n { s.dom n with edges := (s.dom n).edges + 1 }
    if s.domState n = dUNLOCKED then s else s.coordEvent n

/-- An ENC_Z event: accepted after 4 × PPR forward edges and at least PMIN ticks. -/
def State.zEvent (s : State) (n : Nat) : State :=
  let d := s.dom n
  let fresh := { d with lastZ := some s.tick, edges := 0 }
  match d.lastZ with
  | none =>
    let s := s.setDom n fresh
    if s.domState n = dUNLOCKED then s.observe n false else s
  | some t =>
    let ok := d.edges == 4 * s.gf (F.TBU_COORD_ENC_PPR n) && decide (s.gf (F.TBU_COORD_PMIN_PMIN n) ≤ s.tick - t)
    if s.domState n = dUNLOCKED then
      let s := (s.setDom n fresh).observe n ok
      if ok then s else s.incf (F.TBU_COORD_CNT_REJECT n)
    else if ok then s.setDom n fresh
    else (s.setDom n { fresh with rejects := d.rejects + 1 }).coordReject n

/-- An edge for domain `n`, which takes it as an event when it has stayed stable for the domain's FILT ticks. -/
def State.refTo (s : State) (e : RefEdge) (stable n : Nat) : State :=
  let src := s.gf (F.TBU_DOM_CTL_SRC n)
  if !s.bf (F.TBU_DOM_CTL_EN n) || s.domState n == dOFF || decide (stable < s.gf (F.TBU_COORD_CFG_FILT n)) then s
  else match e with
    | .mains rising => if src = 1 ∧ (rising != s.bf (F.TBU_DOM_CTL_EDGE n)) then s.mainsEvent n else s
    | .quad set a => if src = 2 + set then s.quadEvent n a else s
    | .z set => if src = 2 + set then s.zEvent n else s

/-- REFERENCE_EVENT (R127, R128): an edge after which the input stays stable for `stable` ticks; its time is its own tick. DESIGN CHOICE
(log 148): the estimator takes it on that tick. -/
def referenceEvent (e : RefEdge) (stable : Nat) (s : State) : State := [4, 5, 6, 7].foldl (fun s n => s.refTo e stable n) s

/-- COORD_LOST (R128): no accepted event for HOLD_CYC × (g ÷ rate) ticks. -/
def coordLost (n : Nat) (s : State) : State :=
  let d := s.dom n
  let m := s.gridDiv n
  if n < 4 || s.synthetic n || s.domState n != dLOCKED then s
  else if (s.tick - d.lastEv.getD 0) * d.rate * m < max 1 (s.gf (F.TBU_COORD_CFG_HOLD_CYC n)) * cyc then s
  else ((s.setDom n { d with holdAt := s.tick }).sf (F.TBU_DOM_STAT_STATE n) dHOLDOVER).synFollow n false

/-- HOLDOVER_EXPIRE (R128): HOLD_MAX expected cycles elapsed in HOLDOVER. -/
def holdoverExpire (n : Nat) (s : State) : State :=
  let d := s.dom n
  if n < 4 || s.synthetic n || s.domState n != dHOLDOVER then s
  else if (s.tick - d.holdAt) * d.rate < max 1 (s.gf (F.TBU_COORD_CFG_HOLD_MAX n)) * cyc then s
  else s.domLost n dUNLOCKED

/-! ### TBU block reset (R142) -/

/-- The TBU block reset in domain `n`. -/
def State.domReset (s : State) (n : Nat) : State :=
  if n < 4 then
    if n ≠ 0 ∧ !s.bf (F.TBU_DOM_CTL_EN n) then s.turnDom n
    else
      let before := s.whole n
      let s := (s.mark0 n).setDom n { s.dom n with val := 0, turn := none, slew := 0, step := none }
      let s := s.sfs [(F.TBU_DOM_STAT_STATE n, dACQUIRE), (F.TBU_DOM_STAT_FORCED n, 0), (F.TBU_DOM_STAT_SLEWING n, 0)]
      s.newEra n before
  else if !s.bf (F.TBU_DOM_CTL_EN n) then s
  else (s.setDom n { s.dom n with val := 0 }).lostCore n dUNLOCKED

/-- TBU_BLOCK_RESET (R142): takes effect whole and ends on the tick. -/
def tbuReset (s : State) : State :=
  let s := s.beginReset 5
  let s := (List.range 8).foldl State.domReset s
  let s := (List.range 8).foldl (fun s n => if s.synthetic n && s.bf (F.TBU_DOM_CTL_EN n) then s.synSync true n else s) s
  (s.setTbu { s.tbu with acts := [] }).endReset 5

end Sys2Proof.Machine
end

