-- ==== Sys2Proof/Machine/Barn.lean ====
section
/-! DEFINITION. Starting and stopping threads, barn block reset, code store and instruction caches (spec/02, R28 to R30, R44 to
R51). -/
namespace Sys2Proof.Machine

/-- A thread's global index (spec/02). -/
def thrIdx (b e t : Nat) : Nat := b * 64 + e * 4 + t

/-- RUN as written. -/
def runFld (t : Nat) : Fld := F.BRN_THR_CTL_RUN (barnOf t) (engOf t) (thrOf t)

def State.brnRej (s : State) (b : Nat) : State := s.sf (F.BRN_STAT_CFG_REJ b) 1

/-- A draining thread that holds no slot is STOPPED (R45); a LOAD_ERROR pending at the stop is delivered on restart (R47). -/
def State.drainEnd (s : State) (t : Nat) : State :=
  let th := s.thr t
  if th.st ≠ 4 ∨ th.txns ≠ [] then s
  else s.setThr t { th with st := 0, inTrap := th.inTrap && !th.fromHalt, fromHalt := false, redeliver := th.redeliver || !th.errs.isEmpty }

/-- RUN = 0 (R45, R48): a wait in progress is abandoned; YIELDED with no slot stops at once. -/
def State.stopThread (s : State) (t : Nat) : State :=
  let th := s.thr t
  if th.st = 0 ∨ th.st = 4 then s
  else
    let s := s.setThr t { th with st := 4, fromHalt := th.st == 5, txns := th.txns.filter (fun x => !x.waiting) }
    let s := s.setBrn { s.brn with qWait := s.brn.qWait.filter (fun w => w.2 != t) }
    if th.st = 3 then s.drainEnd t else s

/-- A write of BRN_THR_CTL (R45, R46, R50). No thread runs before the boot ROM is done, after a warm reset as after a cold one (R13, R400):
a start before that is discarded (log 132). -/
def thrCtl (t v : Nat) (s : State) : State :=
  let b := barnOf t
  let pad := bits v 12 8
  let run := bit v 0
  let st := (s.thr t).st
  if s.bf (F.BRN_STAT_RST_BUSY b) then s.brnRej b
  else if pad ≠ s.padOf t ∧ st ≠ 0 then s.brnRej b
  else if run ∧ (!s.bf F.GCTL_BOOT_STAT_DONE ∨ !s.bf (F.BRN_CTL_EN b) ∨ bit (s.gf (F.BRN_ENG_DIS_DIS b)) (engOf t)) then s.brnRej b
  else if run ∧ (st = 4 ∨ st = 5) then s.brnRej b
  else
    let s := s.sf (F.BRN_THR_CTL_PADDOCK b (engOf t) (thrOf t)) pad
    let s := s.sf (runFld t) (b2n run)
    if !run then s.stopThread t
    else if st = 0 then s.setThr t { s.thr t with st := 1, instret := 0 }
    else s

/-- THREAD_RUN, THREAD_STOP (R45): a write of RUN with a paddock number. -/
def threadRun (t pad : Nat) (s : State) : State := thrCtl t (pad * 2 ^ 8 + 1) s
def threadStop (t pad : Nat) (s : State) : State := thrCtl t (pad * 2 ^ 8) s

/-- A write of BRN_THR_PC (R46). -/
def threadPc (t v : Nat) (s : State) : State :=
  if (s.thr t).st ≠ 0 then s.brnRej (barnOf t) else s.setThr t { s.thr t with pc := bits v 20 2 * 4 }

/-! ### Barn block reset (R50) -/

/-- A reset of thread `t`: STOPPED, g1 to g31 and s2 to s6 cleared; its memory accesses are carried through. -/
def State.threadReset (s : State) (t : Nat) : State :=
  let th := s.thr t
  let go := (th.txns.filter (fun x => x.kind == .load || x.kind == .store || x.kind == .amo)).map (fun x => (t, { x with granted := true }))
  let s := s.setThr t { Thread.init with pc := th.pc, lastPc := th.lastPc, instret := th.instret, nextId := th.nextId }
  let s := s.setBrn { s.brn with orphans := s.brn.orphans ++ go, gpr := s.brn.gpr.clearRange (t * 32) (t * 32 + 32),
                                 qWait := s.brn.qWait.filter (fun w => w.2 != t),
                                 div := match s.brn.div.get (fun _ => none) (t / 4) with
                                   | some d => if d.th = t then s.brn.div.set (fun _ => none) (t / 4) none else s.brn.div
                                   | none => s.brn.div }
  s.sf (runFld t) 0

/-- The threads of a barn that have left their initial state. -/
def State.barnThreads (s : State) (b : Nat) : List Nat := s.brn.thr.keys.filter (fun t => barnOf t == b)

/-- BARN_RESET (R50): the block reset of barn `b` starts. -/
def barnReset (b : Nat) (s : State) : State :=
  if s.bf (F.BRN_STAT_RST_BUSY b) then s
  else
    let s := (s.endFence (0x30 + b)).beginReset (0x30 + b)
    let s := (s.barnThreads b).foldl State.threadReset s
    let s := s.setBrn { s.brn with gpr := s.brn.gpr.clearRange (b * 2048) (b * 2048 + 2048) }
    let s := (s.yrdBarnReset b).lftBarnReset b
    let s := s.sfs [(F.BRN_ECC_CNT_UE b, 0), (F.BRN_ECC_CNT_CE b, 0), (F.BRN_STAT_RST_BUSY b, 1)]
    s.setBrn { s.brn with rstEnd := setAt s.brn.rstEnd b (some (s.brn.cyc.getD b 0 + 256)) }

/-- BARN_RESET_END (R50): 256 cycles after the start. -/
def barnResetEnd (b : Nat) (s : State) : State :=
  match s.brn.rstEnd.getD b none with
  | none => s
  | some c =>
    if s.brn.cyc.getD b 0 < c then s
    else ((s.setBrn { s.brn with rstEnd := setAt s.brn.rstEnd b none }).sf (F.BRN_STAT_RST_BUSY b) 0).endReset (0x30 + b)

/-- A write of BRN_CTL[b]. -/
def barnCtl (b v : Nat) (s : State) : State :=
  let locked := s.bf (F.BRN_CTL_LOCK b)
  let s := s.plainWrite (R.BRN_CTL b) v locked
  if bit v 1 then barnReset b s else s

/-! ### Code store and instruction caches (R29, R30, R444) -/

/-- Address of the code-store word at BRN_CS_ADDR. -/
def State.csAddr (s : State) : Nat := codeBase + s.gf F.BRN_CS_ADDR_ADDR * 4

/-- CS_DATA_WRITE: stores the word and steps ADDR while WR_EN is 1. -/
def csWrite (v : Nat) (s : State) : State :=
  if !s.bf F.BRN_CS_CTL_WR_EN then s
  else
    let a := s.csAddr
    ((s.wrN a 4 v).setEcc a .ok).sf F.BRN_CS_ADDR_ADDR (s.gf F.BRN_CS_ADDR_ADDR + 1)

/-- ICINV (R444): one invalidation, or one further run while one is running. -/
def icInv (s : State) : State :=
  if s.bf F.BRN_CS_CTL_ICINV_BUSY then s.setBrn { s.brn with icAgain := true } else s.sf F.BRN_CS_CTL_ICINV_BUSY 1

/-- ICINV_DONE (R444): a run ends. -/
def icInvDone (s : State) : State :=
  if s.brn.icAgain then s.setBrn { s.brn with icAgain := false } else s.sf F.BRN_CS_CTL_ICINV_BUSY 0

/-- A write of BRN_CS_CTL. -/
def csCtl (v : Nat) (s : State) : State :=
  let locked := s.bf F.BRN_CS_CTL_LOCK
  let s := s.plainWrite R.BRN_CS_CTL v locked
  if bit v 1 then icInv s else s

/-- A write of BRN_ENG_DIS[b]. -/
def engDis (b v : Nat) (s : State) : State := s.plainWrite (R.BRN_ENG_DIS b) v (s.bf (F.BRN_CTL_LOCK b))

end Sys2Proof.Machine
end

