-- ==== Sys2Proof/Machine/Sax.lean ====
section
/-! DEFINITION. SAX (spec/14): the session table, keys, records received and sent, policing, timers, twin records. -/
namespace Sys2Proof.Machine

def State.setSax (s : State) (x : SaxSt) : State := { s with sax := x }
def Sess.blank : Sess := Sess.init
def State.sess (s : State) (i : Nat) : Sess := s.sax.sess.get (fun _ => Sess.blank) i
def State.setSess (s : State) (i : Nat) (v : Sess) : State :=
  s.setSax { s.sax with sess := s.sax.sess.set (fun _ => Sess.blank) i v }

/-- Sessions of the table (R336). -/
def State.saxSize (s : State) : Nat := 2 ^ s.gf F.SAX_CFG_SIZE_LOG2

/-- Is DRAM in self-refresh (R351)? -/
def State.saxShed (s : State) : Bool := s.bf F.DMC_STAT_SREF

/-- SX operations return FENCED and timers pause while SAX is fenced or shed (R351, R352). -/
def State.saxHeld (s : State) : Bool := s.fenced 0x21 || s.saxShed || s.sax.dark

/-- Is the table enabled and cleared (R338)? -/
def State.saxReady (s : State) : Bool := s.bf F.SAX_CTL_EN && s.bf F.SAX_STAT_READY

/-! ### Opening and closing (R337, R340, R352) -/

/-- Ticks of a number of milliseconds. -/
def msTicks (ms : Nat) : Nat := 250000 * ms

/-- Store a session; OPEN counts and HIGH follow its state (R337). -/
def State.putSess (s : State) (i : Nat) (v : Sess) : State :=
  let was := (s.sess i).opn
  let s := s.setSess i v
  if v.opn && !was then
    let n := s.gf F.SAX_OCC_OPEN + 1
    let s := s.sf F.SAX_OCC_OPEN n
    if n = s.gf F.SAX_HIGH_WM_COUNT then s.sf F.SAX_STAT_HIGH 1 else s
  else if was && !v.opn then s.sf F.SAX_OCC_OPEN (s.gf F.SAX_OCC_OPEN - 1)
  else s

/-- Close a session: keys and timers are gone. -/
def State.closeSess (s : State) (i : Nat) : State := s.putSess i Sess.blank

/-- Every session is CLOSED. -/
def State.closeAll (s : State) : State :=
  (s.setSax { s.sax with sess := [], bad := [] }).sf F.SAX_OCC_OPEN 0

/-- An uncorrected error in a session's entry (R352). -/
def State.sessError (s : State) (i : Nat) : State :=
  let s := s.closeSess i
  let s := s.setSax { s.sax with bad := s.sax.bad.set (fun _ => false) i false }
  ((s.sf F.SAX_STAT_MEM_UE 1).logRec 0x21 0x2012 i 0).raise 0x21 kUE 0

def State.sessBad (s : State) (i : Nat) : Bool := s.sax.bad.get (fun _ => false) i

/-! ### Policing (R346) -/

/-- A session with its buckets brought up to date: CIR and EIR bytes a second, up to CBS and EBS. -/
def Sess.fill (v : Sess) (now : Nat) : Sess :=
  { v with cb := min (v.cbs * 250000000) (v.cb + v.cir * (now - v.at_)),
           eb := min (v.ebs * 250000000) (v.eb + v.eir * (now - v.at_)), at_ := now }

/-- The outcome of policing `len` bytes on a session with filled buckets: whether EXCESS, and the session after the debit;
nothing where the record does not conform. A CIR of 0xFF_FFFF disables policing. -/
def Sess.police (v : Sess) (len : Nat) : Option (Bool × Sess) :=
  let n := len * 250000000
  if v.cir = 0xFFFFFF then some (false, v)
  else if n ≤ v.cb then some (false, { v with cb := v.cb - n })
  else if n ≤ v.eb then some (true, { v with eb := v.eb - n })
  else none

/-! ### Events and timers (R347, R348) -/

/-- Post a session event: one that is discarded is counted. -/
def State.saxPost (s : State) (i kind : Nat) : State :=
  let (s, ok) := s.postEvent (s.gf F.SAX_KA_Q_QUEUE) (i + kind * 2 ^ 17) 0x21 [F.SAX_CNT_KA_DROP_COUNT]
  if ok then s.wake 4 else s

def Sess.arm (v : Sess) (now : Nat) : Sess :=
  { v with ka := if v.kaMs = 0 then none else some (now + msTicks v.kaMs),
           idle := if v.idleMs = 0 then none else some (now + msTicks v.idleMs) }

/-- Advance one of a session's counters (SAX_SEL_CNT). -/
def Sess.count (v : Sess) (k : Nat) : Sess := { v with cnt := setAt v.cnt k (satAdd 32 (v.cnt.getD k 0) 1) }

/-- May one more timer event be posted in this millisecond? If not, KA_LATE is set. -/
def State.saxSlot (s : State) : State × Bool :=
  let m := s.tick / 250000
  let n := if s.sax.ms = m then s.sax.msCnt else 0
  if 4096 ≤ n then (s.sf F.SAX_STAT_KA_LATE 1, false)
  else (s.setSax { s.sax with ms := m, msCnt := n + 1 }, true)

/-- KEEPALIVE (R347): the timer of session `i` has expired: an event, and the timer runs again. -/
def saxKeepalive (i : Nat) (s : State) : State :=
  match (s.sess i).ka with
  | none => s
  | some d =>
    if s.saxHeld ∨ !s.saxReady ∨ !(s.sess i).opn ∨ s.tick < d then s
    else
      let (s, ok) := s.saxSlot
      if !ok then s
      else
        let v := s.sess i
        let s := s.setSess i ({ v with ka := some (s.tick + msTicks v.kaMs) }.count 5)
        s.saxPost i 0

/-- IDLE (R347): the timer of session `i` has expired: one event, and the timer stays stopped. -/
def saxIdle (i : Nat) (s : State) : State :=
  match (s.sess i).idle with
  | none => s
  | some d =>
    if s.saxHeld ∨ !s.saxReady ∨ !(s.sess i).opn ∨ s.tick < d then s
    else
      let (s, ok) := s.saxSlot
      if !ok then s
      else (s.setSess i ({ s.sess i with idle := none }.count 5)).saxPost i 1

/-! ### Twin records (R349, R350) -/

/-- The session record of a session. -/
def State.sessRecord (s : State) (i : Nat) : List Byte :=
  let v := s.sess i
  leBytes 4 i ++ leBytes 1 (if v.opn then 1 else 2) ++ leBytes 1 (v.mode + 4 * b2n v.aes256) ++ [0, 0] ++
    leBytes 4 v.cir ++ leBytes 4 v.cbs ++ leBytes 4 v.eir ++ leBytes 4 v.ebs ++ leBytes 4 v.idleMs ++ leBytes 4 v.kaMs ++
    sliceB v.fw 0 32

/-- Send a session record, or drop and count it. -/
def State.sendSess (s : State) (l : List Byte) : State :=
  if s.linkUp 0 ∧ !s.partnerLost then s.emit .session 0 l else s.incf F.SAX_CNT_REPL_DROP_COUNT

/-- An operation changed a session: its record, on the active. -/
def State.replSess (s : State) (i : Nat) : State := if s.role = rACTIVE then s.sendSess (s.sessRecord i) else s

/-- RESYNC (R349): on the active, the records of every open session will be sent. -/
def saxResync (s : State) : State :=
  if s.role ≠ rACTIVE ∨ !s.saxReady then s
  else (s.setSax { s.sax with resync := true }).sf F.SAX_STAT_RESYNC_BUSY 1

/-- RESYNC_COMPLETE (R349): RESET_ALL and every open session's record have been sent. -/
def saxResyncEnd (s : State) : State :=
  if !s.sax.resync ∨ s.saxHeld then s
  else
    let s := s.sendSess (List.replicate 4 0 ++ [4] ++ List.replicate 59 0)
    let s := s.sax.sess.foldl (fun s p => if p.2.opn then s.sendSess (s.sessRecord p.1) else s) s
    (s.setSax { s.sax with resync := false }).sf F.SAX_STAT_RESYNC_BUSY 0

/-- A received record is applied (R350). -/
def State.applySess (s : State) (l : List Byte) : State :=
  let n (o k : Nat) : Nat := leNat (sliceB l o k)
  let i := n 0 4
  let fl := n 4 1
  if bit fl 2 then s.closeAll
  else if s.saxSize ≤ i then s
  else if bit fl 1 then s.closeSess i
  else if bit fl 0 then
    let old := s.sess i
    let v : Sess :=
      { Sess.blank with
        opn := true, mode := n 5 1 % 4, aes256 := bit (n 5 1) 2, cir := n 8 4 % 2 ^ 24, cbs := n 12 4 % 2 ^ 20,
        eir := n 16 4 % 2 ^ 24, ebs := n 20 4 % 2 ^ 20, idleMs := n 24 4 % 2 ^ 24, kaMs := n 28 4 % 2 ^ 24,
        fw := sliceB l 32 32, cb := n 12 4 % 2 ^ 20 * 250000000, eb := n 20 4 % 2 ^ 20 * 250000000, at_ := s.tick,
        cnt := old.cnt }
    s.putSess i v
  else s

/-- SESSION_RECORD (R350): a record arrives on a member that is not ACTIVE. -/
def sessionRecord (l : List Byte) (s : State) : State :=
  if s.role = rACTIVE ∨ !s.saxReady ∨ !s.linkUp 0 ∨ l.length ≠ 64 then s
  else if s.saxHeld then s.setSax { s.sax with inWait := s.sax.inWait ++ [l] }
  else s.applySess l

/-- What SAX does by itself: waiting records are applied once it may, and timers are armed when the member has become ACTIVE
(R350, R351). -/
def saxSync (s : State) : State :=
  let s := if s.saxHeld ∨ s.sax.inWait.isEmpty then s
    else s.sax.inWait.foldl State.applySess (s.setSax { s.sax with inWait := [] })
  let act := s.role == rACTIVE
  if act == s.sax.active then s
  else
    let s := s.setSax { s.sax with active := act }
    if !act then s
    else s.setSax { s.sax with sess := s.sax.sess.map (fun p => if p.2.opn then (p.1, p.2.arm s.tick) else p) }

/-! ### SX.KEY and SX.KA (R339, R340, R347): STATUS -/

/-- Reserved bytes and bits of the fields of a key block that the flags read (R339). -/
def keyBlockOk (b : List Byte) (init keys pol : Bool) : Bool :=
  let n (o k : Nat) : Nat := leNat (sliceB b o k)
  let z (o k : Nat) : Bool := n o k == 0
  let mode := n 0 1
  let dtls := mode % 4 == 2
  z 1 1 && z 4 4 && z 28 4 && z 116 12 &&
  (!(init || keys) || (mode < 8 && mode % 4 != 3)) &&
  (!keys || ((bit mode 2 || z 48 16) && (!dtls || n 14 2 == 0) && (if dtls then bit mode 2 || z 80 16 else z 64 32))) &&
  (!(init || pol) || (n 96 4 < 2 ^ 24 && n 100 4 < 2 ^ 20 && n 104 4 < 2 ^ 24 && n 108 4 < 2 ^ 20)) &&
  (!init || n 112 4 < 2 ^ 24)

/-- The key of a block: the next record number is START. -/
def blockKey (b : List Byte) : SKey :=
  let n (o k : Nat) : Nat := leNat (sliceB b o k)
  let len := if bit (n 0 1) 2 then 32 else 16
  { epoch := n 2 2, iv := sliceB b 16 12, key := sliceB b 32 len, sn := sliceB b 64 len, next := n 8 8, win := 0, used := 0 }

/-- The effects of an accepted SX.KEY with a block, in the order of the flags (R340). -/
def Sess.install (v : Sess) (b : List Byte) (init rx tx pol : Bool) (now : Nat) : Sess :=
  let n (o k : Nat) : Nat := leNat (sliceB b o k)
  let v : Sess := if init then
      ({ Sess.blank with
          opn := true, mode := n 0 1 % 4, aes256 := bit (n 0 1) 2, cir := n 96 4, cbs := n 100 4, eir := n 104 4,
          ebs := n 108 4, cb := n 100 4 * 250000000, eb := n 108 4 * 250000000, at_ := now, idleMs := n 112 4,
          fw := List.replicate 32 0 } : Sess).arm now
    else v
  let v := if rx then { v with rx := some (blockKey b), old := if v.mode = 2 then v.rx else v.old } else v
  let v := if tx then { v with tx := some (blockKey b) } else v
  if pol then { v with cir := n 96 4, cbs := n 100 4, eir := n 104 4, ebs := n 108 4, cb := n 100 4 * 250000000,
                       eb := n 108 4 * 250000000, at_ := now }
  else v

/-- SX.KEY (R339, R340): session, key block, flags. -/
def sxKey (i : Nat) (b : List Byte) (fl : Nat) (s : State) : State × Nat :=
  let init := bit fl 0
  let rx := bit fl 1
  let tx := bit fl 2
  let pol := bit fl 3
  let close := bit fl 4
  let fw := bit fl 5
  let v := s.sess i
  let mode := leNat (sliceB b 0 1)
  if !s.saxReady ∨ s.saxHeld then (s, 0x25)
  else if s.saxSize ≤ i then (s, 0x13)
  else if fl = 0 ∨ 64 ≤ fl ∨ (close ∧ fl ≠ 16) ∨ (fw ∧ fl ≠ 32) then (s, 0x13)
  else if !close ∧ !fw ∧ !keyBlockOk b init (rx || tx) pol then (s, 0x13)
  else if (rx ∨ tx) ∧ (mode % 4 = 0 ∨ (!init ∧ v.opn ∧ mode ≠ v.mode + 4 * b2n v.aes256)) then (s, 0x13)
  else if s.sessBad i then (s.sessError i, 0x26)
  else if !v.opn ∧ !init then (s, 0x12)
  else if v.opn ∧ init then (s, 0x13)
  else
    let s := if close then s.closeSess i
      else if fw then s.setSess i { v with fw := sliceB b 0 32 }
      else s.putSess i (v.install b init rx tx pol s.tick)
    (if init ∨ pol ∨ close ∨ fw then s.replSess i else s, 0)

/-- SX.KA (R347): session, interval in ms. -/
def sxKa (i ms : Nat) (s : State) : State × Nat :=
  if !s.saxReady ∨ s.saxHeld then (s, 0x25)
  else if s.saxSize ≤ i ∨ 2 ^ 24 ≤ ms then (s, 0x13)
  else if s.sessBad i then (s.sessError i, 0x26)
  else if !(s.sess i).opn then (s, 0x12)
  else
    let ka := if ms = 0 then none else some (s.tick + msTicks ms)
    ((s.setSess i { s.sess i with kaMs := ms, ka := ka }).replSess i, 0)

/-! ### SX.RX (R341 to R343): STATUS and VALUE -/

/-- The nonce: the IV with the record number exclusive-ored into its last eight bytes. -/
def nonceOf (iv : List Byte) (n : Nat) : List Byte :=
  (List.zip (sliceB iv 0 12) (beBytes 12 n)).map (fun p => p.1 ^^^ p.2)

/-- Exclusive-or of leading bytes. -/
def xorB (a b : List Byte) : List Byte := (List.zip a (b ++ List.replicate a.length 0)).map (fun p => p.1 ^^^ p.2)

/-- Header length of a record that suits the session's mode (R341); `none` where it does not. -/
def suits (mode : Nat) (r : List Byte) : Option Nat :=
  let len := r.length
  let b (i : Nat) : Nat := (r.getD i 0).toNat
  if mode = 1 then
    if b 0 = 0x17 ∧ b 1 = 3 ∧ b 2 = 3 ∧ beNat (sliceB r 3 2) = len - 5 ∧ 22 ≤ len ∧ len ≤ 9600 then some 5 else none
  else if mode = 2 then
    let h := if bit (b 0) 3 then 5 else 4
    if bits (b 0) 7 5 = 1 ∧ !bit (b 0) 4 ∧ bit (b 0) 2 ∧ beNat (sliceB r (h - 2) 2) = len - h ∧ len ≤ 9600 ∧ h + 17 ≤ len then some h
    else none
  else if 1 ≤ len ∧ len ≤ 9600 then some 0 else none

/-- The 48-bit number whose low `k` bits are `v` and which lies closest to `next` (R343). -/
def closest (next k v : Nat) : Nat :=
  let m := 2 ^ k
  let base := next / m * m + v
  let dist (x : Nat) : Nat := if x < next then next - x else x - next
  let best (a b : Nat) : Nat := if dist b < dist a then b else a
  let lo := if m ≤ base then base - m else base
  let hi := if base + m < 2 ^ 48 then base + m else base
  best (best base lo) hi

/-- Is number `n` outside the replay window or marked (R343)? -/
def SKey.replay (k : SKey) (n : Nat) : Bool := n < k.next && (64 ≤ k.next - 1 - n || bit k.win (k.next - 1 - n))

/-- Mark number `n`, sliding the window where it is the highest. -/
def SKey.mark (k : SKey) (n : Nat) : SKey :=
  if k.next ≤ n then { k with next := n + 1, win := (k.win * 2 ^ (n + 1 - k.next) + 1) % 2 ^ 64 }
  else { k with win := k.win ||| 2 ^ (k.next - 1 - n) }

/-- Content type and plaintext length of an inner plaintext; none where it is all zero. -/
def innerOf (l : List Byte) : Option (Nat × Nat) :=
  match l.reverse.dropWhile (· == 0) with
  | [] => none
  | t :: r => some (t.toNat, r.length)

/-- The record summary written to tack. -/
def rxSummary (recno plen ctype flags hdr : Nat) : List Byte :=
  leBytes 8 recno ++ leBytes 2 plen ++ leBytes 1 ctype ++ leBytes 1 flags ++ leBytes 1 hdr ++ [0, 0, 0]

/-- A failing SX.RX: its counter, of the device and of the session. -/
def State.rxFail (s : State) (i k : Nat) (c : Fld) : State := (s.setSess i ((s.sess i).count k)).incf c

/-- An OK SX.RX: the session after the debit, its counters and idle timer; the summary at `ta`. -/
def State.rxDone (s : State) (i : Nat) (v : Sess) (ta : Nat) (sum : List Byte) : State :=
  let v := { v with idle := if v.idleMs = 0 then none else some (s.tick + msTicks v.idleMs) }
  ((s.setSess i (v.count 0)).incf F.SAX_CNT_RX_OK_COUNT).wrL ta sum

/-- The key and record number that a record selects (R343): key, OLD_KEY, number, header with the number unmasked. -/
def selectKey (v : Sess) (r : List Byte) (h : Nat) : Option (SKey × Bool × Nat × List Byte) :=
  match v.rx with
  | none => none
  | some k =>
    if v.mode = 1 then some (k, false, k.next, r.take 5)
    else
      let ee := (r.getD 0 0).toNat % 4
      let pick := if k.epoch % 4 = ee then some (k, false)
        else match v.old with
          | some o => if o.epoch % 4 = ee then some (o, true) else none
          | none => none
      match pick with
      | none => none
      | some (k, isOld) =>
        let seq := xorB (sliceB r 1 (h - 3)) (Config.recordMask v.aes256 k.sn (sliceB r h 16))
        some (k, isOld, closest k.next (8 * (h - 3)) (beNat seq), r.take 1 ++ seq ++ sliceB r (h - 2) 2)

/-- SX.RX (R342) by thread `t`: session, frame handle, offset, length, memory address of the summary. -/
def sxRx (t i hnd off len ta : Nat) (s : State) : State × Nat × Nat :=
  if !s.saxReady then (s, 0x25, 0)
  else if s.saxSize ≤ i then (s, 0x13, 0)
  else if s.sessBad i then (s.sessError i, 0x26, 0)
  else match s.ownFrame t hnd with
    | none => (s, 0x12, 0)
    | some f =>
      let v := (s.sess i).fill s.tick
      let r := sliceB f.data off len
      if !v.opn then (s, 0x12, 0)
      else if s.saxHeld then (s, 0x25, 0)
      else if f.data.length < off + len then (s, 0x13, 0)
      else if f.linkMet (off + len) then (s.linkErr hnd, 0x12, 0)
      else match suits v.mode r with
        | none => (s, 0x13, 0)
        | some h =>
          if v.mode = 0 then
            match v.police len with
            | none => (s.rxFail i 3 F.SAX_CNT_POLICED_COUNT, 0x22, 0)
            | some (ex, v') => (s.rxDone i v' ta (rxSummary 0 len 0 (b2n ex) 0), 0, len)
          else if v.rx.isNone then (s, 0x12, 0)
          else match selectKey v r h with
            | none => (s.rxFail i 1 F.SAX_CNT_AUTH_FAIL_COUNT, 0x20, 0)
            | some (k, isOld, n, hdr) =>
              match v.police len with
              | none => (s.rxFail i 3 F.SAX_CNT_POLICED_COUNT, 0x22, 0)
              | some (ex, v') =>
                if v.mode = 2 ∧ k.replay n then (s.rxFail i 2 F.SAX_CNT_REPLAY_COUNT, 0x21, 0)
                else
                  let ct := r.drop h
                  match (Config.gcmOpen v.aes256 k.key (nonceOf k.iv n) hdr ct).map (fun p => sliceB p 0 (ct.length - 16)) with
                  | none => (s.rxFail i 1 F.SAX_CNT_AUTH_FAIL_COUNT, 0x20, 0)
                  | some pt =>
                    match innerOf pt with
                    | none => (s.rxFail i 1 F.SAX_CNT_AUTH_FAIL_COUNT, 0x20, 0)
                    | some (ctype, plen) =>
                      let k' := if v.mode = 1 then { k with next := (k.next + 1) % 2 ^ 64 } else k.mark n
                      let v' := if isOld then { v' with old := some k' } else { v' with rx := some k' }
                      let recno := if v.mode = 1 then n else k.epoch * 2 ^ 48 + n
                      let s := s.setFrame { f with data := patchB f.data (off + h) pt }
                      (s.rxDone i v' ta (rxSummary recno plen ctype (b2n ex + 2 * b2n isOld) h), 0, plen)

/-! ### SX.TX (R344) -/

/-- The protected record and the key after it. -/
def protect (v : Sess) (k : SKey) (r : List Byte) : List Byte :=
  let n := r.length - 5 + 16
  let pt := r.drop 5
  if v.mode = 1 then
    let hdr : List Byte := [0x17, 3, 3] ++ beBytes 2 n
    hdr ++ sliceB (Config.gcmSeal v.aes256 k.key (nonceOf k.iv k.next) hdr pt) 0 n
  else
    let b0 := leBytes 1 (0x2C + k.epoch % 4)
    let seq := beBytes 2 (k.next % 2 ^ 16)
    let ct := sliceB (Config.gcmSeal v.aes256 k.key (nonceOf k.iv k.next) (b0 ++ seq ++ beBytes 2 n) pt) 0 n
    b0 ++ xorB seq (Config.recordMask v.aes256 k.sn (sliceB ct 0 16)) ++ beBytes 2 n ++ ct

/-- SX.TX (R344) by thread `t`: session, frame handle, offset, length. -/
def sxTx (t i hnd off len : Nat) (s : State) : State × Nat × Nat :=
  if !s.saxReady then (s, 0x25, 0)
  else if s.saxSize ≤ i then (s, 0x13, 0)
  else if s.sessBad i then (s.sessError i, 0x26, 0)
  else match s.ownFrame t hnd with
    | none => (s, 0x12, 0)
    | some f =>
      let v := s.sess i
      let ka := if v.kaMs = 0 then none else some (s.tick + msTicks v.kaMs)
      if !v.opn ∨ (v.mode ≠ 0 ∧ v.tx.isNone) then (s, 0x12, 0)
      else if s.saxHeld then (s, 0x25, 0)
      else if f.data.length < off + len + 16 ∨ len < 6 ∨ 9584 < len then (s, 0x13, 0)
      else if f.linkMet (off + len + 16) then (s.linkErr hnd, 0x12, 0)
      else
        let ok (v : Sess) (s : State) : State := (s.setSess i ({ v with ka := ka }.count 4)).incf F.SAX_CNT_TX_OK_COUNT
        match v.tx with
        | none => (ok v s, 0, len)
        | some k =>
          if v.mode = 0 then (ok v s, 0, len)
          else if (if v.mode = 2 then 2 ^ 48 else 2 ^ 64) ≤ k.next then (s, 0x13, 0)
          else
            let s := s.setFrame { f with data := patchB f.data off (protect v k (sliceB f.data off len)) }
            let s := ok { v with tx := some { k with next := k.next + 1, used := k.used + 1 } } s
            (if k.used + 1 = 16777216 then s.saxPost i 2 else s, 0, len + 16)

/-! ### Enabling, power, resets (R336, R338, R351, R352, R353) -/

/-- SAX_ENABLE (R336): EN written: the placement checks, then clearing starts; EN = 0 ends the table. -/
def saxEnable (on : Bool) (s : State) : State :=
  let (base, size) := s.saxRegion
  if !on then
    let s := s.setSax { s.sax with clearing := false, resync := false }
    s.sfs [(F.SAX_CTL_EN, 0), (F.SAX_STAT_READY, 0), (F.SAX_STAT_RESYNC_BUSY, 0)]
  else if s.bf F.SAX_CTL_EN then s
  else if s.usable < base + size ∨
      (s.bf F.LFT_CTL_EN ∧ (overlap base size s.loftRegion.1 s.loftRegion.2 ∨ overlap base size s.auxRegion.1 s.auxRegion.2)) ∨
      (s.bf F.EVR_SPILL_CTL_EN ∧ overlap base size (s.gf F.EVR_SPILL_BASE_BASE * 2 ^ 13) (32 * s.spillSize)) then
    s.sf F.SAX_STAT_CFG_REJ 1
  else
    let s := (s.sf F.SAX_CTL_EN 1).closeAll
    s.setSax { s.sax with clearing := true }

/-- SAX_READY (R336): every session has been marked CLOSED. -/
def saxReadyStep (s : State) : State :=
  if s.sax.clearing ∧ s.bf F.SAX_CTL_EN then (s.setSax { s.sax with clearing := false }).sf F.SAX_STAT_READY 1 else s

/-- SAX loses power (R351). -/
def saxPowerOff (s : State) : State := if s.sax.dark then s else s.setSax { s.sax with dark := true }

/-- SAX is powered again (R351): READY is 1, every session is CLOSED, LOST is set and a record is written. -/
def saxPowerOn (s : State) : State :=
  if !s.sax.dark then s
  else
    let s := s.setSax { s.sax with dark := false, clearing := false, resync := false, inWait := [] }
    if !s.bf F.SAX_CTL_EN then s
    else
      let n := s.gf F.SAX_OCC_OPEN
      let s := s.closeAll
      (s.sfs [(F.SAX_STAT_READY, 1), (F.SAX_STAT_LOST, 1), (F.SAX_STAT_RESYNC_BUSY, 0)]).logRec 0x21 0x2011 n 0

/-- SX operations whose result word has not been written return BAD_HANDLE (R352). -/
def Thread.failSx (th : Thread) : Thread :=
  { th with txns := th.txns.map (fun x => if x.kind == .unit && x.op == 0x14 then { x with res := some (0x12, 0) } else x) }

/-- SAX_BLOCK_RESET (R352). -/
def saxReset (s : State) : State :=
  let s := (s.endFence 0x21).beginReset 0x21
  let s := s.setBrn { s.brn with thr := s.brn.thr.map (fun p => (p.1, p.2.failSx)) }
  let s := s.closeAll
  let s := (s.setSax { s.sax with resync := false, inWait := [] }).sf F.SAX_STAT_RESYNC_BUSY 0
  s.endReset 0x21

/-- A write of SAX_CTL. -/
def saxCtl (v : Nat) (s : State) : State :=
  let s := if bit v 31 then s.sf F.SAX_CTL_LOCK 1 else s
  let s := if bit v 0 != s.bf F.SAX_CTL_EN then saxEnable (bit v 0) s else s
  let s := if bit v 1 then saxReset s else s
  if bit v 2 then saxResync s else s

/-- A write of SAX_CFG or SAX_TBL_BASE. -/
def saxCfg (off v : Nat) (s : State) : State :=
  if s.bf F.SAX_CTL_LOCK then s
  else if s.bf F.SAX_CTL_EN ∨ (off = R.SAX_CFG ∧ (bits v 4 0 < 10 ∨ 17 < bits v 4 0)) then s.sf F.SAX_STAT_CFG_REJ 1
  else s.plainWrite off v false

/-- SAX_SEL (R353): a snapshot of the session, valid within 2 µs. -/
def saxSel (v : Nat) (s : State) : State :=
  let i := bits v 16 0
  let x := (s.sess i).fill s.tick
  let s := s.sfs [(F.SAX_SEL_SESSION, i), (F.SAX_SEL_VALID, 1), (F.SAX_SEL_STATE_OPEN, b2n x.opn),
    (F.SAX_SEL_STATE_RX_KEY, b2n x.rx.isSome), (F.SAX_SEL_STATE_TX_KEY, b2n x.tx.isSome),
    (F.SAX_SEL_STATE_OLD_KEY, b2n x.old.isSome), (F.SAX_SEL_STATE_MODE, x.mode), (F.SAX_SEL_STATE_AES256, b2n x.aes256),
    (F.SAX_SEL_STATE_EPOCH, (x.rx.map (·.epoch)).getD 0), (F.SAX_SEL_CB_BYTES, x.cb / 250000000),
    (F.SAX_SEL_EB_BYTES, x.eb / 250000000)]
  (List.range 6).foldl (fun s k => s.sf (F.SAX_SEL_CNT_COUNT k) (x.cnt.getD k 0)) s

end Sys2Proof.Machine
end

