-- ==== Sys2Proof/Machine/Ztt.lean ====
section
/-! DEFINITION. ZTT (spec/12): bit time, frames, the matrix, guardian, references and masters, node states, mode switching,
message buffers, presence. Times are in 2^-16 tick. -/
namespace Sys2Proof.Machine

def State.setZ (s : State) (z : ZttSt) : State := { s with ztt := z }
def zSrc : Nat := 0x1C
def State.zNow (s : State) : Int := (s.tick : Int) * 65536

def zOFF : Nat := 0
def zLISTEN : Nat := 1
def zCOLDSTART : Nat := 2
def zINTEGRATE : Nat := 3
def zRUN : Nat := 4
def zPASSIVE : Nat := 5

def State.zState (s : State) : Nat := s.gf F.ZTT_STAT_STATE
def State.zMaster (s : State) : Bool := s.bf F.ZTT_STAT_MASTER
def State.zCount (s : State) (k : Nat) : State := s.incf (F.ZTT_CNT_G_COUNT k)
def State.zInt (s : State) (f : Fld) : State := s.sf f 1
def State.zRej (s : State) : State := s.sf F.ZTT_STAT_CFG_REJ 1

/-- Configuration values whose 0 acts as 1. -/
def State.zGuard (s : State) : Nat := max 1 (s.gf F.ZTT_CFG_GUARD)
def State.zMissMax (s : State) : Nat := max 1 (s.gf F.ZTT_CFG_REF_MISS_MAX)
def State.zRbMax (s : State) : Nat := max 1 (s.gf F.ZTT_REF_CFG_RB_MAX)
def State.zNode (s : State) : Nat := s.gf F.ZTT_CFG_NODE
def State.zPrio (s : State) : Nat := s.gf F.ZTT_CFG_PRIO
def State.zChan (s : State) (c : Nat) : Bool := bit (s.gf F.ZTT_CFG_CHAN) c
def State.zChans (s : State) : List Bool := [s.zChan 0, s.zChan 1]

/-! ### Bit time (R280, R281) -/

/-- Nominal bit time in 2^-16 tick. -/
def zNominal (rate : Nat) : Nat := [819200, 1638400, 3276800, 6553600, 16384000].getD rate 819200

/-- The bit time now, in 2^-16 tick. -/
def State.zBit (s : State) : Nat := s.gf F.ZTT_BIT_B

/-- TRIM as a signed value, clamped to ±1,000 ppm. -/
def State.zTrim (s : State) : Int := max (-16777) (min 16777 (sgn 16 (s.gf F.ZTT_TRIM_TRIM)))

/-- A master's bit time: nominal × (1 + TRIM × 2^-24). -/
def State.zMasterBit (s : State) : State :=
  s.sf F.ZTT_BIT_B (((zNominal (s.gf F.ZTT_CFG_RATE) : Int) * (2 ^ 24 + s.zTrim)) / 2 ^ 24).toNat

/-- A follower's bit time from the measured one: the mean, within nominal ±2,000 ppm. -/
def State.zFollowBit (s : State) (measured : Nat) : State :=
  let n := zNominal (s.gf F.ZTT_CFG_RATE)
  s.sf F.ZTT_BIT_B (max (n * 998 / 1000) (min (n * 1002 / 1000) ((s.zBit + measured) / 2)))

/-- The instant that lies `k` bit times after the start of the basic cycle. -/
def State.zAt (s : State) (k : Nat) : Int := s.ztt.s.getD 0 + (k * s.zBit : Nat)

/-! ### Modes and entries (R283, R284) -/

/-- The value of a descriptor or entry register for an occurrence that starts at `t`: a write counts from 16 bit times on. -/
def State.zEff (s : State) (off : Nat) (t : Int) : Nat :=
  match s.ztt.hist.filter (fun h => h.1 == off && decide (t < (h.2.2 : Int) * 65536 + (16 * s.zBit : Nat))) with
  | [] => s.reg off
  | h :: _ => h.2.1

/-- A write of a mode descriptor or window entry (R284). -/
def zWrite (off v : Nat) (s : State) : State :=
  let h := s.ztt.hist.filter (fun h => decide (s.tick < h.2.2 + 8192))
  let s := s.setZ { s.ztt with hist := h ++ [(off, s.reg off, s.tick)],
                               badEnt := s.ztt.badEnt.set (fun _ => false) off false }
  s.plainWrite off v false

/-- A mode as it stands for a basic cycle that starts at `t`: NCYC, NWIN, BASE, CYC_BT. -/
def State.zMode (s : State) (i : Nat) (t : Int) : Nat × Nat × Nat × Nat :=
  let m := s.zEff (R.ZTT_MODE i) t
  (bits m 29 24 + 1, bits m 22 16 + 1, bits m 12 0, bits (s.zEff (R.ZTT_MODE_LEN i) t) 15 0)

/-- Is mode `i` usable (R283)? -/
def State.zUsable (s : State) (i : Nat) : Bool :=
  let (nc, nw, base, _) := s.zMode i s.zNow
  base + nc * nw ≤ 8192 &&
  (List.range nc).all (fun c => 2 * s.zGuard + 178 ≤ bits (s.zEff (R.ZTT_WIN_TIME (base + c * nw)) s.zNow) 31 16)

/-! ### States and stamps -/

/-- Change the node state (STATE_CHG and a NODE_STATE record). -/
def State.zEnter (s : State) (new : Nat) : State :=
  let old := s.zState
  if old = new then s
  else
    let s := (s.sf F.ZTT_STAT_STATE new).zInt F.ZTT_INT_STAT_STATE_CHG
    let s := if new = zRUN then s else s.sf F.ZTT_STAT_MASTER 0
    s.logRec zSrc 0x10C1 (new + 8 * old) (s.gf F.ZTT_CYCLE_MCOUNT)

/-- The frame in progress ends before its last bit: the bytes given out with its start never end on its channels (R288). -/
def State.zCut (s : State) : State :=
  match s.ztt.tx with
  | none => s
  | some t =>
    ((List.range 2).filter (fun c => t.chans.getD c false)).foldl (fun s c => s.emit .zttCut c [])
      (s.setZ { s.ztt with tx := none })

/-- The node's timing stops: no basic cycle, no frame, no back-off. -/
def State.zHalt (s : State) : State :=
  let s := s.zCut.sf F.ZTT_STAT_SWITCH_PEND 0
  s.setZ { s.ztt with s := none, win := none, tx := none, back := none, first := none, der := none, refGot := none,
                      refSent := false, refJudged := false, missRun := 0, rbRun := 0, intact := 0, asBackup := false,
                      req := none, reqSent := false, listen := s.tick }

/-- Enter LISTEN (R293, R296, R309). -/
def State.zListen (s : State) : State := s.zHalt.zEnter zLISTEN

/-- May the node transmit (R279, R308, R309; R382 for its bank)? -/
def State.zMayTx (s : State) : Bool :=
  !s.fenced zSrc && !s.safe && s.gf F.PWR_STAT_SH != 4 && s.gf F.PWR_STAT_PS != 4 && s.vioA

/-- Quiet under OUT_QUIET (R307). -/
def State.zQuiet (s : State) : Bool := s.bf F.ZTT_CFG_OUT_QUIET && s.role == rOUT

/-- The stamp record of a reference whose start sequence fell `ago` ticks ago. -/
def State.zStamp (s : State) (ago : Nat) : State :=
  let n := s.gf F.ZTT_REF_CFG_REF_DOM
  let d := s.dom n
  let v := d.val - ago * s.rateOf n
  let tag := s.gf F.ZTT_CYCLE_MCOUNT % 2 ^ 10 * 2 ^ 6 + s.gf F.ZTT_CYCLE_CYCLE
  s.setZ { s.ztt with refW := BitVec.ofNat 256 (leNat (s.stampOf n v 3 0 tag)) }

/-- Post an event to a queue; one that finds it full is counted (R305). -/
def State.zPost (s : State) (q v : Nat) : State :=
  let (s, ok) := s.postEvent q v zSrc [F.ZTT_CNT_G_COUNT 10]
  if ok then s.wake 4 else s

/-! ### Buffers (R301 to R305) -/

def ZBuf.none : ZBuf := { page := Option.none, born := 0, got := Option.none }
def State.zBuf (s : State) (m : Nat) : ZBuf := s.ztt.buf.get (fun _ => ZBuf.none) m
def State.setZBuf (s : State) (m : Nat) (b : ZBuf) : State :=
  s.setZ { s.ztt with buf := s.ztt.buf.set (fun _ => ZBuf.none) m b }

/-- A memory error found in ZTT (R309). -/
def State.zUe (s : State) (detail : Nat) : State := (s.sf F.ZTT_STAT_MEM_UE 1).raise zSrc kUE detail

/-- COMMIT (R301): the staging page's first `len` bytes become the content. -/
def zCommit (m len : Nat) (s : State) : State :=
  if 64 < len ∨ !s.bf (F.ZTT_MB_CFG_DIR m) then s.zRej
  else
    let stage := (List.range 16).flatMap (fun w => leBytes 4 (s.reg (R.ZTT_MB_DATA m w)))
    let s := s.setZBuf m { s.zBuf m with page := some (stage.take len), born := s.ztt.abs }
    let s := s.setZ { s.ztt with badBuf := s.ztt.badBuf.set (fun _ => false) m false }
    let s := s.sfs [(F.ZTT_MB_STAT_VALID m, 1), (F.ZTT_MB_STAT_SEQ m, s.gf (F.ZTT_MB_STAT_SEQ m) + 1), (F.ZTT_MB_STAT_LEN m, len)]
    s.sf (F.ZTT_MB_INFO_MCOUNT m) (s.gf F.ZTT_CYCLE_MCOUNT)

/-- CLEAR (R302): the transmit buffer turns to NULL until the next COMMIT. -/
def zClear (m : Nat) (s : State) : State :=
  let s := s.setZBuf m { s.zBuf m with page := none }
  s.sf (F.ZTT_MB_STAT_VALID m) 0

/-- A write of ZTT_MB_CMD[m]. -/
def zBufCmd (m v : Nat) (s : State) : State :=
  let s := if bit v 30 then zClear m s else s
  if bit v 31 then zCommit m (bits v 6 0) s else s

/-- A write of ZTT_MB_CFG[m]: other fields only with EN at 0 or in the write that sets it. -/
def zBufCfg (m v : Nat) (s : State) : State :=
  if s.bf (F.ZTT_MB_CFG_EN m) ∧ bits v 30 20 ≠ bits (s.reg (R.ZTT_MB_CFG m)) 30 20 then s.zRej
  else s.plainWrite (R.ZTT_MB_CFG m) v false

/-- What a transmit buffer gives now (R302): `none` for NULL. -/
def State.zContent (s : State) (m : Nat) : Option (List Byte) :=
  let b := s.zBuf m
  let age := s.gf (F.ZTT_MB_CFG_AGE_MAX m)
  if s.ztt.badBuf.get (fun _ => false) m then none
  else if age ≠ 0 ∧ age < s.ztt.abs - b.born then none
  else b.page

/-- Does the node hold a response (R287)? -/
def State.zRq (s : State) : Bool :=
  (List.range 8).any (fun g => s.bf (F.ZTT_POLL_TX_EN g) && s.bf (F.ZTT_MB_CFG_DIR (s.gf (F.ZTT_POLL_TX_BUF g))) &&
    (s.zBuf (s.gf (F.ZTT_POLL_TX_BUF g))).page.isSome)

/-- Store a frame in a receive buffer (R303 to R305). -/
def State.zStore (s : State) (m chan node cycle : Nat) (null : Bool) (data : List Byte) : State :=
  if 512 ≤ m ∨ !s.bf (F.ZTT_MB_CFG_EN m) ∨ s.bf (F.ZTT_MB_CFG_DIR m) then s
  else
    let here := match (s.zBuf m).got with
      | some (a, n) => if a = s.ztt.abs then some n else none
      | none => none
    let first := s.bf (F.ZTT_MB_CFG_FIRST m)
    if first ∧ !null ∧ here = some false then s.incf (F.ZTT_MB_INFO_DUP m)
    else if first ∧ null ∧ here.isSome then s
    else
      let s := s.setZBuf m { s.zBuf m with got := some (s.ztt.abs, null) }
      let s := s.setZ { s.ztt with badBuf := s.ztt.badBuf.set (fun _ => false) m false }
      let s := (List.range (ceilDiv data.length 4)).foldl (fun s w =>
        let old := leBytes 4 (s.reg (R.ZTT_MB_DATA m w))
        s.setReg (R.ZTT_MB_DATA m w) (leNat ((patchB old 0 ((data.drop (4 * w)).take 4)).take 4))) s
      let seq := (s.gf (F.ZTT_MB_STAT_SEQ m) + 1) % 256
      let s := s.sfs [(F.ZTT_MB_STAT_NODE m, node), (F.ZTT_MB_STAT_CYCLE m, cycle), (F.ZTT_MB_STAT_LEN m, data.length),
        (F.ZTT_MB_STAT_NULL m, b2n null), (F.ZTT_MB_STAT_CHAN m, chan), (F.ZTT_MB_STAT_SEQ m, seq), (F.ZTT_MB_STAT_VALID m, 1),
        (F.ZTT_MB_INFO_MCOUNT m, s.gf F.ZTT_CYCLE_MCOUNT)]
      if s.bf (F.ZTT_MB_CFG_QEN m) then s.zPost (s.gf F.ZTT_Q_CFG_RX_Q) (m + seq * 2 ^ 16 + cycle * 2 ^ 24) else s

/-- A read of the data of a receive buffer with an uncorrected error: VALID reads 0 until the next stored frame (R309). -/
def zDataRead (m : Nat) (s : State) : State :=
  if s.ztt.badBuf.get (fun _ => false) m ∧ !s.bf (F.ZTT_MB_CFG_DIR m) ∧ s.bf (F.ZTT_MB_STAT_VALID m) then
    (s.sf (F.ZTT_MB_STAT_VALID m) 0).zUe 0
  else s

/-! ### Sending (R279, R288, R296, R297) -/

/-- The bytes of a frame. -/
def State.zFrame (s : State) (ref null poll : Bool) (window : Nat) (data : List Byte) : List Byte :=
  let h := leBytes 1 (s.zNode + 64 * b2n ref + 128 * b2n null) ++ leBytes 1 (window + 128 * b2n poll) ++
    leBytes 1 (s.gf F.ZTT_CYCLE_CYCLE + 64 * b2n s.zRq) ++ leBytes 1 data.length
  let h := h ++ leBytes 1 (crc8Of 0 h) ++ data
  h ++ leBytes 4 (crc32cOf 0xFFFFFFFF h)

/-- Bit times that a frame of `n` bytes lasts: TSS, FSS, ten bits a byte, FES. -/
def zBits (n : Nat) : Nat := 8 + 10 * n

/-- A back-off ends 8 × PRIO + 32 bit times after the bit of the mismatch (R296). -/
def State.zBackoff (s : State) (tss : Int) : Int :=
  let b : Int := max 1 s.zBit
  tss + ((s.zNow - tss) / b + 1) * b + (8 * s.zPrio + 32) * b

/-- A frame has ended on the bus: read-back results and consumed answers (R287, R295, R297). -/
def State.zSent (s : State) (t : ZTx) : State :=
  let s := match t.ans, t.mism with
    | some m, none => zClear m s
    | _, _ => s
  if s.zState = zCOLDSTART then
    if t.mism.isSome then s
    else
      let s := s.setZ { s.ztt with intact := s.ztt.intact + 1 }
      if s.ztt.intact < 2 then s else (s.zEnter zRUN).sf F.ZTT_STAT_MASTER 1
  else if s.zState = zRUN then
    match t.mism with
    | none => s.setZ { s.ztt with rbRun := 0 }
    | some c =>
      let s := s.setZ { s.ztt with rbRun := s.ztt.rbRun + 1 }
      if s.ztt.rbRun < s.zRbMax then s else (s.zHalt.zEnter zPASSIVE).raise zSrc kPROTOCOL c
  else s

/-- The frame in progress reaches its end, or the end of its permission, where the guardian cuts it (R288). -/
def State.zTxStep (s : State) : State :=
  match s.ztt.tx with
  | none => s
  | some t =>
    if t.fin ≤ t.perm then
      if s.zNow < t.fin then s else (s.setZ { s.ztt with tx := none }).zSent t
    else if s.zNow < t.perm then s
    else
      let s := s.zCut
      if s.zState = zCOLDSTART then s.zListen else s

/-- Start frames: one per channel that has bytes, TSS at `tss`, permission to `perm`. -/
def State.zSend (s : State) (fr : List (Nat × List Byte)) (tss perm : Int) (ans : Option Nat) : State :=
  if fr.isEmpty then s
  else
    let n := fr.foldl (fun n f => max n (zBits f.2.length)) 0
    let s := fr.foldl (fun s f => (s.zCount 0).emit .zttFrame f.1 f.2) s
    s.setZ { s.ztt with tx := some { chans := [fr.any (·.1 == 0), fr.any (·.1 == 1)], tss := tss,
                                     fin := tss + (n * s.zBit : Nat), perm := perm, mism := none, ans := ans } }

/-- The same bytes on every enabled channel. -/
def zBoth (en : List Bool) (l : List Byte) : List (Nat × List Byte) :=
  ((List.range 2).filter (fun c => en.getD c false)).map (fun c => (c, l))

/-! ### References (R290 to R294) -/

/-- The reference payload (table of reference messages). -/
def State.zRefData (s : State) (late : Bool) : List Byte :=
  let m := s.gf F.ZTT_STAT_MODE
  let sw := s.ztt.req.isSome || s.bf F.ZTT_STAT_SWITCH_PEND
  let nm := match s.ztt.req with
    | some r => r
    | none => if s.bf F.ZTT_STAT_SWITCH_PEND then s.gf F.ZTT_STAT_ANN_MODE else m
  leBytes 2 (s.gf F.ZTT_CYCLE_MCOUNT) ++ leBytes 1 m ++ leBytes 1 (nm + 8 * b2n sw) ++
    leBytes 1 (s.zPrio + 8 * b2n late) ++ [0, 0, 0]

/-- Send a reference with its TSS at `tss`; a requested switch is announced by it (R298). -/
def State.zSendRef (s : State) (late : Bool) (tss : Int) : State :=
  let fr := zBoth s.zChans (s.zFrame true false false 0 (s.zRefData late))
  let perm := s.zAt (s.ztt.l0 - s.zGuard)
  let s := s.zSend fr tss perm none
  let s := match s.ztt.req with
    | none => s
    | some r => s.sfs [(F.ZTT_STAT_ANN_MODE, r), (F.ZTT_STAT_SWITCH_PEND, 1)]
  let s := s.setZ { s.ztt with refSent := true, reqSent := s.ztt.req.isSome, missRun := 0 }
  s.zStamp ((s.zNow - tss) / 65536).toNat

/-- The parameters of the basic cycle that starts at `t` in the current mode. -/
def State.zLoad (s : State) (t : Int) : State :=
  let (nc, nw, base, bt) := s.zMode (s.gf F.ZTT_STAT_MODE) t
  let l0 := bits (s.zEff (R.ZTT_WIN_TIME (base + s.gf F.ZTT_CYCLE_CYCLE * nw)) t) 31 16
  s.setZ { s.ztt with s := some t, ncyc := nc, nwin := nw, base := base, cycBt := bt, l0 := l0, prevEnd := l0 }

/-- A basic cycle starts: window 0, ages advance, its event (R305). -/
def State.zBegin (s : State) (t : Int) : State :=
  let s := s.zLoad t
  let s := s.sf F.ZTT_CYCLE_WINDOW 0
  let s := s.setZ { s.ztt with abs := s.ztt.abs + 1, win := none, refSent := false, refJudged := false, refGot := none }
  if s.bf F.ZTT_Q_EN_CYC_QEN then
    s.zPost (s.gf F.ZTT_Q_CFG_CYC_Q)
      (s.gf F.ZTT_CYCLE_CYCLE + s.gf F.ZTT_STAT_MODE * 2 ^ 8 + s.gf F.ZTT_CYCLE_MCOUNT * 2 ^ 16)
  else s

/-! ### Windows and misses (R283 to R285, R306) -/

def State.zPresent (s : State) (n : Nat) : Bool := bit (s.reg (R.ZTT_PRESENT (n / 32))) (n % 32)

/-- Set or clear a presence bit. -/
def State.setPresent (s : State) (n : Nat) (v : Bool) : State :=
  if s.zPresent n = v then s
  else
    let s := s.setReg (R.ZTT_PRESENT (n / 32)) (setBits (s.reg (R.ZTT_PRESENT (n / 32))) (n % 32) (n % 32) (b2n v))
    s.zInt F.ZTT_INT_STAT_PRESENT_CHG

/-- The current window is over: misses of its owner on the channels that delivered nothing (R306). -/
def State.zJudgeWin (s : State) : State :=
  match s.ztt.win with
  | none => s
  | some w =>
    if w.judged then s
    else
      let s := s.setZ { s.ztt with win := some { w with judged := true } }
      if w.kind ≠ 1 ∨ w.owner = s.zNode ∨ (s.zState ≠ zINTEGRATE ∧ s.zState ≠ zRUN) ∨ !w.en.any id then s
      else
        let s := if w.en.getD 0 false ∧ !w.got.getD 0 false then s.incf (F.ZTT_NODE_MISS_MISS_A w.owner) else s
        let s := if w.en.getD 1 false ∧ !w.got.getD 1 false then s.incf (F.ZTT_NODE_MISS_MISS_B w.owner) else s
        if w.got.any id then s else s.setPresent w.owner false

/-- Window 0 has passed: a missing reference is counted, and too many end transmission (R293). -/
def State.zJudgeRef (s : State) : State :=
  if s.zState ≠ zRUN ∨ s.ztt.refJudged ∨ s.ztt.refSent ∨ s.ztt.refGot.isSome then s
  else
    let s := (s.zCount 6).zInt F.ZTT_INT_STAT_REF_MISS
    let s := s.setZ { s.ztt with refJudged := true, missRun := s.ztt.missRun + 1 }
    if s.ztt.missRun < s.zMissMax then s else s.zListen

/-- MISS (R306). -/
def zMiss (s : State) : State :=
  match s.ztt.win with
  | none => s
  | some w => if s.zNow < s.zAt (w.start + w.len) then s else s.zJudgeWin

/-- REF_MISS (R293). -/
def zRefMiss (s : State) : State :=
  if s.ztt.s.isSome ∧ s.zAt s.ztt.l0 ≤ s.zNow then s.zJudgeRef else s

/-- Does a basic cycle run? -/
def State.zCycling (s : State) : Bool :=
  s.ztt.s.isSome && (s.zState == zRUN || s.zState == zINTEGRATE || s.zState == zCOLDSTART)

/-- The mode switch at a matrix boundary (R298, R299). -/
def State.zBoundary (s : State) : State :=
  if !s.bf F.ZTT_STAT_SWITCH_PEND then s
  else
    let m := s.gf F.ZTT_STAT_ANN_MODE
    let s := s.sf F.ZTT_STAT_SWITCH_PEND 0
    let s := if s.ztt.reqSent then s.setZ { s.ztt with req := none, reqSent := false } else s
    if s.zUsable m then (s.sf F.ZTT_STAT_MODE m).zInt F.ZTT_INT_STAT_MODE_CHG else s.zRej

/-- The next basic cycle, CYC_BT bit times after the last. -/
def State.zNext (s : State) : State :=
  let s := s.zJudgeWin.zJudgeRef
  if !s.zCycling then s
  else
    let t := s.zAt s.ztt.cycBt
    let c := s.gf F.ZTT_CYCLE_CYCLE + 1
    let wrap := decide (s.ztt.ncyc ≤ c)
    let s := s.sf F.ZTT_CYCLE_CYCLE (if wrap then 0 else c)
    let s := if wrap then (s.sf F.ZTT_CYCLE_MCOUNT (s.gf F.ZTT_CYCLE_MCOUNT + 1)).zBoundary else s
    s.zBegin t

/-- CYCLE_START (R305, R293). -/
def zCycleStart (s : State) : State :=
  if s.zCycling ∧ s.zAt s.ztt.cycBt ≤ s.zNow then s.zNext else s

/-- What the owner's buffer for a channel gives at the latch (R285, R301, R302, R307). -/
def State.zLatch (s : State) (m len : Nat) : Option (Option (List Byte)) :=
  if 512 ≤ m ∨ !s.bf (F.ZTT_MB_CFG_EN m) ∨ !s.bf (F.ZTT_MB_CFG_DIR m) then none
  else if s.zQuiet then some none
  else match s.zContent m with
    | none => some none
    | some d => if len < zBits (9 + d.length) + 2 * s.zGuard then some none else some (some d)

/-- Counters of a latch: errors met in the buffer, frames too long for the window. -/
def State.zLatchCount (s : State) (c m len : Nat) : State :=
  if 512 ≤ m ∨ !s.bf (F.ZTT_MB_CFG_EN m) ∨ !s.bf (F.ZTT_MB_CFG_DIR m) ∨ s.zQuiet then s
  else if s.ztt.badBuf.get (fun _ => false) m then s.zUe c
  else match s.zContent m with
    | none => s
    | some d => if len < zBits (9 + d.length) + 2 * s.zGuard then s.zCount 3 else s

/-- WINDOW_START (R284): the next window starts: its entry is checked (R283, R309) and its buffers are latched. -/
def zWindowStart (s : State) : State :=
  let w := s.gf F.ZTT_CYCLE_WINDOW + 1
  if !s.zCycling ∨ s.ztt.nwin ≤ w then s
  else
    let k := s.ztt.base + s.gf F.ZTT_CYCLE_CYCLE * s.ztt.nwin + w
    let start := bits (s.zEff (R.ZTT_WIN_TIME k) s.zNow) 15 0
    let t := s.zAt start
    if s.zNow < t then s
    else
      let s := if w = 1 then s.zJudgeRef else s.zJudgeWin
      if !s.zCycling then s
      else
        let len := bits (s.zEff (R.ZTT_WIN_TIME k) t) 31 16
        let e := s.zEff (R.ZTT_WIN_CTL k) t
        let ue := s.ztt.badEnt.get (fun _ => false) (R.ZTT_WIN_TIME k) || s.ztt.badEnt.get (fun _ => false) (R.ZTT_WIN_CTL k)
        let badT := decide (start < s.ztt.prevEnd) || decide (s.ztt.cycBt < start + len)
        let s := if ue then s.zUe 0 else if badT then (s.zCount 9).zInt F.ZTT_INT_STAT_BAD_WIN else s
        let kind := if ue || badT || bits e 31 30 == 3 then 0 else bits e 31 30
        let en := [bit e 29 && s.zChan 0, bit e 28 && s.zChan 1]
        let bufs := [bits e 9 0, bits e 19 10]
        let own := kind == 1 && bits e 27 22 == s.zNode && s.zState == zRUN
        let latch := if own then bufs.map (fun m => s.zLatch m len) else [none, none]
        let s := (List.range 2).foldl (fun s c =>
          if own && en.getD c false then s.zLatchCount c (bufs.getD c 512) len else s) s
        let s := s.sf F.ZTT_CYCLE_WINDOW w
        s.setZ { s.ztt with
          prevEnd := if badT then s.ztt.prevEnd else start + len
          win := some { w := w, kind := kind, owner := bits e 27 22, en := en, buf := bufs, start := start, len := len,
                        latch := latch, got := [false, false], judged := false, sent := false, poll := none,
                        answered := false } }

/-- End of the permission in a window (R288). -/
def State.zPerm (s : State) (w : ZWin) : Int := s.zAt (w.start + w.len - s.zGuard)

/-- FRAME_SEND (R285): the owner sends at the action point. -/
def zFrameSend (s : State) : State :=
  match s.ztt.win with
  | none => s
  | some w =>
    let t := s.zAt (w.start + s.zGuard)
    if w.kind ≠ 1 ∨ w.owner ≠ s.zNode ∨ s.zState ≠ zRUN ∨ w.sent ∨ s.zNow < t ∨ s.zPerm w ≤ s.zNow ∨ !s.zMayTx then s
    else
      let s := s.setZ { s.ztt with win := some { w with sent := true } }
      let one (c : Nat) : Option (Nat × Option (List Byte)) :=
        if w.en.getD c false then (w.latch.getD c none).map (fun d => (c, d)) else none
      let frs := (List.range 2).filterMap one
      let skipped := ((List.range 2).filter (fun c => w.en.getD c false && (w.latch.getD c none).isNone)).length
      let s := s.addf (F.ZTT_CNT_G_COUNT 2) skipped
      let s := s.addf (F.ZTT_CNT_G_COUNT 1) (frs.filter (fun f => f.2.isNone)).length
      let fr := frs.map (fun f => (f.1, s.zFrame false f.2.isNone false w.w (f.2.getD [])))
      let s := frs.foldl (fun s f => s.sf (F.ZTT_MB_STAT_CYCLE (w.buf.getD f.1 0)) (s.gf F.ZTT_CYCLE_CYCLE)) s
      s.zSend fr t (s.zPerm w) none

/-- REFERENCE_SEND (R290): the current master, or a node in COLDSTART after its first reference, at the action point of
window 0. -/
def zRefSend (s : State) : State :=
  let t := s.zAt s.zGuard
  let due := s.ztt.s.isSome && decide (t ≤ s.zNow) && decide (s.zNow < s.zAt (s.ztt.l0 - s.zGuard)) &&
    s.gf F.ZTT_CYCLE_WINDOW == 0 && !s.ztt.refSent && s.ztt.tx.isNone && s.zMayTx
  let who := (s.zState == zRUN && s.zMaster && (!s.zQuiet || s.ztt.asBackup)) || (s.zState == zCOLDSTART && s.ztt.back.isNone)
  if due && who then s.zSendRef false t else s

/-- BACKUP_REFERENCE (R292): nothing fell on the bus since S: a late reference, and the master role. -/
def zBackup (s : State) : State :=
  let k := s.zPrio
  let t := s.zAt (s.zGuard + 8 * k + 32)
  let silent : Bool := match s.ztt.edge with
    | none => true
    | some e => decide ((e : Int) * 65536 < s.ztt.s.getD 0)
  if s.zState = zRUN ∧ s.bf F.ZTT_CFG_MASTER_EN ∧ !s.zMaster ∧ s.ztt.s.isSome ∧ t ≤ s.zNow ∧ silent ∧
      s.gf F.ZTT_CYCLE_WINDOW = 0 ∧ s.ztt.refGot.isNone ∧ !s.ztt.refSent ∧ s.zMayTx ∧
      2 * s.zGuard + 210 + 8 * k ≤ s.ztt.l0 ∧ s.zNow < s.zAt (s.ztt.l0 - s.zGuard - 178) + s.zBit then
    let s := s.zMasterBit
    let s := s.sf F.ZTT_STAT_MASTER 1
    let s := s.setZ { s.ztt with asBackup := true, lastPoll := List.replicate 8 63 }
    s.zSendRef true t
  else s

/-- COLDSTART (R296): LISTEN stayed silent for twice the basic cycle of START_MODE: the first reference, of basic cycle 0. -/
def State.zCold (s : State) : State :=
  let s := s.zMasterBit
  let s := s.sfs [(F.ZTT_STAT_MODE, s.gf F.ZTT_CTL_START_MODE), (F.ZTT_CYCLE_MCOUNT, 0), (F.ZTT_CYCLE_CYCLE, 0)]
  let tss := s.zNow + s.zBit
  let s := s.setZ { s.ztt with back := none, intact := 0, lastPoll := List.replicate 8 63 }
  let s := s.zBegin (tss - (s.zGuard * s.zBit : Nat))
  s.zSendRef false tss

def zColdstart (s : State) : State :=
  let bt := bits (s.reg (R.ZTT_MODE_LEN (s.gf F.ZTT_CTL_START_MODE))) 15 0
  if s.zState = zLISTEN ∧ s.bf F.ZTT_CFG_COLD_EN ∧ s.bf F.ZTT_CFG_MASTER_EN ∧ s.zUsable (s.gf F.ZTT_CTL_START_MODE) ∧
      s.zMayTx ∧ (s.ztt.listen : Int) * 65536 + (2 * bt * s.zBit : Nat) ≤ s.zNow then
    (s.zEnter zCOLDSTART).zCold
  else s

/-- READBACK_MISMATCH (R296): RXD differs from TXD on channel `c` of the frame in progress. -/
def zMismatch (c : Nat) (s : State) : State :=
  match s.ztt.tx with
  | none => s
  | some t =>
    if !t.chans.getD c false ∨ s.zNow < t.tss then s
    else if s.zState = zCOLDSTART then
      let s := s.zCut
      (s.zCount 4).setZ { s.ztt with intact := 0, s := none, back := some (s.zBackoff t.tss) }
    else if t.mism.isSome then s
    else
      let s := s.setZ { s.ztt with tx := some { t with mism := some c } }
      if s.zState = zRUN then (s.zCount 5).zInt F.ZTT_INT_STAT_RB_ERR else s

/-- BACKOFF_END (R296): the wait is over and nothing fell: send again. -/
def zBackoffEnd (s : State) : State :=
  match s.ztt.back with
  | none => s
  | some t => if s.zState = zCOLDSTART ∧ t ≤ s.zNow ∧ s.zMayTx then s.zCold else s

/-- RXD_FALLING_EDGE (R292, R296): an edge on channel `c`, not the node's own sending. -/
def zEdge (c : Nat) (s : State) : State :=
  if !s.vioA then s else
  let s := s.setZ { s.ztt with edge := some s.tick }
  if !s.zChan c then s
  else
    let s := s.setZ { s.ztt with listen := s.tick }
    if s.zState = zCOLDSTART ∧ s.ztt.back.isSome then s.zListen else s

/-! ### Polled windows (R286, R287) -/

/-- Is node `n` a candidate of group `g` with a response waiting? -/
def State.zCand (s : State) (g n : Nat) : Bool :=
  bit (if n < 32 then s.reg (R.ZTT_POLL_GRP_LO g) else s.reg (R.ZTT_POLL_GRP_HI g)) (n % 32) && s.ztt.rq.getD n false

/-- POLL_SEND (R286). -/
def zPollSend (s : State) : State :=
  match s.ztt.win with
  | none => s
  | some w =>
    let t := s.zAt (w.start + s.zGuard)
    if w.kind ≠ 2 ∨ s.zState ≠ zRUN ∨ !s.zMaster ∨ w.sent ∨ s.zNow < t ∨ s.zPerm w ≤ s.zNow ∨ !s.zMayTx then s
    else
      let g := w.owner % 8
      let last := s.ztt.lastPoll.getD g 63
      match firstIdx (fun i => s.zCand g ((last + 1 + i) % 64)) 64 with
      | none => s.setZ { s.ztt with win := some { w with sent := true } }
      | some i =>
        let n := (last + 1 + i) % 64
        let s := s.setZ { s.ztt with lastPoll := setAt s.ztt.lastPoll g n, win := some { w with sent := true } }
        s.zSend (zBoth w.en (s.zFrame false false true w.w [BitVec.ofNat 8 n])) t (s.zPerm w) none

/-- POLL_ANSWER (R287): the polled node answers on the poll's channels. -/
def zPollAnswer (s : State) : State :=
  match s.ztt.win with
  | none => s
  | some w =>
    let g := w.owner % 8
    let m := s.gf (F.ZTT_POLL_TX_BUF g)
    let t := s.zAt (w.start + 3 * s.zGuard + 108)
    match w.poll with
    | none => s
    | some (n, chans) =>
      if n ≠ s.zNode ∨ w.answered ∨ s.zState ≠ zRUN ∨ s.zNow < t ∨ s.zPerm w ≤ s.zNow ∨ !s.zMayTx ∨ s.zQuiet ∨
          !s.bf (F.ZTT_POLL_TX_EN g) ∨ !s.bf (F.ZTT_MB_CFG_DIR m) ∨ (s.zBuf m).page.isNone then s
      else
        let s := s.setZ { s.ztt with win := some { w with answered := true } }
        let c := s.zContent m
        let s := if c.isNone then s.zCount 1 else s
        let s := s.sf (F.ZTT_MB_STAT_CYCLE m) (s.gf F.ZTT_CYCLE_CYCLE)
        s.zSend (zBoth chans (s.zFrame false c.isNone false w.w (c.getD []))) t (s.zPerm w) (c.map (fun _ => m))

/-! ### Receiving (R282, R289, R291, R294, R295) -/

end Sys2Proof.Machine

namespace Sys2Proof

/-- Is a received frame valid (R282)? -/
def ZRx.valid (f : ZRx) : Bool :=
  let g (i : Nat) : Nat := (f.bytes.getD i 0).toNat
  let n := f.bytes.length
  f.lineOk && 9 ≤ n && n == 9 + g 3 && g 3 ≤ 64 && g 4 == Machine.crc8Of 0 (f.bytes.take 4) &&
  Machine.leNat (f.bytes.drop (n - 4)) == Machine.crc32cOf 0xFFFFFFFF (f.bytes.take (n - 4)) &&
  !(g 2).testBit 7 && (!(g 0).testBit 7 || g 3 == 0) &&
  (!(g 0).testBit 6 || (g 3 == 8 && g 7 < 8 && g 8 < 16 && g 9 < 16 && g 10 == 0 && g 11 == 0 && g 12 == 0))

def ZRx.byte (f : ZRx) (i : Nat) : Nat := (f.bytes.getD i 0).toNat
def ZRx.node (f : ZRx) : Nat := f.byte 0 % 64
def ZRx.isRef (f : ZRx) : Bool := (f.byte 0).testBit 6
def ZRx.cycle (f : ZRx) : Nat := f.byte 2 % 64
def ZRx.mcount (f : ZRx) : Nat := f.byte 5 + 256 * f.byte 6
def ZRx.mode (f : ZRx) : Nat := f.byte 7
def ZRx.nextMode (f : ZRx) : Nat := f.byte 8 % 8
def ZRx.sw (f : ZRx) : Bool := (f.byte 8).testBit 3
def ZRx.prio (f : ZRx) : Nat := f.byte 9 % 8
def ZRx.late (f : ZRx) : Bool := (f.byte 9).testBit 3

end Sys2Proof

namespace Sys2Proof.Machine

/-- What every received frame leaves: the edge it began with, the counters, the sender's RQ. -/
def State.zHeard (s : State) (f : ZRx) : State :=
  let at_ := s.tick - f.ago
  let s := s.setZ { s.ztt with edge := some (max at_ (s.ztt.edge.getD 0)), listen := max at_ s.ztt.listen }
  if !f.valid then s.incf (F.ZTT_CNT_COUNT f.chan 1)
  else
    let s := s.incf (F.ZTT_CNT_COUNT f.chan 0)
    s.setZ { s.ztt with rq := setAt s.ztt.rq f.node (bit (f.byte 2) 6) }

/-- The start of the basic cycle that a reference gives (R291). -/
def State.zRefS (s : State) (f : ZRx) : Int :=
  ((s.tick : Int) - f.ago) * 65536 - ((s.zGuard + (if f.late then 8 * f.prio + 32 else 0)) * s.zBit : Nat)

/-- Adopt a reference (R281, R291, R298, R299). -/
def State.zAdopt (s : State) (f : ZRx) : State :=
  let t := s.zRefS f
  let lin := f.mcount * s.ztt.ncyc + f.cycle
  let s := match s.ztt.der with
    | none => s
    | some (t0, m0, l0) =>
      let n := (lin + 65536 * s.ztt.ncyc - l0) % (65536 * max 1 s.ztt.ncyc)
      if m0 ≠ f.mode ∨ n = 0 ∨ s.ztt.cycBt = 0 ∨ t ≤ t0 then s
      else s.zFollowBit ((t - t0).toNat / (s.ztt.cycBt * n))
  let same := f.cycle == s.gf F.ZTT_CYCLE_CYCLE && f.mcount == s.gf F.ZTT_CYCLE_MCOUNT && f.mode == s.gf F.ZTT_STAT_MODE &&
    s.ztt.s.isSome && s.gf F.ZTT_CYCLE_WINDOW == 0
  let newMode := f.mode != s.gf F.ZTT_STAT_MODE
  let moved := s.zCycling && (f.cycle != s.gf F.ZTT_CYCLE_CYCLE || f.mcount != s.gf F.ZTT_CYCLE_MCOUNT || newMode)
  let s := s.sfs [(F.ZTT_CYCLE_CYCLE, f.cycle), (F.ZTT_CYCLE_MCOUNT, f.mcount), (F.ZTT_STAT_MODE, f.mode),
    (F.ZTT_STAT_SWITCH_PEND, b2n f.sw), (F.ZTT_STAT_ANN_MODE, f.nextMode)]
  let s := if moved then s.zCount 7 else s
  let s := if moved && newMode then s.zInt F.ZTT_INT_STAT_MODE_CHG else s
  let s := if same then s.setZ { s.ztt with s := some t } else s.zBegin t
  let s := s.setZ { s.ztt with der := some (t, f.mode, f.mcount * s.ztt.ncyc + f.cycle), missRun := 0,
                               refGot := some (f.chan, f.bytes.take (f.bytes.length - 4)) }
  s.zStamp f.ago

/-- Can the bus that a reference names be joined: a usable mode that has its basic cycle (R283, R299)? -/
def State.zJoinable (s : State) (f : ZRx) : Bool := s.zUsable f.mode && decide (f.cycle < (s.zMode f.mode s.zNow).1)

/-- Adoption and the move to INTEGRATE or RUN (R295). -/
def State.zFollow (s : State) (f : ZRx) : State :=
  let s := s.sf F.ZTT_STAT_MASTER 0
  let s := s.setZ { s.ztt with asBackup := false, req := none, reqSent := false }
  if s.zState = zRUN then s.zAdopt f
  else if s.zState = zINTEGRATE then
    let nc := (s.zMode f.mode s.zNow).1
    let follows := match s.ztt.first with
      | none => false
      | some (c, m) => if c + 1 < nc then f.cycle == c + 1 && f.mcount == m else f.cycle == 0 && f.mcount == (m + 1) % 65536
    let s := s.zAdopt f
    if follows then (s.setZ { s.ztt with first := none, rbRun := 0 }).zEnter zRUN
    else s.setZ { s.ztt with first := some (f.cycle, f.mcount) }
  else
    let s := (s.zHalt.zEnter zINTEGRATE).zAdopt f
    s.setZ { s.ztt with first := some (f.cycle, f.mcount) }

/-- A valid reference (R291, R294, R295). -/
def State.zReference (s : State) (f : ZRx) : State :=
  let s := s.incf (F.ZTT_CNT_COUNT f.chan 4)
  let body := f.bytes.take (f.bytes.length - 4)
  if s.zState = zOFF ∨ s.zState = zPASSIVE then s
  else
    let s := zCycleStart s
    match s.ztt.refGot with
    | some (c, b) =>
      if c = f.chan then s
      else if b = body then s
      else
        let s := s.zCount 8
        if f.chan = 0 ∧ s.zJoinable f then s.zAdopt f else s
    | none =>
      if !s.zJoinable f then s
      else
        let lead := (s.zState == zRUN && s.zMaster) || (s.zState == zCOLDSTART && s.ztt.back.isNone)
        if lead && !(s.zState == zRUN && s.zQuiet) && decide (s.zPrio ≤ f.prio) then s.zCount 8
        else s.zFollow f

/-- REFERENCE_RECEIVED (R291): a frame that is a valid reference of another node. -/
def zRefReceived (f : ZRx) (s : State) : State :=
  if !s.zChan f.chan ∨ !s.vioA ∨ !f.valid ∨ !f.isRef ∨ f.node = s.zNode ∨ s.zState = zOFF then s
  else (s.zHeard f).zReference f

/-- Does a frame that ends now count as EDGE in the current window (R289)? -/
def State.zIsEdge (s : State) (w : ZWin) (f : ZRx) : Bool :=
  let t : Int := ((s.tick : Int) - f.ago) * 65536
  let a := s.zAt w.start
  let e := s.zAt (w.start + w.len)
  let g : Int := (s.zGuard * s.zBit : Nat)
  (decide (a ≤ t) && decide (t < a + g)) || (decide (e - g ≤ t) && decide (t < e)) || (decide (t < e) && decide (e ≤ s.zNow))

/-- A valid frame, no reference, in the current window. -/
def State.zDeliver (s : State) (w : ZWin) (f : ZRx) : State :=
  let c := f.chan.val
  let poll := bit (f.byte 1) 7
  if s.zIsEdge w f then (s.incf (F.ZTT_CNT_COUNT c 2)).zInt F.ZTT_INT_STAT_EDGE
  else if f.byte 1 % 128 ≠ w.w ∨ f.cycle ≠ s.gf F.ZTT_CYCLE_CYCLE ∨ w.kind = 0 ∨ (w.kind = 1 ∧ (f.node ≠ w.owner ∨ poll)) ∨
      !w.en.getD c false then s.incf (F.ZTT_CNT_COUNT c 3)
  else if poll then if f.byte 3 ≠ 1 then s else
    let old := match w.poll with | none => [false, false] | some p => p.2
    s.setZ { s.ztt with win := some { w with poll := some (f.byte 5 % 64, setAt old c true) } }
  else
    let w := { w with got := setAt w.got c true }
    let s := s.setZ { s.ztt with win := some w }
    let s := if w.kind = 1 ∧ (s.zState = zINTEGRATE ∨ s.zState = zRUN) then s.setPresent w.owner true else s
    if s.fenced zSrc then s
    else s.zStore (w.buf.getD c 512) c f.node f.cycle (bit (f.byte 0) 7) ((f.bytes.drop 5).take (f.byte 3))

/-- FRAME_RECEIVED (R282): a frame ends and is judged and stored; a valid reference is REFERENCE_RECEIVED's. -/
def zFrameReceived (f : ZRx) (s : State) : State :=
  if !s.zChan f.chan ∨ !s.vioA ∨ s.zState = zOFF ∨ (f.valid ∧ (f.isRef ∨ f.node = s.zNode)) then s
  else
    let s := s.zHeard f
    if !f.valid ∨ s.zState = zPASSIVE then s
    else match s.ztt.win with
      | none => s.incf (F.ZTT_CNT_COUNT f.chan 3)
      | some w => if w.judged then s.incf (F.ZTT_CNT_COUNT f.chan 3) else s.zDeliver w f

/-! ### Control (R296 to R299, R309, R310) -/

/-- SWITCH (R298): only the current master may ask. -/
def zSwitch (s : State) : State :=
  if s.zState = zRUN ∧ s.zMaster then
    s.setZ { s.ztt with req := some (s.gf F.ZTT_CTL_NEXT_MODE), reqSent := false }
  else s.zRej

/-- EN written (R299): LISTEN, or OFF. -/
def zEnable (on : Bool) (s : State) : State :=
  let s := s.sf F.ZTT_CTL_EN (b2n on)
  if !on then s.zHalt.zEnter zOFF
  else if s.zState ≠ zOFF then s
  else
    let s := if s.zUsable (s.gf F.ZTT_CTL_START_MODE) then s else s.zRej
    s.zListen

/-- ZTT_BLOCK_RESET (R310): OFF and every buffer cleared; configuration, modes, entries and poll registers stay. -/
def zttReset (s : State) : State :=
  let s := (s.endFence zSrc).beginReset zSrc
  let s := (s.sf F.ZTT_CTL_EN 0).zHalt.zEnter zOFF
  let s := s.setZ { s.ztt with buf := [], badBuf := [], win := none, rq := List.replicate 64 false, refW := 0,
                               lastPoll := List.replicate 8 63 }
  let s := s.sfs [(F.ZTT_STAT_MODE, 0), (F.ZTT_STAT_ANN_MODE, 0)]
  let s := s.resetRegs R.ZTT_CYCLE (R.ZTT_CYCLE + 4)
  let s := s.resetRegs (R.ZTT_REF_W 0) (R.ZTT_REF_W 7 + 4)
  let s := s.resetRegs (R.ZTT_PRESENT 0) (R.ZTT_PRESENT 1 + 4)
  let s := s.resetRegs (R.ZTT_CNT 0 0) (R.ZTT_CNT_G 10 + 4)
  let s := s.resetRegs (R.ZTT_NODE_MISS 0) (R.ZTT_NODE_MISS 63 + 4)
  let s := s.resetRegs (R.ZTT_MB_DATA 0 0) (R.ZTT_MB_DATA 511 15 + 4)
  let s : State := { s with regs := s.regs.filter (fun p =>
    !(R.ZTT_MB_CFG 0 ≤ p.1 && p.1 < R.ZTT_MB_CFG 0 + 0x2000 && p.1 % 16 != 0)) }
  s.endReset zSrc

/-- A write of ZTT_CTL. -/
def zttCtl (v : Nat) (s : State) : State :=
  let en := s.bf F.ZTT_CTL_EN
  let s := s.plainWrite R.ZTT_CTL v (s.bf F.ZTT_CTL_LOCK)
  let s := if bit v 4 then zSwitch s else s
  let s := if bit v 0 != en then zEnable (bit v 0) s else s
  if bit v 1 then zttReset s else s

/-- A write of ZTT_CFG: discarded while EN is 1, and with a reserved RATE (R280). -/
def zttCfg (v : Nat) (s : State) : State :=
  if s.bf F.ZTT_CTL_EN ∨ 4 < bits v 17 15 then s.zRej
  else
    let s := s.plainWrite R.ZTT_CFG v (s.bf F.ZTT_CTL_LOCK)
    if s.bf F.ZTT_CTL_LOCK then s else s.sf F.ZTT_BIT_B (zNominal (s.gf F.ZTT_CFG_RATE))

/-- A write of ZTT_TRIM (R281). -/
def zttTrim (v : Nat) (s : State) : State :=
  let s := s.plainWrite R.ZTT_TRIM v false
  if s.zMaster ∨ s.zState = zCOLDSTART then s.zMasterBit else s

/-- A read of ZTT_REF_W[w]: word 0 captures words 1 to 7. -/
def zRefWRead (w : Nat) (s : State) : State :=
  if w ≠ 0 then s
  else (List.range 8).foldl (fun s k => s.setReg (R.ZTT_REF_W k) (s.ztt.refW.toNat / 2 ^ (32 * k))) s

/-- The FCU lifts the fence: back to LISTEN (R309). -/
def zttUnfence (s : State) : State := if s.zState = zOFF ∨ s.zState = zPASSIVE then s else s.zListen

/-- Entry to the safe state: TXEN goes low at once (R309). -/
def zttSafe (s : State) : State := s.zCut

/-- DEGRADE (R360): the channel leaves ZTT_CFG.CHAN. -/
def zttDegrade (c : Nat) (s : State) : State :=
  s.sf F.ZTT_CFG_CHAN (setBits (s.gf F.ZTT_CFG_CHAN) (c % 2) (c % 2) 0)

/-- A command of the bus: the frame in progress is carried on first; at SH4 and in PS4 nothing else happens (R308, R391). -/
def zRun (f : State → State) (s : State) : State :=
  let s := s.zTxStep
  if s.gf F.PWR_STAT_SH = 4 ∨ s.gf F.PWR_STAT_PS = 4 then s else f s

end Sys2Proof.Machine
end

