-- ==== Sys2Proof/Machine/Reaction.lean ====
section
/-! DEFINITION. Fault reactions that reach other blocks (spec/15, R357 to R367): fences, degrade actions, block resets, the safe
state, and the parity check of the FCU. -/
namespace Sys2Proof.Machine

/-- A register write in the safe state is discarded (R366). -/
def wr (f : State → State) (s : State) : State := if s.safe then s else f s

/-! ### Fences (R359) -/

/-- A source becomes fenced: its bit, and for a port what R202 does at once. -/
def State.setFence (s : State) (src : Nat) : State :=
  if !fenceable src || s.fenced src then s
  else
    let s := s.setReg (R.FCU_FENCE (src / 32)) (s.reg (R.FCU_FENCE (src / 32)) ||| 2 ^ (src % 32))
    if 0x10 ≤ src ∧ src ≤ 0x17 then s.ethFence (src - 0x10) else s

/-- What a source does when its fence is lifted. -/
def State.unfenced (s : State) (src : Nat) : State :=
  if src = 0x1C then zttUnfence s
  else if src = 0x1D ∨ src = 0x1E then s.flushPosted.flushHeld
  else if src = 0x20 then s.sealReady
  else if src = 0x21 then saxSync s
  else s

/-- Does the source hold evidence of a kind whose reaction is to fence it? -/
def State.fenceEvidence (s : State) (src : Nat) : Bool :=
  (List.range 16).any (fun k => bit (s.reg (R.FCU_SRC_STAT src)) k && bit (s.rctByte src k) 3)

/-- FENCE_LIFT (R359): a write of FCU_FENCE[w]; each bit is judged alone. -/
def fenceLift (w v : Nat) (s : State) : State :=
  (List.range 32).foldl (fun s j =>
    let src := 32 * w + j
    if !bit v j then s
    else if s.fenceEvidence src then s.sf F.FCU_STAT_CFG_REJ 1
    else if s.fenced src then (s.endFence src).unfenced src
    else s) s

/-- FENCE_SET (R359): a write of FCU_FENCE_SET[w]. -/
def fenceSet (w v : Nat) (s : State) : State :=
  (List.range 32).foldl (fun s j => if bit v j then s.setFence (32 * w + j) else s) s

/-! ### Degrade actions and block resets (R360, R361) -/

/-- The degrade action of a source for a fault detail (R360). -/
def State.degrade (s : State) (src kind detail : Nat) : State :=
  if 0x30 ≤ src ∧ src ≤ 0x37 then
    let f := F.BRN_ENG_DIS_DIS (src - 0x30)
    let mem := kind == kCE || kind == kUE
    let area := bits detail 29 28
    if kind = kTRAP ∨ (mem ∧ area = 1) then s.sf f (s.gf f ||| 2 ^ bits detail 27 24)
    else if mem ∧ area = 0 then s.sf f 0xFFFF
    else s
  else if src = 0x10 ∨ src = 0x11 then s.ethDegrade (src - 0x10)
  else if src = 0x1B then s.voxDegrade (detail % 2)
  else if src = 0x1C then zttDegrade (detail % 2) s
  else s

/-- The block reset of a source (R361). -/
def State.blockReset (s : State) (src : Nat) : State :=
  if 0x30 ≤ src ∧ src ≤ 0x37 then barnReset (src - 0x30) s
  else if 0x10 ≤ src ∧ src ≤ 0x17 then portReset (src - 0x10) s
  else match src with
    | 0x18 => yrdReset s
    | 0x19 => schReset s
    | 0x1A => redReset s
    | 0x1B => voxReset s
    | 0x1C => zttReset s
    | 0x1D => qmReset s
    | 0x1E => qmReset s
    | 0x20 => lftReset s
    | 0x21 => saxReset s
    | 5 => tbuReset s
    | 3 => evrReset s
    | _ => s

/-! ### Safe state (R366, R367) -/

/-- Every TOUT pin goes to IDLE and trains stop. -/
def State.toutIdle (s : State) : State :=
  (List.range 8).foldl (fun s j => (s.setTout j (s.bf (F.TBU_TOUT_CTL_IDLE j))).setTbu
    { (s.setTout j (s.bf (F.TBU_TOUT_CTL_IDLE j))).tbu with train := setAt s.tbu.train j none }) s

/-- Entry to the safe state: cause 1 parity, 2 a SAFE reaction, 3 software. -/
def State.enterSafe (s : State) (cause : Nat) : State :=
  if s.safe then s
  else
    let s := s.sfs [(F.FCU_STAT_SAFE, 1), (F.FCU_STAT_SAFE_CAUSE, cause)]
    let s := (List.range 64).foldl State.setFence s
    let s := (List.range 8).foldl State.linkEval s
    let s := ((s.voxFall 0).voxFall 1)
    let s := (zttSafe s).toutIdle
    let s := if s.gctl.frozen then s else s.sf F.SEC_STAT_LEVEL 0
    s.logRec 0 0x0001 cause (s.reg R.FCU_FIRST)

/-- The registers that carry a parity bit (R367): FCU_CFG, FCU_Q, FCU_ERR_CTL, FCU_RCT, FCU_CASCADE_MASK. -/
def parityReg (off : Nat) : Bool :=
  off == R.FCU_CFG || off == R.FCU_Q || off == R.FCU_ERR_CTL ||
  (off % 4 == 0 && ((R.FCU_RCT 0 0 ≤ off && off ≤ R.FCU_RCT 63 3) ||
    (R.FCU_CASCADE_MASK 0 0 ≤ off && off ≤ R.FCU_CASCADE_MASK 63 1)))

/-- PARITY_FAILURE (R367): the safe state at once; the failure is counted and captured as source 0x00, kind PARITY. -/
def parityFailure (off : Nat) (s : State) : State :=
  if !parityReg off then s
  else
    let s := s.sf F.FCU_STAT_PARITY_ERR 1
    let s := s.setReg (R.FCU_SRC_STAT 0) (s.reg (R.FCU_SRC_STAT 0) ||| 2 ^ kPARITY)
    let s := s.incf (F.FCU_SRC_CNT_COUNT 0)
    let byte := s.rctByte 0 kPARITY
    let first := !s.bf F.FCU_FIRST_VALID
    let s := if first then s.captureFirst 0 kPARITY off false else s
    let r : React := ⟨0, kPARITY, off, true, false, byte, first, s.reg (R.FCU_SRC_CNT 0), s.tick + 2⟩
    ({ s with fcu := { s.fcu with react := s.fcu.react ++ [r] } } : State).enterSafe 1

/-! ### FAULT_REACTION (R357, R358, R368) -/

/-- The record of a fault (R371). -/
def State.faultRecord (s : State) (r : React) : State :=
  s.logRec r.src (evCode r.src 0) (r.src + r.kind * 2 ^ 8 + b2n r.inj * 2 ^ 12 + b2n r.real * 2 ^ 13 + b2n r.first * 2 ^ 14 +
    r.byte * 2 ^ 16 + r.cnt * 2 ^ 32) r.detail

/-- The interrupt and the event of an INT reaction (R368). -/
def State.faultInt (s : State) (r : React) : State :=
  let s := s.sf F.FCU_STAT_INT_REQ 1
  if s.bf F.FCU_CFG_QEN then (s.postEvent (s.gf F.FCU_Q_QUEUE) (r.src + r.kind * 2 ^ 8 + b2n r.inj * 2 ^ 12) 0).1 else s

/-- Reactions other than FENCE, RESET and SAFE. -/
def State.reactOwn (s : State) (r : React) : State :=
  let s := if bit r.byte 0 then s.faultRecord r else s
  let s := if bit r.byte 1 then s.faultInt r else s
  let s := if bit r.byte 2 then s.errPulse else s
  if bit r.byte 4 then s.degrade r.src r.kind r.detail else s

/-- Does `a` stand before `b`: source, then kind? -/
def React.before (a b : React) : Bool := a.src < b.src || (a.src == b.src && a.kind < b.kind)

/-- Put a reaction in order. -/
def insReact (r : React) : List React → List React
  | [] => [r]
  | x :: xs => if r.before x then r :: x :: xs else x :: insReact r xs

/-- A FENCE or RESET of a source acts once: faults still waiting do not select it again (R358). -/
def State.spend (s : State) (src bitNo : Nat) : State :=
  { s with fcu := { s.fcu with react := s.fcu.react.map (fun r => if r.src == src then { r with byte := setBits r.byte bitNo bitNo 0 } else r) } }

/-- FENCE and RESET of a source named by a reaction. -/
def State.reactBlock (s : State) (r : React) : State :=
  let s := if bit r.byte 3 then (s.setFence r.src).spend r.src 3 else s
  if bit r.byte 5 then (s.blockReset r.src).spend r.src 5 else s

/-- FAULT_REACTION (R358): the reactions of the faults taken eight YCLK cycles ago start, as the union of their bytes. -/
def faultReaction (s : State) : State :=
  match s.fcu.react.filter (fun r => r.due ≤ s.tick) with
  | [] => s
  | r :: rs =>
    let d := rs.foldl (fun m x => min m x.due) r.due
    let now := (s.fcu.react.filter (fun x => x.due == d)).foldl (fun l x => insReact x l) []
    let s : State := { s with fcu := { s.fcu with react := s.fcu.react.filter (fun x => x.due != d) } }
    let s := now.foldl State.reactOwn s
    let uni := now.foldl (fun (l : List React) x =>
      if l.any (fun y => y.src == x.src) then l.map (fun y => if y.src == x.src then { y with byte := y.byte ||| x.byte } else y) else l ++ [x]) []
    let s := uni.foldl State.reactBlock s
    if now.any (fun x => bit x.byte 6) then s.enterSafe 2 else s

/-- A write of FCU_CTL. -/
def fcuCtl (v : Nat) (s : State) : State :=
  let s := if bit v 31 then s.sf F.FCU_CTL_LOCK 1 else s
  if bit v 0 then s.enterSafe 3 else s

end Sys2Proof.Machine
end

