-- ==== Sys2Proof/Machine/Pwr.lean ====
section
/-! DEFINITION. Supply, power states and shedding (spec/16), and the ends of the host link (R313, R422). -/
namespace Sys2Proof.Machine

/-! ### The host link (R313, R422) -/

/-- A load or atomic in flight fails: its slot is free and a LOAD_ERROR is pending (R40). -/
def State.failLoad (s : State) (t : Nat) (x : Txn) : State :=
  let th := s.thr t
  s.setThr t { th with txns := th.txns.filter (fun y => y.id != x.id), errs := th.errs ++ [⟨x.id, x.dst, x.ea, x.space, x.kind == .amo⟩] }

/-- Every host-window access in flight ends (R313). -/
def State.hostAccessEnd (s : State) : State :=
  let s := s.brn.thr.keys.foldl (fun s t => (s.thr t).txns.foldl (fun s x =>
    if x.space != .host then s
    else if x.kind == .store then s.setThr t { s.thr t with txns := (s.thr t).txns.filter (fun y => y.id != x.id) }
    else s.failLoad t x) s) s
  s.setBrn { s.brn with orphans := s.brn.orphans.filter (fun o => o.2.space != .host) }

/-- FUNCTION_RESET (R313): 0 function level reset, 1 hot reset, 2 fall of the link. -/
def State.functionEnd (s : State) (k : Nat) : State :=
  let s := s.pairsNone.hostAccessEnd
  let s := (s.sf F.QM_PCIE_STAT_FLR_EV 1).logRec 0x1E 0x10E1 k 0
  let s := if k = 2 then s.sf F.QM_PCIE_STAT_LINK_UP 0 else s
  if k = 2 then s
  else
    let s := s.sfs [(F.QM_PCIE_STAT_BME, 0), (F.QM_PCIE_STAT_MSIX_EN, 0)]
    { s with qm := { s.qm with vecMask := 2 ^ 64 - 1, funcMask := false }, irq := { s.irq with pend := 0 } }

/-- PERST (R422): a low level holds the link in reset, with the effects of a hot reset. -/
def perstPin (low : Bool) (s : State) : State :=
  if low == s.gctl.perst then s
  else
    let s : State := { s with gctl := { s.gctl with perst := low } }
    if low then (s.functionEnd 1).sf F.QM_PCIE_STAT_LINK_UP 0 else s

/-! ### Power states (R384 to R387) -/

/-- Is no thread in one of the states? -/
def State.noThread (s : State) (p : Nat → Thread → Bool) : Bool := !s.brn.thr.any (fun x => p x.1 x.2)

/-- Conditions of PS1. -/
def State.ps1Ok (s : State) : Bool := s.noThread (fun _ th => th.st == 1 || th.st == 4)

/-- Is DRAM work pending (R384)? -/
def State.dramWork (s : State) : Bool :=
  s.qm.pair.any (fun p => !p.2.d2h.isEmpty) || !s.qm.held.isEmpty ||
  !s.lft.writes.isEmpty || !s.lft.closed.isEmpty || s.lft.work != 0 || s.swpState 0 != 0 || s.swpState 1 != 0 ||
  s.sax.clearing || s.sax.resync || !s.sax.inWait.isEmpty ||
  (s.bf F.EVR_SPILL_CTL_EN && s.evr.spillNext < s.evr.head)

/-- Conditions of PS3. -/
def State.ps3Ok (s : State) : Bool :=
  (List.range 8).all (fun p => !s.bf (F.ETH_CTL_EN p)) && s.gf F.VOX_CTL_EN == 0 &&
  s.noThread (fun _ th => th.st == 2 && !th.txns.any (fun x => x.waiting && x.op == 0x12)) &&
  s.swpState 0 == 0 && s.swpState 1 == 0 && s.lft.views.all (·.isNone)

/-- Is state `k` eligible (R384)? -/
def State.psEligible (s : State) (k : Nat) : Bool :=
  k == 0 || (s.ps1Ok && (k ≤ 1 || (!s.dramWork && (k ≤ 2 || (s.ps3Ok && (k ≤ 3 || !s.bf F.ZTT_CTL_EN))))))

/-- Ticks until domain `n` reaches value `v` at its current rate; `none` when it does not. -/
def State.ticksTo (s : State) (n v : Nat) : Option Nat :=
  let r := s.rateOf n
  if !s.domOk n || r = 0 then none else some (ceilDiv (v - (s.dom n).val) r)

/-- The earlier of two times. -/
def minOpt (a b : Option Nat) : Option Nat :=
  match a, b with
  | none, x => x
  | x, none => x
  | some x, some y => some (min x y)

/-- Ticks to the next timed wake event for state `k` (R385). -/
def State.nextTimed (s : State) (k : Nat) : Option Nat :=
  let acts := s.tbu.acts.foldl (fun m a => if a.kind = 8 ∨ a.kind = 9 then minOpt m (if a.nextTick then some (a.since + 1 - s.tick) else s.ticksTo a.dom a.time) else m) none
  let waits := s.brn.thr.foldl (fun m p => p.2.txns.foldl (fun m x =>
    if x.waiting && x.op == 0x12 then
      match timeOperand (x.args.getD 1 0) (x.args.getD 2 0) (x.args.getD 3 0) with
      | none => m
      | some v => minOpt m (s.ticksTo (x.args.getD 1 0) v)
    else m) m) acts
  let pads := (List.range 32).foldl (fun m p =>
    if s.noThread (fun t th => th.st == 3 && s.padOf t == p) then m
    else match (s.pad p).next, (s.pad p).fbNext with
      | some v, _ => minOpt m (let n := s.gf (F.BRN_PAD_MODE_DOMAIN p); s.ticksTo n (v * wholeUnit n))
      | none, some v => minOpt m (s.ticksTo 0 (v * 2 ^ 32))
      | none, none => m) waits
  if k < 2 then pads
  else
    let loft := match s.lft.next with | some v => minOpt pads (s.ticksTo 0 (v * 2 ^ 32)) | none => pads
    s.sax.sess.foldl (fun m p => if p.2.opn then minOpt (minOpt m (p.2.ka.map (· - s.tick))) (p.2.idle.map (· - s.tick)) else m) loft

/-- Microseconds of a state's wake time. -/
def wakeUs (k : Nat) : Nat := [0, 1, 50, 2000, 20000].getD k 0

/-- May the device enter state `k` (R385)? -/
def State.psAllowed (s : State) (k : Nat) : Bool :=
  k == 0 || (s.psEligible k && k ≤ s.gf F.PWR_CTL_PS_MAX &&
    (List.range 8).all (fun i => !s.bf (F.PWR_LTR_EN i) || wakeUs k ≤ s.gf (F.PWR_LTR_TOL i)) &&
    (match s.nextTimed k with | none => true | some t => decide (wakeTicks k + 2500 ≤ t)))

/-- The deepest state allowed. -/
def State.psSelect (s : State) : Nat :=
  if s.psAllowed 4 then 4 else if s.psAllowed 3 then 3 else if s.psAllowed 2 then 2 else if s.psAllowed 1 then 1 else 0

/-- Does shedding hold DRAM in self-refresh (R390)? -/
def State.shedDram (s : State) : Bool :=
  3 ≤ s.gf F.PWR_STAT_SH || (s.gf F.PWR_STAT_SH == 2 && (s.bf F.LFT_STAT_SHED_SEALED || !s.lftEn))

/-- PSTATE_EVALUATE (R385): not during a wake. -/
def pstateEvaluate (s : State) : State :=
  if s.pwr.wakeDue.isSome then s
  else
    let k := s.psSelect
    let old := s.gf F.PWR_STAT_PS
    let s := (s.sf F.PWR_STAT_PS_TARGET k).enterPs k
    let s := if 2 ≤ k then s.sf F.DMC_STAT_SREF 1 else s
    let s := if 3 ≤ k then saxPowerOff s else s
    if k < old then { s with pwr := { s.pwr with wakeDue := some (s.tick + wakeTicks old) } } else s

/-- TIMED_WAKE (R385): the wake starts W ahead of the next timed wake event. -/
def timedWake (s : State) : State :=
  let k := s.gf F.PWR_STAT_PS
  match s.nextTimed k with
  | none => s
  | some t => if k = 0 ∨ wakeTicks k < t then s else s.wake 1

/-- UNTIMED_WAKE (R386). -/
def untimedWake (c : WakeCause) (s : State) : State :=
  s.wake (match c with | .thread => 2 | .host => 3 | .queue => 4 | .fault => 5)

/-! ### Shed levels (R388 to R390) -/

/-- SH2 steps 5: DRAM enters self-refresh once the loft's seal is durable, or at once where LFT is not enabled. -/
def State.shedSeal (s : State) : State :=
  if 2 ≤ s.gf F.PWR_STAT_SH ∧ s.shedSealReady then s.lftShedSealed.sf F.DMC_STAT_SREF 1 else s

/-- SHED_SEALED (R170). -/
def shedSealed (s : State) : State := s.shedSeal

/-- Actions on entry to SH2. -/
def State.sh2In (s : State) : State :=
  let s := (s.lftShedEnter).shedSeal
  stepdown .shed s

/-- Actions on entry to SH3. -/
def State.sh3In (s : State) : State :=
  (saxPowerOff (((s.sf F.DMC_STAT_SREF 1).functionEnd 2).voxFall 0)).voxFall 1

/-- Actions on entry to SH4 (R391): SUPPLY_LOST ahead of every waiting record, the final word, and RED stops. -/
def State.sh4In (s : State) (vin : Nat) : State :=
  let s := s.acceptRec (s.mkRec 0x0022 0x8002 vin 0)
  let s := if s.hbRuns then s.sendHb true else s
  s.setRed { s.red with stopped := true }

/-- The last VIN sample (PWR_VIN). -/
def State.vinSample (s : State) (vin : Nat) : State := s.sfs [(F.PWR_VIN_VIN, vin), (F.PWR_VIN_MIN, min vin (s.gf F.PWR_VIN_MIN))]

/-- The level becomes `k`: status, record, and the ports re-judged. -/
def State.setShed (s : State) (k vin : Nat) : State :=
  let old := s.gf F.PWR_STAT_SH
  let s := (s.sfs [(F.PWR_STAT_SH, k), (F.PWR_STAT_SH_CHG, 1)]).logRec 2 0x0021 (k + old * 8) vin
  (List.range 8).foldl State.linkEval s

/-- Entries into SH`k` in PWR_CNT_SH. -/
def shCnt (k : Nat) : Fld := ⟨R.PWR_CNT_SH, 8 * k - 1, 8 * k - 8⟩

/-- SHED_ENTER (R389, R390): VIN has stayed below the next level's falling threshold. In PS3 and PS4 the entry to SH1 or SH2
changes nothing but CCLK. -/
def shedEnter (vin : Nat) (s : State) : State :=
  let k := s.gf F.PWR_STAT_SH + 1
  let s := s.vinSample vin
  if 4 < k ∨ s.gf (F.PWR_SH_THR_FALL (k - 1)) ≤ vin then s
  else
    let s := ((s.incf (shCnt k)).setShed k vin).raise 2 kSUPPLY (k + vin * 2 ^ 32)
    if k = 2 then (if 3 ≤ s.gf F.PWR_STAT_PS then s else s.sh2In)
    else if k = 3 then s.sh3In
    else if k = 4 then s.sh4In vin
    else s

/-- SUPPLY_LOST (R391): entry to SH4. -/
def supplyLost (vin : Nat) (s : State) : State := if s.gf F.PWR_STAT_SH = 3 then shedEnter vin s else s

/-- Blocks that the power state and the shed level let run again. -/
def State.powerBack (s : State) : State :=
  if 3 ≤ s.gf F.PWR_STAT_SH ∨ 3 ≤ s.gf F.PWR_STAT_PS then s else saxPowerOn s

/-- DRAM leaves self-refresh when neither the power state nor the shed level keeps it there. -/
def State.dramBack (s : State) : State :=
  if 2 ≤ s.gf F.PWR_STAT_PS ∨ s.shedDram ∨ !s.bf F.DMC_STAT_SREF then s else (s.sf F.DMC_STAT_SREF 0).sealReady.flushHeld

/-- SHED_EXIT (R388 to R390): VIN has stayed above the rising threshold of the level in force. SH4 is terminal. -/
def shedExit (vin : Nat) (s : State) : State :=
  let k := s.gf F.PWR_STAT_SH
  let s := s.vinSample vin
  if k = 0 ∨ 4 ≤ k ∨ vin ≤ s.gf (F.PWR_SH_THR_FALL (k - 1)) + 60 then s
  else
    let s := s.setShed (k - 1) vin
    if k = 3 then s.powerBack
    else if k = 2 then s.dramBack.lftShedExit
    else s

/-- WAKE_DONE (R386): the wake completes; a shed level entered meanwhile takes its actions. -/
def wakeDone (s : State) : State :=
  match s.pwr.wakeDue with
  | none => s
  | some t =>
    if s.tick < t then s
    else
      let s : State := { s with pwr := { s.pwr with wakeDue := none } }
      let s := s.powerBack.dramBack
      if s.gf F.PWR_STAT_SH = 2 ∧ !s.lftShed then s.sh2In else s

/-- SH_THR_WRITE (R388): a FALL field may only be raised, and stays below the shallower level's. -/
def shThrWrite (k v : Nat) (s : State) : State :=
  let f := bits v 12 0
  if f < s.gf (F.PWR_SH_THR_FALL k) ∨ (k ≠ 0 ∧ s.gf (F.PWR_SH_THR_FALL (k - 1)) ≤ f) ∨ (k = 0 ∧ 5440 < f) then s.sf F.PWR_STAT_CFG_REJ 1
  else s.sfs [(F.PWR_SH_THR_FALL k, f), (F.PWR_SH_THR_RISE k, f + 60)]

/-- PS_MAX_WRITE: a write of PWR_CTL, an untimed wake event (R386). -/
def pwrCtl (v : Nat) (s : State) : State := (s.plainWrite R.PWR_CTL v (s.bf F.PWR_CTL_LOCK)).wake 6

/-! ### Rails and temperature (R382, R393) -/

/-- RAIL_CHANGE (R382): the rails as PWR sees them now. -/
def railChange (good : Nat) (a33 b25 : Bool) (s : State) : State :=
  let old := s.gf F.PWR_RAIL_STAT_GOOD
  let s := s.sfs [(F.PWR_RAIL_STAT_GOOD, good), (F.PWR_RAIL_STAT_VIO_A_33, b2n a33), (F.PWR_RAIL_STAT_VIO_B_25, b2n b25)]
  let s := [6, 7].foldl State.linkEval s
  let s := if s.vioA then s else zttSafe s
  if old &&& (0xF - good) = 0 then s else (s.sf F.PWR_STAT_RAIL_FAULT 1).raise 2 kSUPPLY 0

/-- The limit in 1/16 °C. -/
def State.tjLimit (s : State) : Int := sgn 8 (s.gf F.PWR_TJ_LIMIT_LIMIT) * 16

/-- THERMAL (R393): a measurement of Tj in 1/16 °C. -/
def thermal (tj : Nat) (s : State) : State :=
  let lim := s.tjLimit
  let was := s.pwr.hot
  let now := sgn 16 tj
  let s : State := { s.sf F.PWR_TEMP_TJ tj with pwr := { s.pwr with hot := decide (lim ≤ now) } }
  let s := if lim ≤ now ∧ !was then (s.sf F.PWR_STAT_THERMAL 1).raise 2 kTHERMAL (tj + s.gf F.PWR_TJ_LIMIT_LIMIT * 2 ^ 16) else s
  let shed := s.bf F.PWR_STAT_THERM_SHED
  let new := if lim ≤ now ∧ s.bf F.PWR_CTL_THERM_SH1 then true else shed && decide (lim - 80 < now)
  if new = shed then s else (List.range 8).foldl State.linkEval (s.sf F.PWR_STAT_THERM_SHED (b2n new))

end Sys2Proof.Machine
end

