-- ==== Sys2Proof/Machine/Gctl.lean ====
section
/-! DEFINITION. Cold and warm resets, their release, brown-out and freeze (spec/17, R394 to R399, R416 to R418; R391, R392). -/
namespace Sys2Proof.Machine

/-- A record of the recorder's retention reserve, GCTL_RST_CAUSE and the debug back-off are lost below 1.8 V (R396, R427). -/
def retentionMv : Nat := 1800

/-- The reset value of PWR_TJ_LIMIT by grade (R393). -/
def tjReset (grade : Nat) : Nat := if grade = 2 then 0x7D else 0x69

/-- The level at which debug access starts (R410). -/
def Fuses.startLevel (f : Fuses) : Nat := if f.debug then 0 else 2

/-- The registers of a cold reset that do not have one fixed value: rails, the limit and the debug level by fuse. -/
def State.coldRegs (s old : State) : State :=
  ((s.setReg R.PWR_RAIL_STAT (old.reg R.PWR_RAIL_STAT)).sf F.PWR_TJ_LIMIT_LIMIT (tjReset old.gctl.fuses.grade)).sf
    F.SEC_STAT_LEVEL old.gctl.fuses.startLevel

/-- GCTL in a cold reset with a cause: the fields of GCTL_RST_CAUSE and what the environment holds are kept (R394, R396). -/
def State.coldGctl (s : State) (cause : Nat) : GctlSt :=
  let g := s.gctl
  { GctlSt.init with
    inReset := true, rstLow := g.rstLow, frzLow := g.frzLow, brown := g.brown, relFrom := s.tick, fuses := g.fuses,
    dramMiB := g.dramMiB, dramOk := g.dramOk, perst := g.perst, cause := cause,
    froze := if g.inReset then g.froze else g.frozen, wasSafe := if g.inReset then g.wasSafe else s.safe }

/-- A cold reset begins (R394, R396): everything takes its reset value but the retention domain, the fuses, and what the model
keeps of the environment (host memory, pins, time, the commands waiting). -/
def coldReset (cause : Nat) (s : State) : State :=
  let r : State := { State.reset with
    host := s.host, tick := s.tick, free := s.free, outbox := s.outbox,
    evr := { EvrSt.init with ret := s.evr.ret, winStart := s.tick },
    pwr := { PwrSt.init with psSince := s.tick },
    gctl := s.coldGctl cause,
    sec := { SecSt.init with fails := s.sec.fails, waitEnd := s.sec.waitEnd, relWait := s.sec.relWait, bsr := s.sec.bsr, extest := s.sec.extest },
    pending := s.pending }
  r.coldRegs s

/-- Loss of the retention domain (R377, R394, R414): the wait of 60 s counts from the release of the internal reset. -/
def State.loseRetention (s : State) : State :=
  { s with evr := { s.evr with ret := [] }, sec := { s.sec with fails := 3, waitEnd := none, relWait := true },
           gctl := { s.gctl with cause := 1, warmCnt := 0, froze := false, wasSafe := false } }

/-- RST_N low (R397): the cold reset begins at once. -/
def rstLow (s : State) : State :=
  match s.gctl.rstLow with
  | some _ => s
  | none => coldReset 2 { s with gctl := { s.gctl with rstLow := some s.tick } }

/-- RST_N high after at least 1 µs (R397): the release counts from here. -/
def rstHigh (s : State) : State :=
  { s with gctl := { s.gctl with rstLow := none, relFrom := s.tick }, sec := { s.sec with extest := false } }

/-- Ticks of the 1 µs for which RST_N must be held. -/
def rstMin : Nat := 250

/-- RST_N (R397); `none` when it was released too early. -/
def rstPin (low : Bool) (s : State) : Option State :=
  if low then some (if s.vioA ∨ s.gctl.inReset then rstLow s else s)
  else match s.gctl.rstLow with
    | none => some s
    | some t => if s.tick < t + rstMin then none else some (rstHigh s)

/-- May the internal reset be released (R397): 100 µs after the last of its events? -/
def State.mayRelease (s : State) : Bool :=
  s.gctl.inReset && s.gctl.rstLow.isNone && !s.gctl.brown && !s.gctl.frzLow && decide (s.gctl.relFrom + 25000 ≤ s.tick)

/-- RESET_RELEASE (R397, R399): BOOT_SEL and TWIN_ROLE are sampled on the tick of the release. -/
def resetRelease (sel : Nat) (role : Bool) (s : State) : State :=
  if !s.mayRelease then s
  else
    let s : State := { s with gctl := { s.gctl with inReset := false } }
    let s := s.sfs [(F.GCTL_BOOT_STAT_BOOT_SEL, sel), (F.GCTL_BOOT_STAT_TWIN_ROLE, b2n role)]
    if s.sec.relWait then { s with sec := { s.sec with waitEnd := some (s.tick + 15000000000), relWait := false } } else s

/-- BROWN_OUT (R392, R427): VIN confirmed below 2,620 mV holds a cold reset; VIN back above 3,260 mV for 1 ms ends the hold. -/
def brownOut (vin : Nat) (s : State) : State :=
  if vin < 2620 then
    let s := if s.gctl.brown then s else coldReset 1 { s with gctl := { s.gctl with brown := true } }
    if vin < retentionMv then s.loseRetention else s
  else if s.gctl.brown ∧ 3260 < vin then { s with gctl := { s.gctl with brown := false, relFrom := s.tick } }
  else s

/-- SH4_RECOVERY (R391): VIN has stayed above the SH1 rising threshold for 10 ms. -/
def sh4Recovery (vin : Nat) (s : State) : State :=
  if s.gf F.PWR_STAT_SH = 4 ∧ s.gf (F.PWR_SH_THR_RISE 0) < vin then coldReset 3 s else s

/-- FREEZE (R416, R418): FRZ_N asserted stops the device in place; deasserting it ends nothing. -/
def freezePin (low : Bool) (s : State) : State :=
  if low ∧ !s.vioA then s else
  let s : State := { s with gctl := { s.gctl with frzLow := low } }
  if low then
    if s.gctl.inReset ∨ s.gctl.frozen then s
    else
      let s : State := { s with gctl := { s.gctl with frozen := true, froze := true } }
      let s := zttSafe s
      s.sf F.DMC_STAT_SREF 1
  else if s.gctl.inReset then { s with gctl := { s.gctl with relFrom := s.tick } }
  else s

/-! ### Warm reset (R395, R396) -/

/-- Does a register keep its value through a warm reset (R13, R396, R399)? The blocks TBU, ZTT, EVR, PWR and DMC keep theirs;
of the others, what their chapters name. -/
def warmKeeps (off : Nat) : Bool :=
  (0x10000 ≤ off && off < 0x20000) || (0x30000 ≤ off && off < 0x40000) || (0x50000 ≤ off && off < 0x80000) ||
  (0x120000 ≤ off && off < 0x140000) || 0x300000 ≤ off ||
  off == R.FCU_FIRST || (R.FCU_FIRST_DET 0 ≤ off && off ≤ R.FCU_FIRST_DET 1) ||
  (R.FCU_SRC_STAT 0 ≤ off && off ≤ R.FCU_SRC_STAT 63) || (R.FCU_SRC_CNT 0 ≤ off && off ≤ R.FCU_SRC_CNT 63) ||
  off == R.QM_PCIE_STAT || off == R.QM_PCIE_SUBSYS

/-- Threads at a warm reset (R50): STOPPED, registers cleared, memory accesses carried through. -/
def State.warmThreads (s : State) : State :=
  let s := s.brn.thr.keys.foldl State.threadReset s
  s.setBrn { s.brn with gpr := [], div := [], pad := [], qWait := [], icAgain := false, rstEnd := BrnSt.init.rstEnd }

/-- The parts of the state that a warm reset returns to their reset values. -/
def State.warmParts (s : State) : State :=
  let e := s.errTotals
  { s with
    hiCap := [], fcu := FcuSt.init, arb := ArbSt.init, eth := [], yrd := YrdSt.init, sch := SchSt.init,
    red := { RedSt.init with ueSeen := e.1, ceSeen := e.2.1, sramSeen := 0, stopped := s.red.stopped }, vox := VoxSt.init,
    sax := { SaxSt.init with dark := s.sax.dark },
    qm := { s.qm with iq := [], pair := [], cmds := [], rstEnd := none, held := [] },
    irq := { s.irq with stat := 0, prev := [] },
    sec := { s.sec with nonce := none, data := [] } }

/-- The registers at a warm reset; a shed level in force still shows in LFT_STAT (R170). -/
def State.warmRegs (s : State) : State :=
  let sel := s.gf F.GCTL_BOOT_STAT_BOOT_SEL
  let role := s.gf F.GCTL_BOOT_STAT_TWIN_ROLE
  let sh := s.gf F.LFT_STAT_SHED
  let ss := s.gf F.LFT_STAT_SHED_SEALED
  let s : State := { s with regs := s.regs.filter (fun p => warmKeeps p.1) }
  s.sfs [(F.GCTL_BOOT_STAT_BOOT_SEL, sel), (F.GCTL_BOOT_STAT_TWIN_ROLE, role), (F.SEC_STAT_LEVEL, 0), (F.LFT_STAT_SHED, sh),
    (F.LFT_STAT_SHED_SEALED, ss)]

/-- GCTL_RST_CAUSE (R394). -/
def State.rstCause (s : State) : Nat :=
  s.gctl.cause + b2n s.gctl.froze * 2 ^ 8 + b2n s.gctl.wasSafe * 2 ^ 9 + s.gctl.warmCnt * 2 ^ 16

/-- A fall of the debug level by a close or a reset: its record (R414). -/
def State.levelRec (s : State) (old : Nat) : State := if old = 0 then s else s.logRec 4 0x0041 (old * 4 + 3 * 16) 0

/-- A warm reset (R394 to R396): cause 0x05, one WARM_RESET record, and a warm reload is due (R401). -/
def warmReset (s : State) : State :=
  let lvl := s.gf F.SEC_STAT_LEVEL
  let s := s.lftClear false
  let s := ((s.warmThreads).warmRegs).warmParts
  let s : State := { s with gctl := { s.gctl with
    cause := 5, warmCnt := satAdd 16 s.gctl.warmCnt 1, froze := false, wasSafe := false, reloadDue := true, phase := 0,
    imgFlags := 0, ownerHash := [], heldLocks := [], lastFail := 0, twinRetry := none } }
  (s.levelRec lvl).logRec 1 0x0011 s.rstCause 0

/-- A write of GCTL_RST_CTL by a writer that may or may not ask for a warm reset (R395, R366). -/
def rstCtl (mayWarm : Bool) (v : Nat) (s : State) : State :=
  let rej : State := s.sf F.GCTL_STAT_CFG_REJ 1
  if bits v 31 24 ≠ 0xA5 then rej
  else if bit v 1 then coldReset 4 s
  else if !bit v 0 then s
  else if !mayWarm || s.safe || s.gctl.frozen || !s.bf F.GCTL_BOOT_STAT_DONE then rej
  else warmReset s

end Sys2Proof.Machine

namespace Sys2Proof
open Machine

/-- May the writer ask for a warm reset or program fuses (R395, R419)? A thread needs CTL_WR. -/
def Writer.mayControl (w : Writer) (s : State) : Bool :=
  match w with
  | .thread th => s.ctlWr th
  | _ => true

end Sys2Proof
end

