-- ==== Sys2Proof/Machine/Sec.lean ====
section
/-! DEFINITION. Debug lock and fuse updates (spec/17, R410 to R415, R419). -/
namespace Sys2Proof.Machine

def State.setSec (s : State) (x : SecSt) : State := { s with sec := x }
def State.secRej (s : State) : State := s.sf F.SEC_STAT_CFG_REJ 1
def State.dbgLevel (s : State) : Nat := s.gf F.SEC_STAT_LEVEL

/-- Ticks in one second. -/
def secTicks : Nat := 250000000

/-- Is a wait in force (R414)? -/
def State.backoff (s : State) : Bool := match s.sec.waitEnd with | none => false | some t => decide (s.tick < t)

/-- Wait remaining in whole seconds, rounded up. -/
def State.waitSecs (s : State) : Nat := match s.sec.waitEnd with | none => 0 | some t => ceilDiv (t - s.tick) secTicks

/-- The image in force denies debug (R415). -/
def State.dbgDeny (s : State) : Bool := bit s.gctl.imgFlags 4

/-- Channel of a writer in DEBUG_LEVEL (R414). -/
def dbgChannel : Writer → Nat
  | .mgmt => 1
  | .jtag => 2
  | _ => 0

/-- Debug commands come from the host, the management port or JTAG (R413). -/
def dbgWriter : Writer → Bool
  | .thread _ => false
  | .tbu => false
  | _ => true

/-- End of a debug command (R413): the result, TAG advanced, and the data cleared. -/
def State.dbgDone (s : State) (res : Nat) : State :=
  (s.setSec { s.sec with data := [] }).sfs
    [(F.SEC_DBG_RES_VALID, 1), (F.SEC_DBG_RES_TAG, s.gf F.SEC_DBG_RES_TAG + 1), (F.SEC_DBG_RES_RESULT, res)]

/-- An OK: level `new`, with its record (R414). -/
def State.dbgOk (s : State) (new chan : Nat) : State :=
  let old := s.dbgLevel
  ((s.sf F.SEC_STAT_LEVEL new).logRec 4 0x0041 (new + old * 4 + chan * 16) 0).dbgDone 0

/-- Any other result, with its record (R414): 1 WRONG, 2 BACKOFF, 3 NO_NONCE, 4 DISABLED. -/
def State.dbgRefuse (s : State) (level res : Nat) : State :=
  (s.logRec 4 0x0042 (level + b2n (res == 2) * 4 + b2n (res == 3 || res == 4) * 8 + s.sec.fails * 256) s.waitSecs).dbgDone res

/-- A failure (R414): the wait after the f-th, from the third on, is 60 × 2^(f − 3) s, at most 61,440 s. -/
def State.dbgFail (s : State) : State :=
  let f := satAdd 8 s.sec.fails 1
  s.setSec { s.sec with fails := f,
                        waitEnd := if f < 3 then s.sec.waitEnd else some (s.tick + min (60 * 2 ^ (f - 3)) 61440 * secTicks) }

/-- A success sets f to 0. -/
def State.dbgPass (s : State) : State := s.setSec { s.sec with fails := 0, waitEnd := none }

/-- PASSWORD (R411). -/
def dbgPassword (chan : Nat) (s : State) : State :=
  let s0 := s
  if s.backoff then s.dbgRefuse 1 2
  else if s.gctl.ownerHash.all (· == 0) then s.dbgRefuse 1 4
  else if Config.sha256 (sliceB s.sec.data 0 16) = s.gctl.ownerHash then s.dbgPass.dbgOk (max 1 s0.dbgLevel) chan
  else s.dbgFail.dbgRefuse 1 1

/-- CHALLENGE (R412): a fresh nonce, valid for 60 s. -/
def dbgChallenge (chan : Nat) (s : State) : State :=
  let n := leBytes 8 (Config.freeVal s.free).toNat ++ leBytes 8 (Config.freeVal (s.free + 1)).toNat
  let s := s.useFree.useFree
  (s.setSec { s.sec with nonce := some (n, s.tick + 60 * secTicks) }).dbgOk s.dbgLevel chan

/-- The nonce, while it is valid (R412). -/
def State.nonceNow (s : State) : Option (List Byte) :=
  match s.sec.nonce with
  | none => none
  | some (n, t) => if s.tick < t then some n else none

/-- The response a device expects (R412). -/
def State.dbgAnswer (s : State) (n : List Byte) : List Byte :=
  (Config.hmac s.gctl.fuses.deviceKey (n ++ leBytes 8 s.gctl.fuses.serial)).take 16

/-- RESPONSE (R412, R415): the nonce is consumed whatever the outcome. -/
def dbgResponse (chan : Nat) (s : State) : State :=
  let n := s.nonceNow
  let s := s.setSec { s.sec with nonce := none }
  if s.backoff then s.dbgRefuse 2 2
  else match n with
    | none => s.dbgRefuse 2 3
    | some n =>
      if s.dbgAnswer n ≠ sliceB s.sec.data 0 16 then s.dbgFail.dbgRefuse 2 1
      else if s.dbgDeny then s.dbgRefuse 2 4
      else s.dbgPass.dbgOk 2 chan

/-- CLOSE (R415). -/
def dbgClose (s : State) : State := s.dbgOk 0 3

/-- A write of SEC_DBG_CMD with OP (R413); another OP is discarded with CFG_REJ. -/
def dbgCmd (w : Writer) (op : Nat) (s : State) : State :=
  if !dbgWriter w then s.secRej
  else match op with
    | 1 => dbgPassword (dbgChannel w) s
    | 2 => dbgChallenge (dbgChannel w) s
    | 3 => dbgResponse (dbgChannel w) s
    | 4 => dbgClose s
    | _ => s.secRej

/-- A write of SEC_DBG_DATA[k] (R411 to R413). -/
def dbgData (w : Writer) (k v : Nat) (s : State) : State :=
  if !dbgWriter w then s.secRej
  else s.setSec { s.sec with data := patchB (sliceB s.sec.data 0 16) (4 * k) (leBytes 4 v) }

/-- NONCE_EXPIRE (R412). -/
def nonceExpire (s : State) : State :=
  match s.sec.nonce with
  | none => s
  | some (_, t) => if s.tick < t then s else s.setSec { s.sec with nonce := none }

/-- DEBUG_WAIT_END (R414). -/
def debugWaitEnd (s : State) : State :=
  match s.sec.waitEnd with
  | none => s
  | some t => if s.tick < t then s else s.setSec { s.sec with waitEnd := none }

/-! ### Fuses (R419) -/

/-- May the writer program fuses? -/
def fuseWriter (w : Writer) (s : State) : Bool :=
  match w with
  | .thread th => s.ctlWr th
  | .jtag => s.dbgLevel == 2
  | .tbu => false
  | _ => true

/-- Is the command refused: an SVN above the running image's or below the minimum, or the running image's slot? -/
def State.fuseRefused (s : State) (v : Nat) : Bool :=
  (bit v 6 && (s.gf F.GCTL_BOOT_STAT_SVN < bits v 5 0 || bits v 5 0 < s.gctl.fuses.svnMin)) ||
  (s.bf F.GCTL_BOOT_STAT_DONE && bit (bits v 23 20) s.gctl.keySlot)

/-- The result of a fuse command. -/
def State.fuseResult (s : State) (res : Nat) : State :=
  s.sfs [(F.SEC_FUSE_RES_VALID, 1), (F.SEC_FUSE_RES_TAG, s.gf F.SEC_FUSE_RES_TAG + 1), (F.SEC_FUSE_RES_RESULT, res)]

/-- A write of SEC_FUSE_CMD (R419). A command written while one is being programmed is discarded with CFG_REJ. -/
def fuseCmd (w : Writer) (v : Nat) (s : State) : State :=
  if !fuseWriter w s || bits v 31 24 != 0x5C || s.sec.fuse.isSome then s.secRej
  else if s.fuseRefused v then (s.sf F.SEC_FUSE_RES_VALID 0).fuseResult 1
  else
    let f := s.gctl.fuses
    (s.setSec { s.sec with fuse := some (s.tick + 2500000, 0, if bit v 6 then bits v 5 0 else f.svnMin, f.revoked ||| bits v 23 20) }).sf F.SEC_FUSE_RES_VALID 0

/-- FUSE_DONE (R419): programming ends and reports. After a failure it is open which of the fuses took their new value. -/
def fuseDone (ok : Bool) (s : State) : State :=
  match s.sec.fuse with
  | none => s
  | some (_, _, svn, rev) =>
    let f := s.gctl.fuses
    let a := ok || bit s.freeBits.toNat 0
    let b := ok || bit s.freeBits.toNat 1
    let s := s.setSec { s.sec with fuse := none }
    let s : State := { s with gctl := { s.gctl with fuses := { f with svnMin := if a then svn else f.svnMin, revoked := if b then rev else f.revoked } } }
    if ok then s.fuseResult 0 else (s.useFree.fuseResult 2).raise 4 kSTATE 0

end Sys2Proof.Machine
end

