-- ==== Sys2Proof/Machine/Control.lean ====
section
/-! DEFINITION. The device control space (R8 to R13, R175): what each register reads, and what a write of each does. -/
namespace Sys2Proof.Machine

/-! ### Locks (R13) -/

/-- Is the LOCK bit that governs a register set? `b` is its first index. -/
def State.lockAt (s : State) (off b : Nat) : Bool :=
  if off < 0x10000 then s.bf F.GCTL_STAT_LOCK
  else if off < 0x20000 then s.bf F.PWR_CTL_LOCK
  else if off < 0x30000 then s.bf F.FCU_CTL_LOCK
  else if off < 0x40000 then s.bf F.EVR_CTL_LOCK
  else if off < 0x50000 then s.bf F.SEC_CTL_LOCK
  else if off < 0x80000 then s.bf F.TBU_CTL_LOCK
  else if off < 0xa0000 then s.bf F.ETH_GCTL_LOCK
  else if off < 0xc0000 then s.bf F.YRD_CTL_LOCK
  else if off < 0x100000 then s.bf F.SCH_CTL_LOCK
  else if off < 0x110000 then s.bf F.RED_CTL_LOCK
  else if off < 0x120000 then s.bf F.VOX_CTL_LOCK
  else if off < 0x140000 then s.bf F.ZTT_CTL_LOCK
  else if off < 0x180000 then s.bf F.QM_CTL_LOCK
  else if off < 0x1c0000 then s.bf F.LFT_CTL_LOCK
  else if off < 0x200000 then s.bf F.SAX_CTL_LOCK
  else if off < 0x280000 then s.bf (F.BRN_CTL_LOCK b)
  else if off < 0x300000 then s.bf F.BRN_CS_CTL_LOCK
  else s.bf F.DMC_CTL_LOCK

/-! ### Reads -/

/-- Bits [31:0] of a paired quantity are read through its _LO register; these are the bits that the _HI register then returns, with
the offset of that register (R175, R199; spec/10, spec/15). -/
def State.hiOf (s : State) (n : RegName) (ix : List Nat) : Option (Nat × Nat) :=
  let i := ix.headD 0
  match n with
  | .LFT_EPOCH_LO => some (R.LFT_EPOCH_HI, s.lft.sealed / 2 ^ 32)
  | .LFT_SWP_EPOCH_LO => some (R.LFT_SWP_EPOCH_HI i, (s.sweep i).epoch / 2 ^ 32)
  | .LFT_HVIEW_EPOCH_LO => some (R.LFT_HVIEW_EPOCH_HI i, s.lft.vep.getD i 0 / 2 ^ 32)
  | .ETH_CNT_LO => some (R.ETH_CNT_HI i (ix.getD 1 0), s.ethCnt i (ix.getD 1 0) / 2 ^ 32)
  | .SCH_GCL_ADM_BASE_LO => some (R.SCH_GCL_ADM_BASE_HI i, s.reg (R.SCH_GCL_ADM_BASE_HI i))
  | .SCH_GCL_OPR_BASE_LO => some (R.SCH_GCL_OPR_BASE_HI i, s.reg (R.SCH_GCL_OPR_BASE_HI i))
  | .EVR_HEAD_LO => some (R.EVR_HEAD_HI, s.evr.head / 2 ^ 32)
  | .EVR_TAIL_LO => some (R.EVR_TAIL_HI, s.evr.tail / 2 ^ 32)
  | .EVR_CUR_POS_LO => some (R.EVR_CUR_POS_HI i, s.evr.cur.getD i 0 / 2 ^ 32)
  | _ => none

/-- The value a capture left for a _HI register. -/
def State.captured (s : State) (off : Nat) : Nat := (s.hiCap.get (fun _ => 0) off).toNat

/-- A register's stored bits with field `f` replaced by a value known elsewhere. -/
def putF (f : Fld) (x v : Nat) : Nat := setBits v f.hi f.lo x

/-- The threads of barn `b` that are neither STOPPED nor HALTED. -/
def State.activeThreads (s : State) (b : Nat) : Nat :=
  (s.brn.thr.filter (fun p => barnOf p.1 == b && p.2.st != 0 && p.2.st != 5)).length

/-- BRN_THR_STAT. -/
def Thread.statWord (x : Thread) : Nat := x.st + b2n x.inTrap * 8 + min 16 x.slots * 16 + x.cause * 2 ^ 16

/-- Milliseconds spent in a power state (R387). -/
def State.psMs (s : State) (k : Nat) : Nat :=
  min (2 ^ 32 - 1) ((s.pwr.psTicks.getD k 0 + (if s.gf F.PWR_STAT_PS = k then s.tick - s.pwr.psSince else 0)) / 250000)

/-- BRN_PAD_LEFT (R108): units left; 0 while PER_EN is 0. -/
def State.padLeft (s : State) (p k : Nat) : Nat :=
  if s.bf (F.BRN_PAD_MODE_PER_EN p) then s.reg (R.BRN_PAD_LEFT p k) else 0

/-- Has a valid heartbeat word come on a path within three periods (R264)? -/
def State.pathUp (s : State) (at_ : Option Nat) : Bool :=
  match at_ with | none => false | some t => decide (s.tick ≤ t + 3 * s.hbPeriod)

/-- Word `w` of the oldest capture of input `i` (R135). -/
def State.capWord (s : State) (i w : Nat) : Nat :=
  match s.tbu.cap.getD i [] with
  | [] => 0
  | c :: _ => c.stamp.toNat / 2 ^ (32 * w) % 2 ^ 32

/-- STATE, GEN and ERR of a pair as a doorbell register reads them. -/
def State.pairWord (s : State) (i : Nat) : Nat :=
  let p := s.pairOf i
  p.state * 2 ^ 29 + p.err % 2 ^ 8 * 2 ^ 20 + p.gen % 2 ^ 8 * 2 ^ 8

/-- Cells of a view or pin lease still to run, in µs (R164). -/
def State.viewLeft (s : State) (h : Nat) : Nat :=
  match s.lft.views.getD h none with
  | none => 0
  | some p => (p.expiry - s.tick) / 250

/-- What a register of row `n` reads, from its stored bits `v`. -/
def State.regView (s : State) (n : RegName) (ix : List Nat) (off v : Nat) : Nat :=
  let i := ix.headD 0
  let j := ix.getD 1 0
  match n with
  | .GCTL_GRADE => putF F.GCTL_GRADE_GRADE s.gctl.fuses.grade v
  | .GCTL_RST_CAUSE => s.rstCause
  | .SEC_STAT => putF F.SEC_STAT_BACKOFF (b2n s.backoff) (putF F.SEC_STAT_DENY (b2n s.dbgDeny) (putF F.SEC_STAT_DBG_FUSE (b2n s.gctl.fuses.debug) v))
  | .SEC_DBG_NONCE => match s.nonceNow with | none => 0 | some l => leNat (sliceB l (4 * i) 4)
  | .SEC_DBG_FAIL => min 0xFFFF s.waitSecs * 2 ^ 16 + s.sec.fails
  | .SEC_SERIAL_LO => s.gctl.fuses.serial % 2 ^ 32
  | .SEC_SERIAL_HI => s.gctl.fuses.serial / 2 ^ 32 % 2 ^ 32
  | .SEC_FUSE_STAT => s.gctl.fuses.svnMin * 2 ^ 8 + s.gctl.fuses.prog * 2 ^ 4 + s.gctl.fuses.revoked
  | .PWR_PS_TIME => s.psMs i
  | .FCU_ERR_CTL => putF F.FCU_ERR_CTL_LEVEL (b2n s.errPin) (putF F.FCU_ERR_CTL_PULSE (b2n s.fcu.pulseEnd.isSome) v)
  | .EVR_STAT => putF F.EVR_STAT_SPILL_PAUSED (b2n s.spillPaused) v
  | .EVR_HEAD_LO => s.evr.head % 2 ^ 32
  | .EVR_TAIL_LO => s.evr.tail % 2 ^ 32
  | .EVR_HEAD_HI => s.captured off
  | .EVR_TAIL_HI => s.captured off
  | .EVR_CUR_POS_LO => s.evr.cur.getD i 0 % 2 ^ 32
  | .EVR_CUR_POS_HI => s.captured off
  | .EVR_CUR_STAT => putF (F.EVR_CUR_STAT_VALID i) (b2n (s.recAt (s.evr.cur.getD i 0)).isSome) v
  | .EVR_CUR_W => s.curWord i j
  | .EVR_RET_STAT => putF F.EVR_RET_STAT_COUNT s.evr.ret.length v
  | .EVR_RET_W => recWord (s.evr.ret.getD i 0) j
  | .TBU_ACT_STAT => putF F.TBU_ACT_STAT_PENDING s.tbu.acts.length v
  | .TBU_SNAP_VAL => s.tbu.snap.getD i 0 / 2 ^ (32 * j) % 2 ^ 32
  | .TBU_DOM_CTL => if i = 0 then putF (F.TBU_DOM_CTL_EN 0) 1 v else v
  | .TBU_DOM_INCR_LO => if i < 4 then (s.dom i).incr % 2 ^ 32 else s.rateOf i / 2 ^ 32 % 2 ^ 32
  | .TBU_DOM_INCR_HI => if i < 4 then (s.dom i).incr / 2 ^ 32 % 2 ^ 8 else s.rateOf i / 2 ^ 64 % 2 ^ 8
  | .TBU_CAP_STAT => putF (F.TBU_CAP_STAT_LEVEL i) (s.tbu.cap.getD i []).length v
  | .TBU_CAP_HEAD => match s.tbu.cap.getD i [] with | [] => 0 | c :: _ => 2 ^ 31 + c.tag % 256
  | .TBU_CAP_W => s.capWord i j
  | .TBU_TOUT_CTL => putF (F.TBU_TOUT_CTL_LEVEL i) (b2n (s.toutLevel i)) v
  | .LFT_STAT => putF F.LFT_STAT_FENCED (b2n (s.fenced 0x20)) v
  | .LFT_EPOCH_HI => s.captured off
  | .LFT_SWP_EPOCH_HI => s.captured off
  | .LFT_HVIEW_EPOCH_HI => s.captured off
  | .LFT_OCC => s.lft.txns.length + s.lft.pins.length * 2 ^ 16
  | .LFT_HOLD_STAT => s.lft.held.length
  | .LFT_HVIEW_STAT =>
    putF (F.LFT_HVIEW_STAT_LOST i) (match s.lft.views.getD i none with | none => bits v 30 30 | some p => b2n (!s.pinLive p)) v
  | .LFT_HVIEW_LEFT => s.viewLeft i
  | .ETH_STAT => putF (F.ETH_STAT_FENCED i) (b2n (s.fenced (0x10 + i))) v
  | .ETH_INT_STAT => putF (F.ETH_INT_STAT_HALF i) (b2n (s.ethHalf i)) v
  | .ETH_TSQ_STAT => putF (F.ETH_TSQ_STAT_LEVEL i) (s.port i).tsq.length v
  | .ETH_CNT_LO => s.ethCnt i j % 2 ^ 32
  | .ETH_CNT_HI => s.captured off
  | .YRD_STAT => putF F.YRD_STAT_FENCED (b2n s.yrdFenced) (putF F.YRD_STAT_RETIRED s.yrd.retired.length v)
  | .YRD_FREE => putF F.YRD_FREE_SHARED s.sharedFree v
  | .YRD_PIN_HOLD => s.yrd.pinHeld.length
  | .YRD_PORT_OCC => s.heldCells i
  | .YRD_QOCC => s.qocc i j
  | .SCH_STAT => putF F.SCH_STAT_FENCED (b2n (s.fenced 0x19)) v
  | .SCH_GATE_STAT => s.gates i % 256 + 256 * (List.range 8).foldl (fun m c => m + b2n (s.pfcHeld i c) * 2 ^ c) 0
  | .SCH_CLS_STAT => putF (F.SCH_CLS_STAT_LEAVES i j) (s.activeLeaves i j).length v
  | .SCH_GCL_ADM_BASE_HI => s.captured off
  | .SCH_GCL_OPR_BASE_HI => s.captured off
  | .RED_ROLE => putF F.RED_ROLE_FENCED (b2n s.redFenced) (putF F.RED_ROLE_PATH_VOX (b2n (s.pathUp s.red.voxAt))
      (putF F.RED_ROLE_PATH_WIRE (b2n (s.pathUp s.red.wireAt)) v))
  | .ZTT_STAT => putF F.ZTT_STAT_FENCED (b2n (s.fenced 0x1C)) v
  | .QM_STAT => putF F.QM_STAT_FENCED (b2n s.qFenced) v
  | .QM_PCIE_STAT => if s.bf F.QM_PCIE_STAT_LINK_UP then v else putF F.QM_PCIE_STAT_SPEED 0 (putF F.QM_PCIE_STAT_WIDTH 0 v)
  | .QM_INT_STAT => s.irq.stat / 2 ^ (32 * i) % 2 ^ 32
  | .QM_ADM_DB => s.pairWord admPair
  | .QM_QP_DB => s.pairWord i
  | .SAX_STAT => putF F.SAX_STAT_SHED (b2n s.saxShed) (putF F.SAX_STAT_FENCED (b2n (s.fenced 0x21)) v)
  | .BRN_STAT => putF (F.BRN_STAT_ACTIVE i) (s.activeThreads i) (putF (F.BRN_STAT_PGATED i) (b2n (s.barnGated i)) v)
  | .BRN_THR_PC => let x := s.thr (thrIdx i j (ix.getD 2 0)); if x.st = 0 then x.pc else x.lastPc
  | .BRN_THR_STAT => (s.thr (thrIdx i j (ix.getD 2 0))).statWord
  | .BRN_CS_DATA => s.rdN s.csAddr 4
  | .BRN_PAD_STAT => putF (F.BRN_PAD_STAT_SHED i) (b2n (s.shedHeld i)) v
  | .BRN_PAD_LEFT => s.padLeft i j
  | _ => v

/-- The value that a 32-bit read of a control-space offset returns (R9: 0 where no register lies). -/
def State.ctlValue (s : State) (off : Nat) : Nat :=
  match findReg off with
  | none => 0
  | some (r, ix) => s.regView r.name ix off (s.reg off) % 2 ^ 32

/-- What a read of a control-space offset does beside returning a value: an _LO read captures, a read of BRN_CS_DATA or of a receive
buffer meets its memory's errors (R23, R175, R309). -/
def ctlTouch (off : Nat) (s : State) : State :=
  match findReg off with
  | none => s
  | some (r, ix) =>
    match s.hiOf r.name ix with
    | some (hi, v) => { s with hiCap := s.hiCap.set (fun _ => 0) hi (BitVec.ofNat 32 v) }
    | none =>
      match r.name with
      | .ZTT_REF_W => zRefWRead (ix.headD 0) s
      | .ZTT_MB_DATA => zDataRead (ix.headD 0) s
      | .BRN_CS_DATA => s.memError s.csAddr 0
      | _ => s

/-- A read of a control-space register: the state after it and the value. -/
def ctlRead (off : Nat) (s : State) : State × Nat :=
  let s' := ctlTouch off s
  (s', s'.ctlValue off)

/-! ### Writes -/

/-- A write of QM_CTL. -/
def qmCtl (v : Nat) (s : State) : State :=
  let s := if bit v 31 then s.sf F.QM_CTL_LOCK 1 else s
  let s := (s.sf F.QM_CTL_EN (bits v 0 0)).flushHeld
  if bit v 1 then qmReset s else s

/-- A write of QM_INT_STAT[w]: 1 clears. -/
def qmIntStat (w v : Nat) (s : State) : State :=
  let m := v % 2 ^ 32 * 2 ^ (32 * w)
  { s with irq := { s.irq with stat := s.irq.stat - (s.irq.stat &&& m) } }

/-- A write of QM_P9_MAP[c]: a SIZE above 8 is discarded. -/
def p9Map (off v : Nat) (s : State) : State :=
  if 8 < bits v 19 16 then s.sf F.QM_STAT_CFG_REJ 1 else s.plainWrite off v false

/-- A write of FCU_ERR_CTL: HOLD, and PULSE_MS unless locked; in the safe state HOLD alone (R366). -/
def errCtl (v : Nat) (s : State) : State :=
  let s := if s.safe then s else s.sf F.FCU_ERR_CTL_PULSE_MS (if s.bf F.FCU_CTL_LOCK then s.gf F.FCU_ERR_CTL_PULSE_MS else bits v 15 0)
  holdWrite (bit v 31) s

/-- A write of EVR_CTL. -/
def evrCtl (v : Nat) (s : State) : State :=
  let s := if bit v 31 then s.sf F.EVR_CTL_LOCK 1 else s
  if bit v 0 then evrReset s else s

/-- A write of TBU_CTL. -/
def tbuCtl (v : Nat) (s : State) : State :=
  let s := if bit v 31 then s.sf F.TBU_CTL_LOCK 1 else s
  if bit v 0 then snapReq s else s

/-- A write of a paddock register without checks of its own. -/
def padPlain (off v : Nat) (s : State) : State := s.padTouch.plainWrite off v (s.bf F.BRN_CS_CTL_LOCK)

/-- May a register be written in the safe state (R366)? -/
def safeWritable (n : RegName) : Bool :=
  n == .FCU_ERR_CTL || n == .FCU_FIRST || n == .FCU_SRC_STAT || n == .EVR_CUR_CTL || n == .GCTL_RST_CTL

/-- A write to the GCTL, SEC, PWR, FCU, EVR or DMC block. -/
def coreWrite (w : Writer) (n : RegName) (ix : List Nat) (off v : Nat) (s : State) : State :=
  let i := ix.headD 0
  let j := ix.getD 1 0
  match n with
  | .GCTL_RST_CTL => rstCtl (w.mayControl s) v s
  | .SEC_DBG_CMD => dbgCmd w (bits v 2 0) s
  | .SEC_DBG_DATA => dbgData w i v s
  | .SEC_FUSE_CMD => fuseCmd w v s
  | .PWR_CTL => pwrCtl v s
  | .PWR_SH_THR => shThrWrite i v s
  | .FCU_CTL => fcuCtl v s
  | .FCU_ERR_CTL => errCtl v s
  | .FCU_FW_RAISE => fwRaise v s
  | .FCU_FENCE => fenceLift i v s
  | .FCU_FENCE_SET => fenceSet i v s
  | .FCU_SRC_FORCE => forceWrite i v s
  | .FCU_RCT => if s.bf F.FCU_CTL_LOCK || !assignedSource i then s else s.setReg (R.FCU_RCT i j) (rctClean i v)
  | .FCU_CASCADE_MASK => if assignedSource i then s.plainWrite off v (s.bf F.FCU_CTL_LOCK) else s
  | .EVR_CTL => evrCtl v s
  | .EVR_SPILL_CTL => spillCtl v s
  | .EVR_RET_STAT => if bit v 31 then retClear s else s
  | .EVR_CUR_CTL => curCtl i v s
  | .EVR_RATE => if i = 1 ∨ i = 34 ∨ i = 49 then s else s.plainWrite off v false
  | _ => s.plainWrite off v (s.lockAt off i)

/-- A write to the TBU, ETH, YRD or SCH block. -/
def netWrite (n : RegName) (ix : List Nat) (off v : Nat) (s : State) : State :=
  let i := ix.headD 0
  let j := ix.getD 1 0
  match n with
  | .TBU_CTL => tbuCtl v s
  | .TBU_DOM_CTL => domCtl i v s
  | .TBU_DOM_INCR_LO => incrLo i v s
  | .TBU_DOM_INCR_HI => incrHi i v s
  | .TBU_DOM_STEP_S => if i < 4 then s.plainWrite off v false else s
  | .TBU_DOM_STEP_NS => if i < 4 then s.plainWrite off v false else s
  | .TBU_DOM_CMD => domCmd i v s
  | .TBU_CAP_POP => capturePop i (bits v 7 0) s
  | .TBU_TOUT_CTL => toutConfig i 0 v s
  | .TBU_TOUT_PER => toutConfig i 1 v s
  | .TBU_TOUT_PHASE => toutConfig i 2 v s
  | .TBU_TOUT_WID => toutConfig i 3 v s
  | .ETH_CTL => ethCtl i v s
  | .ETH_MODE => ethMode i v s
  | .ETH_MAXLEN => ethMaxlen i v s
  | .ETH_FC_CFG => ethFcCfg i v s
  | .ETH_FC_WM => ethWm off i v s
  | .ETH_PFC_WM => ethWm off i v s
  | .ETH_PRE_CFG => ethPreCfg i v s
  | .YRD_CTL => yrdCtl v s
  | .YRD_POOL => poolWrite none v s
  | .YRD_PORT_CFG => poolWrite (some i) v s
  | .YRD_HASH_SEED => hashSeed v s
  | .YRD_FT_CMD => ftCmd v s
  | .YRD_PIN => pinWrite false i v s
  | .YRD_PGRP => pinWrite true i v s
  | .SCH_CTL => schCtl v s
  | .SCH_FQ_SEL => fqSel v s
  | .SCH_SHP_SEL => shpSel v s
  | .SCH_PORT_CFG => schPortCfg i v s
  | .SCH_CLS_CFG => clsCfg i j v s
  | .SCH_GCL_CTL => gclCtl i v s
  | .SCH_GCL_ADM_CFG => admWrite off i v s
  | .SCH_GCL_ADM_BASE_LO => admWrite off i v s
  | .SCH_GCL_ADM_BASE_HI => admWrite off i v s
  | .SCH_GCL_ADM_CYCLE => admWrite off i v s
  | .SCH_GCL_ENTRY => entryWrite off i j v s
  | .SCH_GCL_IVL => entryWrite off i j v s
  | .SCH_SHP_CTL => shpCtl i v s
  | .SCH_FQ_CFG => fqCfg i v s
  | _ => s.plainWrite off v (s.lockAt off i)

/-- A write to the RED, VOX, ZTT, QM, LFT or SAX block. -/
def fieldWrite (n : RegName) (ix : List Nat) (off v : Nat) (s : State) : State :=
  let i := ix.headD 0
  match n with
  | .RED_CTL => redCtl v s
  | .RED_TWIN_CFG => redCfg off v s
  | .RED_HB_CFG => redCfg off v s
  | .RED_GROOM_KRES => kernelSignature v s
  | .RED_SEL => redSel v s
  | .RED_CLK_CFG => redClk i v s
  | .RED_CLK_ANCHOR_LO => redClkVal off i v s
  | .RED_CLK_ANCHOR_HI => redClkVal off i v s
  | .RED_CLK_CYCLE => redClkVal off i v s
  | .RED_GEN_CFG => redGenCfg i v s
  | .RED_REC_CFG => redRecCfg i v s
  | .VOX_CTL => voxCtl v s
  | .ZTT_CTL => zRun (zttCtl v) s
  | .ZTT_CFG => zRun (zttCfg v) s
  | .ZTT_TRIM => zRun (zttTrim v) s
  | .ZTT_MODE => zWrite off v s
  | .ZTT_MODE_LEN => zWrite off v s
  | .ZTT_WIN_TIME => zWrite off v s
  | .ZTT_WIN_CTL => zWrite off v s
  | .ZTT_MB_CFG => zRun (zBufCfg i v) s
  | .ZTT_MB_CMD => zRun (zBufCmd i v) s
  | .ZTT_MB_DATA => if s.bf (F.ZTT_MB_CFG_DIR i) then s.plainWrite off v false else s
  | .QM_CTL => qmCtl v s
  | .QM_INT_STAT => qmIntStat i v s
  | .QM_ADM_DB => doorbellWrite admPair v s
  | .QM_QP_DB => doorbellWrite i v s
  | .QM_CMD_GO => cmdGo v s
  | .QM_P9_MAP => p9Map off v s
  | .LFT_CTL => lftCtl v s
  | .LFT_SWP_CTL => sweepCtl i v s
  | .LFT_HVIEW_CTL => viewCtl i v s
  | .LFT_MAP_CTL => mapWrite i false v s
  | .LFT_MAP_PAD => mapWrite i true v s
  | .SAX_CTL => saxCtl v (saxSync s)
  | .SAX_CFG => saxCfg off v (saxSync s)
  | .SAX_TBL_BASE => saxCfg off v (saxSync s)
  | .SAX_SEL => saxSel v (saxSync s)
  | _ => if 0x180000 ≤ off ∧ off < 0x1c0000 then lftWrite off v s else s.plainWrite off v (s.lockAt off i)

/-- A write to the BRN block. -/
def brnWrite (n : RegName) (ix : List Nat) (off v : Nat) (s : State) : State :=
  let i := ix.headD 0
  let j := ix.getD 1 0
  match n with
  | .BRN_CTL => barnCtl i v s
  | .BRN_ENG_DIS => engDis i v s
  | .BRN_THR_CTL => thrCtl (thrIdx i j (ix.getD 2 0)) v s
  | .BRN_THR_PC => threadPc (thrIdx i j (ix.getD 2 0)) v s
  | .BRN_CS_DATA => csWrite v s
  | .BRN_CS_CTL => csCtl v s
  | .BRN_PAD_MODE => padMode i v s
  | .BRN_PAD_LEN => padLen i false v s
  | .BRN_PAD_PHASE => padLen i true v s
  | .BRN_PAD_CTL => padPlain off v s
  | .BRN_PAD_GCTL => padPlain off v s
  | .BRN_PAD_BUD => padPlain off v s
  | _ => s.plainWrite off v (s.lockAt off i)

/-- A 32-bit write of a control-space offset by `w` (R9 to R13), but for GCTL_BOOT_CMD, which Boot.lean adds. -/
def ctlStore (w : Writer) (off v : Nat) (s : State) : State :=
  match findReg off with
  | none => s
  | some (r, ix) =>
    if s.safe && !safeWritable r.name then s
    else if off < 0x50000 ∨ 0x300000 ≤ off then coreWrite w r.name ix off v s
    else if off < 0x100000 then netWrite r.name ix off v s
    else if off < 0x200000 then fieldWrite r.name ix off v s
    else brnWrite r.name ix off v s

/-- A writer in the form of the WRITER field of R372 (R448); JTAG, the ROM and the TBU by the blocks that they write through. -/
def writerId : Writer → Nat
  | .thread t => t.val
  | .host => 0x801E
  | .mgmt => 0x801D
  | .jtag => 0x8004
  | .rom => 0x8001
  | .tbu => 0x8005

/-- A write narrower than 32 bits is discarded and reported with source GCTL (R8, R448): `off` is the offset of its first byte, `be` the
bytes written. Where no register stands the write is discarded alone (R9). -/
def narrowWrite (w : Writer) (off be : Nat) (s : State) : State :=
  match findReg (off / 4 * 4) with
  | none => s
  | some _ => s.raise 1 kACCESS (off % 2 ^ 26 + be % 16 * 2 ^ 32 + writerId w * 2 ^ 48)

end Sys2Proof.Machine
end

