-- ==== Sys2Proof/Machine/Boot.lean ====
section
/-! DEFINITION. The boot ROM (spec/17, R400 to R407): sequence, sources, image checks, loading, warm reload. -/
namespace Sys2Proof.Machine

def State.setGctl (s : State) (g : GctlSt) : State := { s with gctl := g }

/-! ### Status codes (GCTL_BOOT_STAT.CODE) -/

def bRUNNING : Nat := 0x00
def bDONE : Nat := 0x01
def bWAIT_HOST : Nat := 0x02
def bWAIT_TWIN : Nat := 0x03
def bBAD_GRADE : Nat := 0x10
def bBAD_SEL : Nat := 0x11
def bBAD_HEADER : Nat := 0x13
def bWRONG_PART : Nat := 0x14
def bBAD_KEY : Nat := 0x15
def bOLD_SVN : Nat := 0x16
def bBAD_SIG : Nat := 0x17
def bBAD_SECTION : Nat := 0x18
def bDRAM_FAIL : Nat := 0x19

def State.bootCode (s : State) (c : Nat) : State := s.sf F.GCTL_BOOT_STAT_CODE c

/-- A reported failure (R403, R5): not the same one twice in succession. -/
def State.bootReport (s : State) (code : Nat) : State :=
  let s' := s.bootCode code
  if s.gctl.lastFail = code then s'
  else (s'.setGctl { s'.gctl with lastFail := code }).raise (if code = bBAD_GRADE then 1 else 4) kCONFIG
    (if code = bBAD_GRADE then s.gctl.fuses.grade else code)

/-- The ROM holds the device (R403). -/
def State.bootStop (s : State) : State := s.setGctl { s.gctl with phase := 5 }

/-! ### The image container (R404, R405) -/

/-- A little-endian field of an image. -/
def imgN (l : List Byte) (o n : Nat) : Nat := leNat (sliceB l o n)

/-- A section entry: type, offset, length, destination. -/
structure Section where
  typ : Nat
  off : Nat
  len : Nat
  dst : Nat
  deriving DecidableEq, Repr

def imgSection (l : List Byte) (k : Nat) : Section :=
  let o := 128 + 16 * k
  ⟨imgN l o 1, imgN l (o + 4) 4, imgN l (o + 8) 4, imgN l (o + 12) 4⟩

/-- The sections of an image. -/
def imgSections (l : List Byte) : List Section := (List.range (min 16 (imgN l 6 2))).map (imgSection l)

/-- TOTAL_LEN. -/
def imgLen (l : List Byte) : Nat := imgN l 8 4

/-- Check 1: MAGIC, HDR_VER, NSECT, TOTAL_LEN and reserved bytes. -/
def headerOk (l : List Byte) : Bool :=
  let zero (o n : Nat) : Bool := (sliceB l o n).all (· == 0)
  let ns := imgN l 6 2
  imgN l 0 4 == 0x314C4B58 && imgN l 4 2 == 1 && decide (1 ≤ ns) && decide (ns ≤ 16) &&
  imgLen l % 16 == 0 && decide (448 ≤ imgLen l) && decide (imgLen l ≤ 0x1000000) &&
  decide (imgN l 16 1 < 64) && imgN l 18 2 / 32 == 0 && zero 24 8 && zero (128 + 16 * ns) (256 - 16 * ns) &&
  (List.range (min 16 ns)).all (fun k => zero (129 + 16 * k) 3 && (decide ((imgSection l k).typ ≤ 2) || (imgSection l k).dst == 0))

/-- Check 3: the key slot is programmed, not revoked, and holds the hash of PUBKEY. -/
def keyOk (f : Fuses) (l : List Byte) : Bool :=
  let k := imgN l 17 1
  decide (k < 4) && bit f.prog k && !bit f.revoked k && Config.sha256 (sliceB l 32 64) == f.keyHash.getD k []

/-- Check 5: the signature over bytes 0 to TOTAL_LEN − 65. -/
def sigOk (l : List Byte) : Bool :=
  Config.ecdsaVerify (sliceB l 32 64) (Config.sha256 (l.take (imgLen l - 64))) (sliceB l (imgLen l - 64) 64)

/-- Does a section lie within the image and its destination fit (check 6)? -/
def Section.ok (total : Nat) (x : Section) : Bool :=
  decide (384 ≤ x.off) && x.off % 16 == 0 && decide (x.off + x.len + 64 ≤ total) &&
  (match x.typ with
   | 1 => x.dst % 4 == 0 && decide (x.dst + x.len ≤ 0x200000)
   | 2 => x.dst / 2 ^ 19 % 32 == 0 && decide (x.dst % 2 ^ 19 + x.len ≤ 0x80000)
   | 3 => x.len == 5632
   | 4 => x.len % 8 == 0
   | 5 => x.len % 8 == 0
   | _ => false)

/-- Do two sections share a byte? -/
def Section.overlap (x y : Section) : Bool := decide (x.off < y.off + y.len) && decide (y.off < x.off + x.len)

/-- No section overlaps a later one. -/
def disjoint : List Section → Bool
  | [] => true
  | x :: xs => xs.all (fun y => !x.overlap y) && disjoint xs

/-- Check 6. -/
def sectionsOk (l : List Byte) : Bool :=
  let ss := imgSections l
  ss.all (Section.ok (imgLen l)) && disjoint ss && decide ((ss.filter (fun x => x.typ == 3)).length ≤ 1)

/-- The checks of step 6 in order (R405): 0, or the code of the first that fails. `given` is the length that a host wrote with GO. -/
def imageCheck (f : Fuses) (given : Option Nat) (l : List Byte) : Nat :=
  if !headerOk l || (match given with | some n => n != imgLen l | none => false) then bBAD_HEADER
  else if imgN l 12 2 ≠ 0x7128 ∨ !bit (imgN l 14 2) 1 then bWRONG_PART
  else if !keyOk f l then bBAD_KEY
  else if imgN l 16 1 < f.svnMin then bOLD_SVN
  else if !sigOk l then bBAD_SIG
  else if !sectionsOk l then bBAD_SECTION
  else 0

/-! ### Loading (R406, R407) -/

/-- The body of a section. -/
def bodyOf (l : List Byte) (x : Section) : List Byte := sliceB l x.off x.len

/-- A body written to barn memory in each barn that the mask names. -/
def State.loadBarns (s : State) (mask off : Nat) (body : List Byte) : State :=
  (List.range 8).foldl (fun s b => if bit mask b then s.wrL (barnBase b + off) body else s) s

/-- The registers of paddock `p` from its record (R406): LEN, PHASE, budgets and CTL before MODE. -/
def State.loadPad (s : State) (p : Nat) (r : List Byte) : State :=
  let w (o : Nat) : Nat := imgN r o 4
  let s := padLen p true (w 8) (padLen p false (w 4) s)
  let s := (List.range 5).foldl (fun s k => padPlain (R.BRN_PAD_BUD p k) (w (12 + 4 * k)) s) s
  padMode p (w 0) (padPlain (R.BRN_PAD_CTL p) (w 32) s)

/-- PC and paddock of thread `t` from its record. -/
def State.loadThread (s : State) (t : Nat) (r : List Byte) : State :=
  let s := s.setThr t { s.thr t with pc := bits (imgN r 0 4) 20 2 * 4 }
  s.sf (F.BRN_THR_CTL_PADDOCK (barnOf t) (engOf t) (thrOf t)) (imgN r 4 1 % 32)

/-- A PADDOCK body; `none` when a write was discarded under R113 or R119. -/
def State.loadPaddocks (s : State) (body : List Byte) : Option State :=
  let s := (List.range 32).foldl (fun s p => s.loadPad p (sliceB body (48 * p) 48)) s
  if (List.range 32).any (fun p => s.bf (F.BRN_PAD_STAT_CFG_REJ p)) then none
  else some ((List.range 512).foldl (fun s t => s.loadThread t (sliceB body (1536 + 8 * t) 8)) s)

/-- Sections in table order (step 7, first part). -/
def State.loadSections (s : State) (l : List Byte) : List Section → Option State
  | [] => some s
  | x :: xs =>
    let body := bodyOf l x
    match x.typ with
    | 1 => (s.wrL (codeBase + x.dst) body).loadSections l xs
    | 2 => (s.loadBarns (x.dst / 2 ^ 24) (x.dst % 2 ^ 19) body).loadSections l xs
    | 3 => match s.loadPaddocks body with | none => none | some s => s.loadSections l xs
    | _ => s.loadSections l xs

/-- The records of a SCHED or REGS body: offset and value. -/
def bodyRecs (body : List Byte) : List (Nat × Nat) :=
  (List.range (body.length / 8)).map (fun k => (imgN body (8 * k) 4, imgN body (8 * k + 4) 4))

/-- Is a register one that SCHED may address? -/
def schedReg (off : Nat) : Bool :=
  match findReg off with
  | none => false
  | some (r, _) =>
    r.name == .ZTT_MODE || r.name == .ZTT_MODE_LEN || r.name == .ZTT_WIN_TIME || r.name == .ZTT_WIN_CTL || r.name == .SCH_GCL_ENTRY ||
    r.name == .SCH_GCL_IVL || r.name == .SCH_GCL_ADM_CFG || r.name == .SCH_GCL_ADM_BASE_LO || r.name == .SCH_GCL_ADM_BASE_HI ||
    r.name == .SCH_GCL_ADM_CYCLE

/-- May a REGS record address the offset: within the control space, outside GCTL and SEC? -/
def regsReg (off : Nat) : Bool := decide (0x10000 ≤ off) && !(decide (0x40000 ≤ off) && decide (off < 0x50000)) && decide (off < 0x4000000)

/-- The registers with a LOCK bit (bit 31) that an image may set. -/
def lockRegs : List Nat :=
  [R.PWR_CTL, R.FCU_CTL, R.EVR_CTL, R.TBU_CTL, R.ETH_GCTL, R.YRD_CTL, R.SCH_CTL, R.RED_CTL, R.VOX_CTL, R.ZTT_CTL, R.QM_CTL, R.LFT_CTL,
   R.SAX_CTL, R.DMC_CTL, R.BRN_CS_CTL] ++ (List.range 8).map R.BRN_CTL

/-- One record, applied as a host write; its LOCK bit is held until step 9 (R400, R407). -/
def State.loadRec (s : State) (off v : Nat) : State :=
  if lockRegs.contains off ∧ bit v 31 then
    ctlStore .rom off (v % 2 ^ 31) (s.setGctl { s.gctl with heldLocks := s.gctl.heldLocks ++ [off] })
  else ctlStore .rom off v s

/-- Registers of the TBU or ZTT, which a warm reload skips (R401). -/
def warmSkips (off : Nat) : Bool :=
  (decide (0x50000 ≤ off) && decide (off < 0x80000)) || (decide (0x120000 ≤ off) && decide (off < 0x140000))

/-- A list of records; `none` at one outside its permitted range or not aligned. -/
def State.loadRecs (s : State) (ok : Nat → Bool) (warm : Bool) : List (Nat × Nat) → Option State
  | [] => some s
  | (off, v) :: rs =>
    if off % 4 ≠ 0 ∨ !ok off then none
    else (if warm && warmSkips off then s else s.loadRec off v).loadRecs ok warm rs

/-- The bodies of every section of a type, in table order. -/
def State.loadLists (s : State) (ok : Nat → Bool) (warm : Bool) (l : List Byte) : List Section → Option State
  | [] => some s
  | x :: xs => match s.loadRecs ok warm (bodyRecs (bodyOf l x)) with | none => none | some s => s.loadLists ok warm l xs

/-- Step 7. -/
def State.bootLoad (s : State) (warm : Bool) (l : List Byte) : Option State :=
  let ss := imgSections l
  match s.loadSections l ss with
  | none => none
  | some s => match s.loadLists schedReg warm l (ss.filter (fun x => x.typ == 4)) with
    | none => none
    | some s => s.loadLists regsReg warm l (ss.filter (fun x => x.typ == 5))

/-! ### Steps 8 and 9 -/

/-- The PADDOCK body of an image, if it has one. -/
def padBody (l : List Byte) : Option (List Byte) := ((imgSections l).find? (fun x => x.typ == 3)).map (bodyOf l)

/-- The threads whose record has RUN set, with their paddocks. -/
def runThreads (l : List Byte) : List (Nat × Nat) :=
  match padBody l with
  | none => []
  | some b => ((List.range 512).filter (fun t => bit (imgN b (1536 + 8 * t + 5) 1) 0)).map (fun t => (t, imgN b (1536 + 8 * t + 4) 1 % 32))

/-- The barns that step 9 enables: a BARN_DATA destination or a thread with RUN set. -/
def usedBarns (l : List Byte) : Nat :=
  let m := (imgSections l).foldl (fun m x => if x.typ = 2 then m ||| x.dst / 2 ^ 24 else m) 0
  (runThreads l).foldl (fun m x => m ||| 2 ^ barnOf x.1) m

/-- Every LOCK bit of the device. -/
def State.lockAll (s : State) : State :=
  (lockRegs ++ [R.SEC_CTL]).foldl (fun s off => s.setReg off (s.reg off ||| 2 ^ 31)) (s.sf F.GCTL_STAT_LOCK 1)

/-- Step 8: MGMT_EN, the debug cap, and the image's owner (R400, R411, R415). -/
def State.bootFlags (s : State) (l : List Byte) : State :=
  let f := imgN l 18 2
  let s := s.sf F.QM_QSPI_CFG_MGMT_EN (bits f 3 3)
  let s := s.setGctl { s.gctl with imgFlags := f, ownerHash := sliceB l 96 32, keySlot := imgN l 17 1 }
  if bit f 4 then s.sf F.SEC_STAT_LEVEL (min 1 s.dbgLevel) else s

/-- Step 9: barns enabled, locks applied, threads started, DONE (R400). -/
def State.bootStart (s : State) (warm : Bool) (l : List Byte) : State :=
  let s := (List.range 8).foldl (fun s b => if bit (usedBarns l) b then s.sf (F.BRN_CTL_EN b) 1 else s) s
  let s := s.gctl.heldLocks.foldl (fun s off => s.setReg off (s.reg off ||| 2 ^ 31)) s
  let s := if bit (imgN l 18 2) 2 then s.lockAll else s
  let s := (runThreads l).foldl (fun s x => thrCtl x.1 (x.2 * 2 ^ 8 + 1) s) (s.sf F.GCTL_BOOT_STAT_DONE 1)
  let s := s.sfs [(F.GCTL_BOOT_STAT_DONE, 1), (F.GCTL_BOOT_STAT_WARM, b2n warm), (F.GCTL_BOOT_STAT_CODE, bDONE), (F.GCTL_BOOT_STAT_SVN, imgN l 16 1)]
  s.setGctl { s.gctl with phase := 6, heldLocks := [], twinRetry := none, reloadDue := false, lastFail := 0 }

/-- DRAM address of the staging region. -/
def State.stagingAddr (s : State) : Nat := dramBase + s.reg R.GCTL_IMG_BASE

/-- Steps 7 to 9 on an image that passed step 6, whose lists are thus all in range. -/
def State.bootRun (s : State) (warm : Bool) (l : List Byte) : State :=
  let s := (s.setReg R.GCTL_IMG_LEN (imgLen l)).setReg R.GCTL_IMG_VER (imgN l 20 4)
  match s.bootLoad warm l with
  | none => s
  | some s => (s.bootFlags l).bootStart warm l

/-! ### Sources (R402) -/

/-- Ticks of 100 ms. -/
def ms100 : Nat := 25000000

/-- The request to the partner: its data is due within 100 ms, and the ROM asks again 100 ms after that. -/
def State.twinAsk (s : State) : State :=
  ((s.emit .imgRequest 0 []).bootCode bWAIT_TWIN).setGctl { s.gctl with phase := 4, twinRetry := some (s.tick + 2 * ms100) }

/-- Link 0 is down: 1 s for it to train, then 100 ms. -/
def State.twinTrain (s : State) : State :=
  (s.bootCode bWAIT_TWIN).setGctl { s.gctl with phase := 4, twinRetry := some (s.tick + 11 * ms100) }

/-- Ask the partner, or wait for the link. -/
def State.twinTry (s : State) : State := if s.linkUp 0 then s.twinAsk else s.twinTrain

/-- Step 5 begins by source. -/
def State.bootFetch (s : State) : State :=
  match s.gf F.GCTL_BOOT_STAT_BOOT_SEL with
  | 0 => (s.bootCode bRUNNING).setGctl { s.gctl with phase := 1 }
  | 1 => (s.bootCode bWAIT_HOST).setGctl { s.gctl with phase := 3 }
  | _ => (s.sf F.VOX_CTL_EN (s.gf F.VOX_CTL_EN ||| 1)).twinTry

/-- DMC registers after training (R400 step 4, R439): both channels or one. -/
def State.dramTrain (s : State) : State :=
  let ch := if s.gctl.dramMiB ≤ 1792 then 1 else 3
  if !s.gctl.dramOk then s.sf F.DMC_STAT_FITTED ch
  else
    (s.sfs [(F.DMC_STAT_FITTED, ch), (F.DMC_STAT_TRAINED, ch), (F.DMC_STAT_READY, 1), (F.DMC_SIZE_USABLE, s.gctl.dramMiB)]).setReg
      R.GCTL_IMG_BASE ((s.gctl.dramMiB - 16) * 2 ^ 20)

/-- BOOT (R400): steps 1 to 4, and the start of step 5. -/
def bootRom (s : State) : State :=
  if s.gctl.phase ≠ 0 ∨ s.gctl.reloadDue ∨ s.bf F.GCTL_BOOT_STAT_DONE then s
  else if s.gctl.fuses.grade = 0 ∨ s.gctl.fuses.grade = 3 then (s.bootReport bBAD_GRADE).bootStop
  else if s.gf F.GCTL_BOOT_STAT_BOOT_SEL = 3 then (s.bootReport bBAD_SEL).bootStop
  else
    let s := s.dramTrain
    if !s.gctl.dramOk then (s.bootReport bDRAM_FAIL).bootStop else s.bootFetch

/-- The judgement of step 6: 0, or the failure's code. A list record outside its range and a PADDOCK write that R113 or R119 would
discard fail here, before anything is loaded (DEDUCED from R403 and R405). -/
def State.bootJudge (s : State) (warm : Bool) (given : Option Nat) (l : List Byte) : Nat :=
  let code := imageCheck s.gctl.fuses given l
  if code = 0 ∧ (s.bootLoad warm l).isNone then bBAD_SECTION else code

/-- An image that passed step 6 at a cold boot. -/
def State.bootPass (s : State) (l : List Byte) : State := (s.setGctl { s.gctl with staged := true }).bootRun false l

/-- IMAGE_FETCHED (R400, R402): the bytes read from the flash, or sent by the partner. -/
def imageFetched (l : List Byte) (s : State) : State :=
  if s.gctl.phase ≠ 1 ∧ s.gctl.phase ≠ 2 ∧ s.gctl.phase ≠ 4 then s
  else
    let img := l.take (min 0x1000000 (max 384 (imgLen l)))
    let s := s.wrL s.stagingAddr img
    let code := if img.length < imgLen l then bBAD_HEADER else s.bootJudge false none img
    if code = 0 then s.bootPass img
    else
      let s := s.bootReport code
      match s.gctl.phase with
      | 1 => ((s.bootCode bRUNNING).sf F.GCTL_BOOT_STAT_COPY_B 1).setGctl { s.gctl with phase := 2 }
      | 2 => s.bootStop
      | _ => s.setGctl { s.gctl with twinRetry := some (s.tick + ms100) }

/-- A write of GCTL_BOOT_CMD (R402, R422): GO with LEN verifies the image that the host wrote. -/
def bootGo (v : Nat) (s : State) : State :=
  if !bit v 31 || s.gctl.phase != 3 || s.gctl.perst then s
  else
    let n := bits v 24 0
    let img := s.rdB s.stagingAddr (min 0x1000000 (max 384 n))
    let code := s.bootJudge false (some n) img
    if code = 0 then (s.bootCode bRUNNING).bootPass img else s.bootReport code

/-- STAGING_WRITE (R402): a host write to BAR2 while the ROM waits for the host. -/
def stagingWrite (off : Nat) (l : List Byte) (s : State) : State :=
  if s.gctl.phase ≠ 3 ∨ s.gctl.perst then s else s.wrL (s.stagingAddr + off) (l.take (0x1000000 - off))

/-- TWIN_BOOT_RETRY (R402). -/
def twinBootRetry (s : State) : State :=
  match s.gctl.twinRetry with
  | none => s
  | some t => if s.gctl.phase ≠ 4 ∨ s.tick < t then s else s.twinTry

/-- The link to the partner has come up while the ROM waits for it. -/
def State.twinLink (s : State) : State := if s.gctl.phase = 4 ∧ s.linkUp 0 then s.twinAsk else s

/-- TWIN_IMAGE_REQUEST (R402): the partner asks for the staged image. -/
def twinImageRequest (s : State) : State :=
  if s.bf F.GCTL_BOOT_STAT_DONE ∧ bit s.gctl.imgFlags 1 then s.emit .imgData 0 (s.rdB s.stagingAddr (s.reg R.GCTL_IMG_LEN)) else s

/-- WARM_RELOAD (R401): steps 6 to 9 on the staged copy; the full sequence from step 5 where step 6 fails. -/
def warmReload (s : State) : State :=
  if !s.gctl.reloadDue then s
  else
    let s := s.setGctl { s.gctl with reloadDue := false }
    let s := s.setReg R.GCTL_IMG_BASE ((s.gctl.dramMiB - 16) * 2 ^ 20)
    let head := s.rdB s.stagingAddr 384
    let img := s.rdB s.stagingAddr (min 0x1000000 (max 384 (imgLen head)))
    let code := s.bootJudge true none img
    if s.gctl.staged ∧ code = 0 then s.bootRun true img
    else (if s.gctl.staged then s.bootReport code else s).bootFetch

/-! ### Control-space writes, whole -/

/-- A 32-bit write of the control space by `w`. -/
def ctlWrite (w : Writer) (off v : Nat) (s : State) : State :=
  if off = R.GCTL_BOOT_CMD then (if s.safe then s else bootGo v s) else ctlStore w off v s

end Sys2Proof.Machine
end

