-- ==== Sys2Proof/Machine/Mem.lean ====
section
/-! DEFINITION. Loads, stores, atomics and fences (spec/02 R31 to R37, R40, R50; spec/03 R61, R62; spec/04 R77 to R91, R95): an access
takes a transaction slot at issue and is performed by LOAD_COMPLETE or STORE_ACCEPT, in any order that the ordering rules allow; a
tack access takes no slot and is performed at issue, or later in the same way (R82, R102). -/
namespace Sys2Proof.Machine

/-! ### Where an access goes (R31 to R35, R56) -/

/-- What an access reaches: a trap cause, or a space and the address in it (of `State.mem`, of BAR0, of host memory). -/
inductive Reach where
  | trap (cause : Nat)
  | ok (sp : Space) (a : Nat)
  deriving DecidableEq, Repr

/-- Bus mastering is enabled (R32). -/
def State.bme (s : State) : Bool := s.bf F.QM_PCIE_STAT_BME

/-- Base of the host window of the engine address map. -/
def hostWindow : Nat := 0xC000000000
/-- Base of the device control space of the engine address map. -/
def ctlBase : Nat := 0x4000000000

/-- The engine address map (R31), with the traps of an access of `n` bytes in the order of R56. -/
def State.reach (s : State) (t ea n : Nat) (amo store : Bool) : Reach :=
  if ea % n ≠ 0 then .trap tALIGN
  else if ea < 0x8000 then .ok .tack (tackBase (barnOf t) (engOf t) + ea)
  else if 0x100000000 ≤ ea ∧ ea < 0x100080000 then .ok .barn (barnBase (barnOf t) + (ea - 0x100000000))
  else if barnBase 0 ≤ ea ∧ ea < barnBase 8 ∧ ea % 0x10000000 < 0x80000 then .ok .barn ea
  else if ctlBase ≤ ea ∧ ea < ctlBase + 0x4000000 then
    if n = 8 then .trap tSIZE
    else if amo then .trap tATOMIC_SPACE
    else if store ∧ !s.ctlWr t then .trap tACCESS
    else .ok .ctl (ea - ctlBase)
  else if dramBase ≤ ea ∧ ea < dramBase + s.usable then .ok .dram ea
  else if hostWindow ≤ ea ∧ ea < 2 ^ 40 then
    if amo then .trap tATOMIC_SPACE
    else if !s.hostEn t ∨ !s.bme then .trap tACCESS
    else .ok .host (ea - hostWindow + s.gf F.BRN_HOST_BASE_BASE * 2 ^ 38)
  else .trap tADDR_FAULT

/-! ### Order of a thread's accesses (R78 to R86, R92, R95) -/

/-- Is a transaction an access, and one to memory in the sense of R83? -/
def Txn.isAccess (x : Txn) : Bool := x.kind == .load || x.kind == .store || x.kind == .amo
def Txn.isMem (x : Txn) : Bool := x.isAccess && x.space.isMem

/-- Two accesses touch the same bytes (R79), or the same register (R95). -/
def Txn.touches (x y : Txn) : Bool :=
  x.isAccess && y.isAccess && x.space == y.space &&
    (if x.space == .ctl then x.addr / 4 == y.addr / 4 else overlap x.addr x.size y.addr y.size)

/-- An earlier access `y` must be performed before `x` is; `rel`: `x` performs as a release (R83). -/
def Txn.before (y x : Txn) (rel : Bool) : Bool :=
  y.id < x.id && (y.touches x || (y.isMem && x.isMem && (y.acq || rel)))

/-- The tack interlock (R92): a unit operation not yet performed uses bytes of the range. -/
def Thread.tackHeld (th : Thread) (a n : Nat) : Bool :=
  th.txns.any (fun x => x.kind == .unit && x.tackLen != 0 && overlap x.tack x.tackLen a n)

/-- An access marked release, but for a failing AMOCAS, which is ordered as a load (R62, R86). -/
def State.relNow (s : State) (x : Txn) : Bool :=
  x.rel && !(x.kind == .amo && x.op == 2 && s.rdN x.addr x.size != x.cmp)

/-- A tack access that is performed at issue waits for every access that comes before it (R79, R83). -/
def State.tackWaits (s : State) (t : Nat) (x : Txn) (rel : Bool) : Bool :=
  (s.openTxns t).any (fun y => { y with id := 0 }.before { x with id := 1 } rel)

/-- An access to tack bytes that waits to be performed holds a unit operation that uses them (R92). -/
def State.unitWaits (s : State) (t a n : Nat) : Bool :=
  (s.openTxns t).any (fun y => y.isAccess && y.space == .tack && overlap y.addr y.size a n)

/-! ### Performing an access -/

/-- Is the word one of a block's private tables, whose contents the spec does not give (R336)? -/
def State.saxTable (s : State) (a : Nat) : Bool :=
  s.bf F.SAX_CTL_EN && dramBase + s.saxRegion.1 ≤ a && a < dramBase + s.saxRegion.1 + s.saxRegion.2

/-- The value that `n` bytes of memory read as: free in the session table. -/
def State.loadVal (s : State) (a n : Nat) : State × Nat :=
  if s.saxTable a then (s.useFree, s.freeBits.toNat % 2 ^ (8 * n)) else (s, s.rdN a n)

/-- A load of `n` bytes of tack, barn memory or DRAM (R23, R440): nothing where the word has an uncorrected error. -/
def State.memLoad (s : State) (t a n : Nat) : State × Option Nat :=
  let s := s.memError a t
  if s.eccOf a == .ue then (s, none) else ((s.loadVal a n).1, some (s.loadVal a n).2)

/-- Write `n` bytes of a word whose errors have been met: the word gets new check bits (R442). -/
def State.memPut (s : State) (a n v : Nat) : State := (s.wrN a n v).setEcc a .ok

/-- A store of `n` bytes to tack, barn memory or DRAM (R442): a narrow store to a word with an uncorrected error is not performed. -/
def State.memStore (s : State) (t a n v : Nat) : State :=
  if n = 8 then s.memPut a n v
  else if s.eccOf a == .ue then s.memError a t
  else (s.memError a t).memPut a n v

/-- Atomic operations: 0 ADD, 1 SWAP, 2 CAS, 3 MIN, 4 MAX, 5 MINU, 6 MAXU on `w` bits; nothing where a CAS fails. -/
def amoNew (op w old v cmp : Nat) : Option Nat :=
  match op with
  | 0 => some ((old + v) % 2 ^ w)
  | 1 => some v
  | 2 => if old = cmp then some v else none
  | 3 => some (if sgn w v < sgn w old then v else old)
  | 4 => some (if sgn w old < sgn w v then v else old)
  | 5 => some (min old v)
  | _ => some (max old v)

/-- An atomic at memory address `a` (R35, R62, R442): the old value, or nothing where the word has an uncorrected error. -/
def State.memAmo (s : State) (t a n op v cmp : Nat) : State × Option Nat :=
  let s := s.memError a t
  if s.eccOf a == .ue then (s, none)
  else
    let (s, old) := s.loadVal a n
    match amoNew op (8 * n) old v cmp with
    | none => (s, some old)
    | some m => (s.memPut a n m, some old)

/-- Extend a loaded value to 64 bits. -/
def extend (n v : Nat) (signed : Bool) : Word := if signed then BitVec.ofInt 64 (sgn (8 * n) v) else BitVec.ofNat 64 v

/-- The thread as a writer of registers. -/
def thrWriter (t : Nat) : Writer := .thread ⟨t % 512, Nat.mod_lt _ (by decide)⟩

/-- A load from the control space: bytes of the register, with the side effects of a 32-bit read (R8). -/
def State.ctlLoad (s : State) (a n : Nat) : State × Nat :=
  let (s, v) := ctlRead (a / 4 * 4) s
  (s, v / 2 ^ (8 * (a % 4)) % 2 ^ (8 * n))

/-- A store to the control space by thread `t`: one of 1 or 2 bytes is discarded and reported (R8, R61). -/
def State.ctlPut (s : State) (t a n v : Nat) : State :=
  if n = 4 then ctlWrite (thrWriter t) a v s else narrowWrite (thrWriter t) a ((2 ^ n - 1) * 2 ^ (a % 4)) s


/-- Can an access be performed now; `ok` is false for one that the host does not complete (R39)? Nothing moves while the barns have no
power (R390). A host load was asked for at issue, so its data or its failure comes whatever Bus Master Enable has become (R49); a store
must still be passed to PCIe (R77). -/
def State.canTake (s : State) (x : Txn) (ok : Bool) : Bool :=
  !s.barnsOff &&
  match x.space with
  | .dram => x.granted && s.dramUp
  | .host => if x.kind == .store then s.bf F.QM_PCIE_STAT_LINK_UP && s.bme else !ok || s.bf F.QM_PCIE_STAT_LINK_UP
  | _ => true

/-- The barn whose memory an access reaches. -/
def barnAt (a : Nat) : Nat := (a - barnBase 0) / 0x10000000

/-- An access to the memory of a barn that PS2 has gated wakes it and completes after that (R51). -/
def State.wakeBarn (s : State) (x : Txn) : State :=
  if x.space == .barn && s.barnGated (barnAt x.addr) then s.setBrn { s.brn with woken := s.brn.woken ||| 2 ^ barnAt x.addr } else s

/-- Perform a load or an atomic: the value returned, or nothing where it fails. -/
def State.perform (s : State) (t : Nat) (x : Txn) (ok : Bool) : State × Option Nat :=
  match x.space with
  | .ctl => ((s.ctlLoad x.addr x.size).1, some (s.ctlLoad x.addr x.size).2)
  | .host => (s, if ok then some (leNat (s.hostB x.addr x.size)) else none)
  | _ => if x.kind == .amo then s.memAmo t x.addr x.size x.op x.data x.cmp else s.memLoad t x.addr x.size

/-- Perform a store. -/
def State.performStore (s : State) (t : Nat) (x : Txn) : State :=
  match x.space with
  | .ctl => s.ctlPut t x.addr x.size x.data
  | .host => s.hostW x.addr (leBytes x.size x.data)
  | _ => s.memStore t x.addr x.size x.data

/-- Drop a transaction of a thread. -/
def State.dropTxn (s : State) (t id : Nat) : State :=
  s.setThr t { s.thr t with txns := (s.thr t).txns.filter (fun y => y.id != id) }

/-- Put a transaction into a slot: it gets the next number. -/
def State.pushTxn (s : State) (t : Nat) (x : Txn) : State :=
  let th := s.thr t
  s.setThr t { th with txns := th.txns ++ [{ x with id := th.nextId, since := s.tick }], nextId := th.nextId + 1 }

/-! ### Issue -/

/-- A transaction with nothing in it. -/
def Txn.blank : Txn :=
  { id := 0, kind := .load, space := .tack, addr := 0, size := 0, rd := 0, dst := 0, signed := false, op := 0, acq := false, rel := false,
    data := 0, cmp := 0, ea := 0, args := [], res := none, waits := false, tack := 0, tackLen := 0, granted := false, late := false, told := false,
    since := 0 }

/-- What an access `x` needs at issue. A tack access waits for the interlock (R92), and where it is performed at once for the accesses that
come before it. -/
def accReq (s : State) (t word : Nat) (srcs : List Nat) (r : Reach) (x : Txn) : Req :=
  match r with
  | .trap _ => { word := word, srcs := srcs }
  | .ok sp a =>
    { word := word, srcs := srcs, slot := sp != .tack, dram := sp == .dram,
      cls := { mem := sp.isMem, ctl := sp == .ctl, ld := x.kind != .store, st := x.kind != .load },
      stall := sp == .tack && ((s.thr t).tackHeld a x.size ||
        (!x.late && s.tackWaits t { x with space := sp, addr := a } (s.relNow { x with addr := a }))) }

/-- A tack access that fails leaves a LOAD_ERROR pending (R40). -/
def State.tackFail (s : State) (t rd ea : Nat) (amo : Bool) : State :=
  let th := s.thr t
  s.setThr t { th with errs := th.errs ++ [⟨th.nextId, rd, ea, .tack, amo⟩], nextId := th.nextId + 1 }

/-- Issue an access that does not trap: a tack access that is not late is performed, another takes a slot; a load's register is in
flight. -/
def State.access (s : State) (t : Nat) (sp : Space) (x : Txn) : State :=
  if sp == .tack && !x.late then
    if x.kind == .store then (s.memStore t x.addr x.size x.data).nextPc t
    else match s.perform t x true with
      | (s, some v) => s.retire t x.rd (extend x.size v x.signed)
      | (s, none) => ((s.wrReg t x.rd (s.g t x.rd)).tackFail t x.rd x.ea (x.kind == .amo)).nextPc t
  else
    let s := s.wrReg t x.rd (s.g t x.rd)
    let s := if sp == .dram then s.charge (s.padOf t) 1 1 else s
    (s.pushTxn t { x with space := sp, dst := x.rd, late := sp == .tack }).nextPc t

/-- Issue a load, store or atomic at engine address `ea`; `x` holds the rest of it. -/
def issueAccess (t word : Nat) (srcs : List Nat) (x : Txn) (s : State) : State :=
  let r := s.reach t x.ea x.size (x.kind == .amo) (x.kind == .store)
  issue t (accReq s t word srcs r x) (fun s =>
    match r with
    | .trap c => s.trap t c x.ea (s.thr t).pc
    | .ok sp a => s.access t sp { x with space := sp, addr := a }) s

/-- Effective address rs1 + sext(IMM12). -/
def effAddr (s : State) (t r : Nat) (imm : BitVec 12) : Nat := ((s.settleYield t).g t r + imm.signExtend 64).toNat

/-- A load of 2^`k` bytes; `u`: zero-extended (R61). -/
def load (k : Nat) (u : Bool) (o : LdOp) (s : State) : State :=
  issueAccess o.th (encB 8 o.rd o.rs1 (b2n o.aq * 8 + b2n u * 4 + k) o.imm.toNat) [o.rs1]
    { Txn.blank with kind := .load, ea := effAddr s o.th o.rs1 o.imm, size := 2 ^ k, rd := o.rd, signed := !u, acq := o.aq,
                     late := o.late } s

/-- A store of 2^`k` bytes (R61). -/
def store (k : Nat) (o : StOp) (s : State) : State :=
  issueAccess o.th (encB 9 o.rs o.rs1 (b2n o.rl * 8 + k) o.imm.toNat) [o.rs1, o.rs]
    { Txn.blank with kind := .store, ea := effAddr s o.th o.rs1 o.imm, size := 2 ^ k, rel := o.rl, late := o.late,
                     data := ((s.settleYield o.th).g o.th o.rs).toNat % 2 ^ (8 * 2 ^ k) } s

/-- An atomic of operation `op` (R62). rd is a source of AMOCAS. -/
def atomic (op : Nat) (o : AmoOp) (s : State) : State :=
  let n := if o.sz then 8 else 4
  let g (r : Nat) : Nat := ((s.settleYield o.th).g o.th r).toNat
  issueAccess o.th (encA 0x0A o.rd o.rs1 o.rs2 (b2n o.rl * 32 + b2n o.aq * 16 + b2n o.sz * 8 + op))
    (if op = 2 then [o.rs1, o.rs2, o.rd] else [o.rs1, o.rs2])
    { Txn.blank with kind := .amo, ea := g o.rs1, size := n, rd := o.rd, signed := true, op := op, acq := o.aq, rel := o.rl,
                     late := o.late, data := g o.rs2 % 2 ^ (8 * n), cmp := g o.rd % 2 ^ (8 * n) } s

/-- A fence of a kind (0 memory, 1 IO, 2 FRM, 3 LOFT): it holds a slot while it waits (R87 to R91). -/
def fence (t kind mask : Nat) (s : State) : State :=
  issue t { word := encF 0x0B 0 0 (kind * 16 + mask) 0, wf := if kind ≤ 1 then mask != 0 else true, srcs := [], slot := true,
            fence := some (kind, mask) } (fun s =>
    let th := s.thr t
    if fenceMet (s.openTxns t) th.nextId kind mask then s.nextPc t
    else (s.pushTxn t { Txn.blank with kind := .fence, op := kind, data := mask, ea := th.pc }).nextPc t) s

/-! ### Completion -/

/-- A transaction of a thread by its number: in a slot, or carried through after a reset (R50). -/
def State.findTxn (s : State) (t id : Nat) : Option (Txn × Bool) :=
  match (s.thr t).txns.find? (fun x => x.id == id) with
  | some x => some (x, false)
  | none => match s.brn.orphans.find? (fun o => o.1 == t && o.2.id == id) with
    | some o => some (o.2, true)
    | none => none

/-- May access `x` be performed now: its target takes it, and no earlier access must come first? -/
def State.mayPerform (s : State) (t : Nat) (x : Txn) (ok : Bool) : Bool :=
  s.canTake x ok && !(s.openTxns t).any (fun y => y.before x (s.relNow x))

def State.dropOrphan (s : State) (t id : Nat) : State :=
  s.setBrn { s.brn with orphans := s.brn.orphans.filter (fun o => !(o.1 == t && o.2.id == id)) }

/-- The value of a load or atomic reaches its register, and its slot is free (R37). -/
def State.loadDone (s : State) (t : Nat) (x : Txn) (v : Nat) : State :=
  (s.dropTxn t x.id).setG t x.rd (extend x.size v x.signed)

/-- LOAD_COMPLETE (R37, R50): the data of a load or atomic returns; `ok` is false where the host answers with an error or not at all
(R39). -/
def loadComplete (t id : Nat) (ok : Bool) (s : State) : State :=
  match s.findTxn t id with
  | none => s
  | some (x, orphan) =>
    if !(x.kind == .load || x.kind == .amo) || !s.mayPerform t x ok then s
    else match (s.wakeBarn x).perform t x ok with
      | (s, some v) => if orphan then s.dropOrphan t id else s.loadDone t x v
      | (s, none) => if orphan then s.dropOrphan t id else s.failLoad t x

/-- STORE_ACCEPT (R37, R50): the target takes a store. -/
def storeAccept (t id : Nat) (s : State) : State :=
  match s.findTxn t id with
  | none => s
  | some (x, orphan) =>
    if x.kind != .store || !s.mayPerform t x true then s
    else (if orphan then (s.wakeBarn x).dropOrphan t id else (s.wakeBarn x).dropTxn t id).performStore t x

/-- FENCE_COMPLETE (R88, R89): the condition of a waiting fence has cleared. A LOAD_ERROR that it orders comes first, and in a thread in
WAIT or YIELDED waits until the thread issues again; a thread that drains or is HALTED takes none. -/
def fenceComplete (t id : Nat) (s : State) : State :=
  let th := s.thr t
  match th.txns.find? (fun x => x.id == id && x.kind == .fence) with
  | none => s
  | some f =>
    let due := (th.st == 1 || th.st == 2 || th.st == 3) && th.errs.any (fun e => e.id < f.id && fenceOrders f.op f.data e)
    if fenceMet (s.openTxns t) f.id f.op f.data && !due then s.dropTxn t id else s

/-- LOAD_ERROR (R40, R47, R88): a failed load is delivered at a fence that waits for it, or before the first instruction after a
restart. One that an instruction reads is delivered as that instruction would issue. -/
def loadError (t id : Nat) (s : State) : State :=
  if !s.mayIssue t then s
  else if !s.canCharge (s.padOf t) 0 1 then s.exhaust (s.padOf t) 0
  else
    let th := s.thr t
    match fenceDue th with
    | some (e, f) => if e.id = id then (s.settleYield t).deliverErr t e (some f) else s
    | none =>
      if !th.redeliver then s
      else match dueErr th { word := 0, srcs := [] } with
        | some e => if e.id = id then (s.settleYield t).deliverErr t e none else s
        | none => s

/-! ### DRAM: the arbiters and the scrubber (R115, R116, R118, R445)

The arbiters are modelled by what R445 says that they guarantee: the tiers, and in each tier the shares of R118. Which leaf is granted
within those bounds is for the sender of DRAM_GRANT. -/

/-- A thread is an active leaf (R115): it has a DRAM request that is not granted. -/
def Thread.dramLeaf (th : Thread) : Bool := th.txns.any (fun x => x.space == .dram && !x.granted)

/-- Grant the oldest request of a list. -/
def grantFirst : List Txn → List Txn
  | [] => []
  | x :: xs => if x.space == .dram && !x.granted then { x with granted := true } :: xs else x :: grantFirst xs

/-- Does a privileged leaf wait for a grant (R116)? -/
def State.privWaits (s : State) : Bool := s.brn.thr.any (fun p => p.2.dramLeaf && s.rank (s.padOf p.1) == 2)

/-- The number of a leaf: a thread's index, then LFT, SAX, EVR, QM. -/
def leafIdx (l : DramLeaf) : Nat :=
  match l with
  | .thread th => th.val
  | .lft => 512 + cLFT
  | .sax => 512 + cSAX
  | .evr => 512 + cEVR
  | .qm => 512 + cQM

/-- The fixed weights of the unit clients (R115). -/
def clientWeight (k : Nat) : Nat := [16, 16, 4, 4].getD k 0

/-- The active leaves of a tier with their weights (R115, R116): threads by the rank of their paddock, unit clients in the normal tier. -/
def State.tierLeaves (s : State) (priv : Bool) : List (Nat × Nat) :=
  (s.brn.thr.filter (fun p => p.2.dramLeaf && (s.rank (s.padOf p.1) == 2) == priv)).map
    (fun p => (p.1, s.gf (F.BRN_PAD_MODE_WEIGHT (s.padOf p.1)))) ++
  (if priv then [] else ((List.range 4).filter (fun k => !s.dramIdle k)).map (fun k => (512 + k, clientWeight k)))

/-- The tier with the leaves as they are now: a change starts a new interval (R118). -/
def Tier.sync (x : Tier) (l : List (Nat × Nat)) (now : Nat) : Tier := if x.leaves = l then x else { leaves := l, since := now, got := [] }

/-- Both tiers as they are now. -/
def State.arbSync (s : State) : State :=
  { s with arb := { s.arb with priv := s.arb.priv.sync (s.tierLeaves true) s.tick, norm := s.arb.norm.sync (s.tierLeaves false) s.tick } }

/-- Transfers granted to a leaf in the interval, and to the tier. -/
def Tier.gotBy (x : Tier) (l : Nat) : Nat := x.got.get (fun _ => 0) l
def Tier.total (x : Tier) : Nat := (x.leaves.map (fun p => x.gotBy p.1)).foldl (· + ·) 0

/-- The sum of the weights of the active leaves. -/
def Tier.weight (x : Tier) : Nat := (x.leaves.map (·.2)).foldl (· + ·) 0

/-- One transfer more for leaf `l`. -/
def Tier.add (x : Tier) (l : Nat) : Tier := { x with got := x.got.set (fun _ => 0) l (x.gotBy l + 1) }

/-- Half of R118's margin in sevenths of W: every leaf is within 3.5 transfers of its share since the interval began, so that in any part
of the interval it is within 7. -/
def Tier.inShare (x : Tier) : Bool :=
  x.leaves.all (fun p => decide (2 * x.gotBy p.1 * x.weight ≤ 2 * p.2 * x.total + 7 * x.weight) &&
    decide (2 * p.2 * x.total ≤ 2 * x.gotBy p.1 * x.weight + 7 * x.weight))

/-- Grants that the leaves need among the next `n` of the tier so that none falls further behind than `inShare` allows. -/
def Tier.needs (x : Tier) (n : Nat) : Nat :=
  (x.leaves.map (fun p => ceilDiv (2 * p.2 * (x.total + n) - (2 * x.gotBy p.1 * x.weight + 7 * x.weight)) (2 * x.weight))).foldl (· + ·) 0

/-- The shares hold and can be kept: no number of grants to come is too small for what the leaves need of it. -/
def Tier.fair (x : Tier) : Bool := x.inShare && (List.range (7 * x.weight)).all (fun n => decide (x.needs (n + 1) ≤ n + 1))

/-- Ticks of the 16 CCLK cycles after a change in which the shares do not bind yet (R115, R118). -/
def State.sampleTicks (s : State) : Nat := 16 / s.cclk

/-- The tier after a grant to leaf `l` at this tick, or nothing where the shares forbid it. -/
def State.tierGrant (s : State) (x : Tier) (l : Nat) : Option Tier :=
  if s.tick < x.since + s.sampleTicks then some x else if (x.add l).fair then some (x.add l) else none

/-- The granted leaf's oldest request leaves its queue. -/
def State.takeGrant (s : State) (l : DramLeaf) : State :=
  match l with
  | .thread th => s.setThr th { s.thr th with txns := grantFirst (s.thr th).txns }
  | l => { s with arb := { s.arb with req := setAt s.arb.req (leafIdx l - 512) (s.arb.req.getD (leafIdx l - 512) 0 - 1) } }

/-- Is a leaf of the privileged tier? -/
def State.privLeaf (s : State) (l : DramLeaf) : Bool :=
  match l with
  | .thread th => s.rank (s.padOf th) == 2
  | _ => false

/-- DRAM_GRANT (R115, R116, R118): one transfer for the oldest request of an active leaf. A leaf of the normal tier waits for the privileged
ones, and a leaf waits where a grant would break the shares of its tier. -/
def dramGrant (l : DramLeaf) (s : State) : State :=
  let s₁ := s.arbSync
  let p := s.privLeaf l
  if !s.dramUp || !(s.tierLeaves p).any (fun x => x.1 == leafIdx l) || (!p && s.privWaits) then s
  else match s₁.tierGrant (if p then s₁.arb.priv else s₁.arb.norm) (leafIdx l) with
    | none => s
    | some x => (({ s₁ with arb := if p then { s₁.arb with priv := x } else { s₁.arb with norm := x } } : State).takeGrant l).arbSync

/-- SCRUB (R440): the scrubber meets the DRAM word at an offset: an error is counted, and a corrected one removed. -/
def scrub (off : Nat) (s : State) : State :=
  let a := dramBase + off / 8 * 8
  if !s.bf F.DMC_CTL_SCRUB_EN || !s.dramUp || s.usable ≤ off then s
  else
    let ce := s.eccOf a == .ce
    let s := s.memError a 0
    if ce then s.setEcc a .ok else s

end Sys2Proof.Machine
end

