-- ==== Sys2Proof/Machine/Unit.lean ====
section
/-! DEFINITION. Unit operations (spec/03 R55, R64 to R74; spec/04 R92; spec/15 R374): a unit takes the operation at issue, or once
nothing holds it; its result waits in the transaction slot until UNIT_RESULT writes it to rd. Also the waits of FRM.GET, Q.GET and
TM.WAIT. -/
namespace Sys2Proof.Machine

/-! ### Operands -/

/-- Registers in the argument group. -/
def unitArgs (op fn : Nat) : Nat := match unitRow op fn with | some (n, _) => n | none => 0

/-- The tack range that an operation names (R65): address and length. -/
def State.tackArea (s : State) (op fn : Nat) (a : List Nat) : Option (Nat × Nat) :=
  let x (i : Nat) : Nat := a.getD i 0
  match op, fn with
  | 0x10, 0 => some (x 0, 64)
  | 0x10, 3 => some (x 2, x 3)
  | 0x10, 4 => some (x 2, x 3)
  | 0x10, 7 => some (x 1, 32)
  | 0x11, 0 => some (x 1, s.qEntSize (x 0) true)
  | 0x11, 1 => some (x 1, s.qEntSize (x 0) false)
  | 0x12, 0 => some (x 0, 32)
  | 0x13, 5 => some (x 0, 40)
  | 0x13, 6 => some (x 2, 32)
  | 0x14, 0 => some (x 3, 16)
  | 0x14, 1 => some (x 3, 16)
  | 0x14, 2 => some (x 1, 128)
  | _, _ => none

/-- May the operation wait (R66)? -/
def mayWait (op fn k : Nat) : Bool := ((op == 0x10 || op == 0x11) && fn == 0 && bit k 0) || (op == 0x12 && fn == 2)

/-! ### The units' answers: STATUS and VALUE, or nothing while the operation waits -/

abbrev UnitRes := State × Option (Nat × Nat)

def answer (r : State × Nat × Nat) : UnitRes := (r.1, some r.2)
def answerSt (r : State × Nat) : UnitRes := (r.1, some (r.2, 0))

/-- FRM.GET. -/
def unitFrmGet (t ta : Nat) (wait : Bool) (s : State) : UnitRes :=
  if s.yrdFenced then (s, some (0x25, 0))
  else match frmGet t ta s with
    | some (s, h) => (s, some (0, h))
    | none => (s, if wait then none else some (0x10, 0))

/-- Q.GET: an entry goes first to the threads that already wait on the queue (R70). -/
def unitQGet (t q ta : Nat) (wait : Bool) (s : State) : UnitRes :=
  if s.qFenced then (s, some (0x25, 0))
  else if s.brn.qWait.any (fun w => w.1 == q && w.2 != t) then (s, if wait then none else some (0x10, 0))
  else match s.qTake q with
    | (s, .got l left) => (s.wrL ta l, some (0, left))
    | (s, .empty) => (s, if wait then none else some (0x10, 0))
    | (s, .bad) => (s, some (0x12, 0))
    | (s, .memErr) => (s, some (0x26, 0))

/-- TM.RD: the record goes to memory address `ta`. -/
def tmRd (n ta : Nat) (s : State) : State × Nat × Nat :=
  let s := s.wrL ta (s.stampNow n 0 0 0)
  (s, if !s.domOk n then 0x16 else if s.domState n = dHOLDOVER then 1 else 0, s.era n)

/-- TM.WAIT (R71). -/
def tmWait (n a b : Nat) (s : State) : UnitRes :=
  match timeOperand n a b with
  | none => (s, some (0x13, 0))
  | some v =>
    if !s.domOk n then (s, some (0x16, 0))
    else if v < (s.dom n).val + s.leadVal n then (s, some (0x17, 0))
    else (s, none)

/-- EV.LOG (R374). -/
def evLog (t w a0 a1 : Nat) (s : State) : State × Nat :=
  let p := s.padOf t
  if 2 ^ 16 ≤ w || !codeOk w then (s.incf F.EVR_CNT_EVLOG_RANGE_COUNT, 0x13)
  else if !s.canCharge p 4 1 then ((s.exhaust p 4).incf F.EVR_CNT_EVLOG_BUDGET_COUNT, 0x14)
  else if !s.rateOk w then (s.acceptRec (s.mkRec w t a0 a1), 0x23)
  else ((s.charge p 4 1).acceptRec (s.mkRec w t a0 a1), 0)

/-- SAX reads the session's record in DRAM for an operation, and writes it back (R115, R336). -/
def State.saxAsk (s : State) : State := if s.saxReady then s.dramAsk cSAX 2 else s

/-- What a unit does with an operation of thread `t`; `k` is K6, `x` the argument registers; tack addresses are those of the thread's
engine. -/
def runUnit (t op fn k : Nat) (a : List Nat) (s : State) : UnitRes :=
  let x (i : Nat) : Nat := a.getD i 0
  let tk (i : Nat) : Nat := tackBase (barnOf t) (engOf t) + x i
  match op, fn with
  | 0x10, 0 => unitFrmGet t (tk 0) (bit k 0) s
  | 0x10, 1 => answer (frmNew t (x 0) s)
  | 0x10, 2 => answer (frmHdr t (x 0) (x 1) k s)
  | 0x10, 3 => answerSt (frmLd t (x 0) (x 1) (tk 2) (x 3) s)
  | 0x10, 4 => answerSt (frmSt t (x 0) (x 1) (tk 2) (x 3) (s.tackScan (tk 2) (x 3)))
  | 0x10, 5 => answer (frmPut t (x 0) (x 1) s)
  | 0x10, 6 => answerSt (frmDrop t (x 0) s)
  | 0x10, 7 => answerSt (frmTs (bits (x 0) 3 0) (bits (x 0) 31 16) (tk 1) (bit k 0) s)
  | 0x11, 0 => unitQGet t (x 0) (tk 1) (bit k 0) s
  | 0x11, 1 => answerSt ((s.tackScan (tk 1) (s.qEntSize (x 0) false)).qPut (x 0) (s.rdB (tk 1) (s.qEntSize (x 0) false)))
  | 0x11, 2 => answerSt (s.qSig (x 0) (bits (x 1) 47 0) t)
  | 0x12, 0 => answer (tmRd k (tk 0) s)
  | 0x12, 1 => answer (tmSched k (x 0) (x 1) (x 2) (x 3) t (s.ctlWr t) s)
  | 0x12, 2 => tmWait k (x 0) (x 1) s
  | 0x12, 3 => answerSt (tmCan k (x 0) s)
  | 0x13, 0 => answer (ltxOpen t s)
  | 0x13, 1 => answer (ltxPut t (x 0) (x 1) (BitVec.ofNat 128 (x 2 + x 3 * 2 ^ 64)) none s)
  | 0x13, 2 => answer (ltxPut t (x 0) (x 1) (BitVec.ofNat 128 (x 2 + x 3 * 2 ^ 64)) (some (BitVec.ofNat 128 (x 4 + x 5 * 2 ^ 64))) s)
  | 0x13, 3 => answer (ltxCommit t (x 0) s)
  | 0x13, 4 => answer (ltxAbort t (x 0) s)
  | 0x13, 5 => answer (ltxPin t (tk 0) s)
  | 0x13, 6 => answer (ltxGet t (x 0) (x 1) (tk 2) s)
  | 0x13, 7 => answer (ltxUnpin t (x 0) s)
  | 0x14, 0 => answer (sxRx t (x 0) (x 1) (bits (x 2) 15 0) (bits (x 2) 31 16) (tk 3) (saxSync s.saxAsk))
  | 0x14, 1 => answer (sxTx t (x 0) (x 1) (bits (x 2) 15 0) (bits (x 2) 31 16) (saxSync s.saxAsk))
  | 0x14, 2 => answerSt (sxKey (x 0) (s.rdB (tk 1) 128) (x 2) (saxSync (s.saxAsk.tackScan (tk 1) 128)))
  | 0x14, 3 => answerSt (sxKa (x 0) (x 1) (saxSync s.saxAsk))
  | _, _ => answerSt (evLog t (x 0) (x 1) (x 2) s)

/-! ### When a unit takes an operation -/

/-- The unit holds the operation: a fenced YRD holds FRM operations other than GET and PUT (R225); LFT holds its own while it is
fenced or resetting (R171, R172) and a read while DRAM is in self-refresh, as QM does its internal rings; and LFT, SAX and QM wait for the
grants of the transfers they have asked for (R115). -/
def State.unitStays (s : State) (t op fn : Nat) (a : List Nat) : Bool :=
  (op == 0x10 && fn != 0 && fn != 5 && s.yrdFenced) ||
  (op == 0x13 && fn != 0 && fn != 5 && (s.ltxHeld ||
    (fn == 6 && s.getReads t (a.getD 0 0) (a.getD 1 0) && !(s.dramUp && s.dramIdle cLFT)))) ||
  (op == 0x14 && s.saxReady && !s.saxHeld && !(s.dramUp && s.dramIdle cSAX)) ||
  (op == 0x11 && a.getD 0 0 < 0x1000 && !(s.dramUp && s.dramIdle cQM))

/-- The handles that an operation names (R66), each with its sort: 0 frame, 1 transaction, 2 pin, 3 queue, 4 session, 5 time-stamp tag. -/
def unitHandles (op fn : Nat) (a : List Nat) : List (Nat × Nat) :=
  let x (i : Nat) : Nat := a.getD i 0
  if op = 0x10 then (if 2 ≤ fn ∧ fn ≤ 6 then [(0, x 0)] else if fn = 7 then [(5, x 0)] else [])
  else if op = 0x11 then [(3, x 0)]
  else if op = 0x13 then (if 1 ≤ fn ∧ fn ≤ 4 then [(1, x 0)] else if fn = 6 ∨ fn = 7 then [(2, x 0)] else [])
  else if op = 0x14 then (if fn ≤ 1 then [(4, x 0), (0, x 1)] else [(4, x 0)])
  else []

/-- The handles of a unit operation in a slot. -/
def Txn.handles (x : Txn) : List (Nat × Nat) := unitHandles x.op (x.args.getD 0 0) (x.args.drop 2)

/-- An earlier operation of the thread that names one of the handles has not been taken (R66). -/
def Thread.unitBehind (th : Thread) (x : Txn) : Bool :=
  th.txns.any (fun y => y.kind == .unit && decide (y.id < x.id) && y.res.isNone && x.handles.any (fun h => y.handles.contains h))

/-- The transaction of a thread with a number. -/
def Thread.txn (th : Thread) (id : Nat) : Option Txn := th.txns.find? (fun x => x.id == id && x.kind == .unit)

/-- The unit takes operation `id` of thread `t` unless something holds it: its result is ready, or the thread enters WAIT (R66). -/
def State.unitTry (s : State) (t id : Nat) : State :=
  match (s.thr t).txn id with
  | none => s
  | some x =>
    let fn := x.args.getD 0 0
    let a := x.args.drop 2
    if x.res.isSome || s.unitStays t x.op fn a || s.padDue (s.padOf t) || (s.thr t).unitBehind x then s
    else match runUnit t x.op fn (x.args.getD 1 0) a s with
      | (s, some (st, v)) => s.endWait t id st v
      | (s, none) =>
        let th := s.thr t
        let s := s.setThr t { th with st := if th.st = 1 then 2 else th.st }
        if x.op = 0x11 ∧ !s.brn.qWait.contains (a.getD 0 0, t) then
          s.setBrn { s.brn with qWait := s.brn.qWait ++ [(a.getD 0 0, t)] } else s

/-- Issue a unit operation (R55, R64 to R66). -/
def unitOp (op fn : Nat) (o : UnOp) (s : State) : State :=
  let t := o.th.val
  let k := o.k.toNat
  let srcs := (List.range (unitArgs op fn)).map (fun i => o.rs.val + i)
  issue t { word := encF op o.rd o.rs fn k, wf := unitWf op fn o.rs k, srcs := srcs, slot := true,
            cls := { unit := true, ld := true, st := true },
            stall := match s.tackArea op fn (srcs.map (fun r => ((s.settleYield t).g t r).toNat)) with
              | none => false
              | some (ta, n) => s.unitWaits t (tackBase (barnOf t) (engOf t) + ta) n } (fun s =>
    let a := srcs.map (fun r => (s.g t r).toNat)
    let area := s.tackArea op fn a
    let bad : Option (Nat × Nat) := match area with
      | none => none
      | some (ta, n) => if ta % 8 ≠ 0 then some (tALIGN, ta) else if 0x8000 < ta + n then some (tADDR_FAULT, ta) else none
    match bad with
    | some (c, ta) => s.trap t c ta (s.thr t).pc
    | none =>
      let id := (s.thr t).nextId
      let (ta, n) := area.getD (0, 0)
      let waits := mayWait op fn k
      let s := s.wrReg t o.rd (s.g t o.rd)
      let s := s.pushTxn t { Txn.blank with kind := .unit, op := op, args := fn :: k :: a, rd := o.rd, dst := o.rd, waits := waits,
                                            tack := tackBase (barnOf t) (engOf t) + ta, tackLen := n, ea := (s.thr t).pc }
      let s := s.unitTry t id
      if waits then s else s.nextPc t) s

/-- Has the unit decided that the operation waits (R66, R70, R71)? A Q.GET that its unit still holds has not entered WAIT. -/
def State.inWait (s : State) (t : Nat) (x : Txn) : Bool :=
  x.waits && (x.op != 0x11 || s.brn.qWait.contains (x.args.getD 2 0, t))

/-- UNIT_RESULT (R64, R66): the unit answers: the result word reaches rd and the slot is free. An operation that the unit held is tried
first. An operation that can wait moves the PC only now. -/
def unitResult (t id : Nat) (s : State) : State :=
  let s := match (s.thr t).txn id with
    | some x => if s.inWait t x then s else s.unitTry t id
    | none => s
  match (s.thr t).txn id with
  | none => s
  | some x =>
    match x.res with
    | none => s
    | some (st, v) =>
      let s := (s.dropTxn t id).setG t x.rd (BitVec.ofNat 64 (st + v * 256))
      if x.waits then s.nextPc t else s

/-! ### Waits -/

/-- The wait of a thread, if it is in one. -/
def Thread.waitTxn (th : Thread) : Option Txn := th.txns.find? (fun x => x.kind == .unit && x.waiting)

/-- WAIT_SATISFIED (R70): a frame, or an entry of a queue on which the thread is the first to wait, has arrived. -/
def waitSatisfied (t : Nat) (s : State) : State :=
  match (s.thr t).waitTxn with
  | none => s
  | some x =>
    let a := x.args.drop 2
    let ta (i : Nat) : Nat := tackBase (barnOf t) (engOf t) + a.getD i 0
    if x.op = 0x10 then
      if s.yrdFenced then s
      else match frmGet t (ta 0) s with
        | some (s, h) => s.endWait t x.id 0 h
        | none => s
    else if x.op = 0x11 then
      let q := a.getD 0 0
      if s.qFenced || !s.dramUp || !s.dramIdle cQM || (s.brn.qWait.find? (fun w => w.1 == q)) != some (q, t) then s
      else
        let done (s : State) (st v : Nat) : State :=
          (s.setBrn { s.brn with qWait := s.brn.qWait.filter (fun w => w.2 != t) }).endWait t x.id st v
        match s.qTake q with
        | (s, .got l left) => done (s.wrL (ta 1) l) 0 left
        | (s, .empty) => s
        | (_, .bad) => s
        | (s, .memErr) => done s 0x26 0
    else s

/-- TM_WAIT_END (R71): the domain of a TM.WAIT has reached the time. A change of era, and the loss of the domain, end it with the
command that brings them. -/
def tmWaitEnd (t : Nat) (s : State) : State :=
  match (s.thr t).waitTxn with
  | none => s
  | some x =>
    let n := x.args.getD 1 0
    match timeOperand n (x.args.getD 2 0) (x.args.getD 3 0) with
    | none => s
    | some v => if x.op = 0x12 ∧ s.domOk n ∧ v ≤ (s.dom n).val then s.endWait t x.id 0 0 else s

/-! ### Yield and system instructions (R43, R44, R75, R76) -/

/-- YLD (R75): it yields when RS is g0 or ISSUE_LEFT is below the register. -/
def yld (o : UnOp) (s : State) : State :=
  let t := o.th.val
  issue t { word := encF 0x16 o.rd o.rs 0 o.k.toNat, wf := o.k.toNat == 0, srcs := [o.rs] } (fun s =>
    let yields := o.rs.val = 0 ∨ s.issueLeft t < (s.g t o.rs).toNat
    let s := s.wrReg t o.rd (s.g t o.rd)
    let th := s.thr t
    (s.setThr t { th with yieldRd := some o.rd, st := if yields then 3 else th.st, yieldAt := s.brn.cyc.getD (barnOf t) 0 }).nextPc t) s

/-- YIELD_RESUME (R111): a yielded thread of a paddock without periods goes on after 1,024 cycles. -/
def yieldResume (t : Nat) (s : State) : State :=
  let th := s.thr t
  if th.st = 3 ∧ !s.bf (F.BRN_PAD_MODE_PER_EN (s.padOf t)) ∧ th.yieldAt + 1024 ≤ s.brn.cyc.getD (barnOf t) 0 then
    s.setThr t { th with st := 1 } else s

/-- A special register (R43, R44). -/
def State.special (s : State) (t k : Nat) : Nat :=
  let th := s.thr t
  match k with
  | 0 => t
  | 1 => if s.brn.padWritten then s.padOf t else 0
  | 2 => b2n th.inTrap + 2 * b2n (!th.errs.isEmpty)
  | 3 => th.epc
  | 4 => th.cause
  | 5 => th.tval
  | 6 => th.scratch
  | 7 => if s.brn.padWritten then s.brn.cyc.getD (barnOf t) 0 else 0
  | 8 => th.instret
  | 9 => th.slots
  | _ => s.issueLeft t

/-- SYS.RDS. -/
def sysRds (t rd k : Nat) (s : State) : State :=
  issue t { word := encF 0x17 rd 0 0 k, wf := k ≤ 10, srcs := [] } (fun s => s.retire t rd (BitVec.ofNat 64 (s.special t k))) s

/-- SYS.WRS: s3 to s6 are writable; s4 keeps bits [3:0] (R76). -/
def sysWrs (t rs k : Nat) (s : State) : State :=
  issue t { word := encF 0x17 0 rs 0x100 k, wf := 3 ≤ k && k ≤ 6, srcs := [rs] } (fun s =>
    let v := (s.g t rs).toNat
    let th := s.thr t
    (s.setThr t (match k with
      | 3 => { th with epc := v }
      | 4 => { th with cause := v % 16 }
      | 5 => { th with tval := v }
      | _ => { th with scratch := v })).nextPc t) s

/-- SYS.TRAP: cause SYSCALL; EPC is the next instruction (R38). -/
def sysTrap (t code : Nat) (s : State) : State :=
  issue t { word := encF 0x17 0 0 (0x200 + code) 0, srcs := [] } (fun s => s.trap t tSYSCALL code ((s.thr t).pc + 4)) s

/-- SYS.RET (R76). -/
def sysRet (t : Nat) (s : State) : State :=
  issue t { word := encF 0x17 0 0 0x300 0, wf := (s.thr t).inTrap, srcs := [] } (fun s =>
    let th := s.thr t
    s.setThr t { th with inTrap := false, pc := th.epc / 4 * 4 }) s

/-- DRAIN_COMPLETE (R45): a draining thread's last slot has freed. -/
def drainComplete (t : Nat) (s : State) : State := s.drainEnd t

end Sys2Proof.Machine
end

