-- ==== Sys2Proof/Machine/Jtag.lean ====
section
/-! DEFINITION. Access ports beside PCIe: JTAG (spec/17, R398, R410, R417) and the management port (spec/13, R314); and who may write
registers. -/
namespace Sys2Proof.Machine

/-! ### JTAG (R410, R417) -/

/-- The TAP runs while VIN is above the brown-out threshold and VIO_A is in range (R398). -/
def State.tapOn (s : State) : Bool := !s.gctl.brown && bit (s.reg R.PWR_RAIL_STAT) 0

/-- The pins are those of boundary scan no longer. -/
def State.endExtest (s : State) : State := s.setSec { s.sec with extest := false }

/-- BYPASS: one bit, captured as 0. -/
def jtagBypass (s : State) : State := if s.tapOn then s.endExtest.emit .jtag 0xFF [0] else s

/-- IDCODE. -/
def jtagIdcode (s : State) : State := if s.tapOn then s.endExtest.emit .jtag 1 (leBytes 4 0x17128B4F) else s

/-- SAMPLE/PRELOAD: the boundary register takes the value shifted in. -/
def jtagSample (v : Nat) (s : State) : State := if s.tapOn then s.endExtest.setSec { s.endExtest.sec with bsr := v } else s

/-- EXTEST: the boundary register drives the pins only while RST_N is asserted. -/
def jtagExtest (s : State) : State :=
  if !s.tapOn then s
  else if s.gctl.rstLow.isSome then s.setSec { s.sec with extest := true }
  else jtagBypass s

/-- The access register as it is shifted out: the result of the previous access, with VALID (R410). -/
def State.accessOut (s : State) : List Byte := leBytes 12 (s.sec.jtagData + b2n s.sec.jtagValid * 2 ^ 94)

/-- An access with IR `ir`: the previous result goes out, and `f` gives the new one, where the level suffices; else it acts as
BYPASS. -/
def jtagAccess (ir level : Nat) (f : State → State × Option Nat) (s : State) : State :=
  if !s.tapOn then s
  else if s.dbgLevel < level then jtagBypass s
  else
    let s := s.endExtest.emit .jtag ir s.accessOut
    match f s with
    | (s, some v) => s.setSec { s.sec with jtagData := v, jtagValid := true }
    | (s, none) => s.setSec { s.sec with jtagData := 0, jtagValid := false }

/-- The SEC block of the control space. -/
def inSec (off : Nat) : Bool := 0x40000 ≤ off && off < 0x50000

/-- The read of a control-space address; an offset that holds no register reads 0 (R9). -/
def jtagRead (addr : Nat) (s : State) : State × Option Nat :=
  if addr % 4 ≠ 0 ∨ addr < ctlBase ∨ ctlBase + 0x4000000 ≤ addr then (s, none)
  else ((ctlRead (addr - ctlBase) s).1, some (ctlRead (addr - ctlBase) s).2)

/-- The read of a DIAG_READ: as `jtagRead`, and beside it the recorder window, which lies at the same offset as in BAR2 (log 90). -/
def diagRead (addr : Nat) (s : State) : State × Option Nat :=
  if addr % 4 = 0 ∧ ctlBase + 0x1000000 ≤ addr ∧ addr < ctlBase + 0x1004000 then
    let o := addr - ctlBase - 0x1000000
    ((winRead (o / 0x1000) (o % 0x1000) s).1, some (winRead (o / 0x1000) (o % 0x1000) s).2)
  else jtagRead addr s

/-- A write by JTAG: nothing is written while a cold reset holds the device. -/
def jtagWrite (addr v : Nat) (s : State) : State × Option Nat :=
  if s.gctl.inReset ∨ addr % 4 ≠ 0 ∨ addr < ctlBase ∨ ctlBase + 0x4000000 ≤ addr then (s, none)
  else ((ctlWrite .jtag (addr - ctlBase) v s).irqSync, none)

/-- SEC_ACCESS: limited to the SEC block; SEC runs during a freeze (R417). -/
def jtagSec (write : Bool) (addr v : Nat) : State → State :=
  jtagAccess 0x10 0 (fun s =>
    if addr < ctlBase ∨ !inSec (addr - ctlBase) then (s, none)
    else if write then jtagWrite addr v s else jtagRead addr s)

/-- DIAG_READ. -/
def jtagDiag (addr : Nat) : State → State := jtagAccess 0x11 1 (diagRead addr)

/-- REG_ACCESS: writes are discarded during a freeze (R417). -/
def jtagReg (write : Bool) (addr v : Nat) : State → State :=
  jtagAccess 0x12 2 (fun s => if write then (if s.gctl.frozen then (s, none) else jtagWrite addr v s) else jtagRead addr s)

/-- A memory address that MEM_READ reaches: barn memory, code store, tack, DRAM. -/
def State.memReach (s : State) (a : Nat) : Bool :=
  (barnBase 0 ≤ a && a < barnBase 8 && a % 0x10000000 < 0x80000) || (codeBase ≤ a && a < codeBase + 0x200000) ||
  (tackBase 0 0 ≤ a && a < tackBase 8 0 && a % 0x10000 < 0x8000) || (dramBase ≤ a && a < dramBase + s.usable)

/-- MEM_READ: four bytes of memory; it disturbs nothing, and the session table reads as a free value. -/
def jtagMem (addr : Nat) : State → State :=
  jtagAccess 0x13 2 (fun s => if addr % 4 ≠ 0 ∨ !s.memReach addr then (s, none) else ((s.loadVal addr 4).1, some (s.loadVal addr 4).2))

/-- FRZ_CHAIN: a block's observation chain, only during a freeze; the spec does not list its contents: a free value. -/
def jtagChain (src : Nat) (s : State) : State :=
  if !s.tapOn then s
  else if s.dbgLevel < 2 ∨ !s.gctl.frozen then jtagBypass s
  else s.endExtest.useFree.emit .jtag (0x1400 + src) (leBytes 8 s.freeBits.toNat)

/-- A JTAG command: a port of its own, not stopped by a reset or a freeze. -/
def tap (f : State → State) (s : State) : Host.Outcome State Fault Refusal := .next (f s)

/-! ### Management port (R314) -/

/-- The port is open: the boot ROM has released it and MGMT_EN is 1. -/
def State.mgmtOn (s : State) : Bool := s.bf F.GCTL_BOOT_STAT_DONE && s.bf F.QM_QSPI_CFG_MGMT_EN && s.vioA

/-- A BAR0 offset that the port accepts. -/
def mgmtAddr (a : Nat) : Bool := a % 4 == 0 && a ≤ 0x3FFFFFF

def State.spiErr (s : State) (b : Bool) : State := { s with qm := { s.qm with spiErr := b } }

/-- WRITE. -/
def mgmtWrite (a v : Nat) (s : State) : State :=
  if !s.mgmtOn then s else if mgmtAddr a then ctlWrite .mgmt a v (s.wake 3) else s.spiErr true

/-- READ: 0xA5 and the value, or 0x5A and zeros. -/
def mgmtRead (a : Nat) (s : State) : State :=
  if !s.mgmtOn then s
  else if mgmtAddr a then
    let (s, v) := ctlRead a (s.wake 3)
    s.emit .qspi 1 (0xA5 :: leBytes 4 v)
  else (s.spiErr true).emit .qspi 1 (0x5A :: leBytes 4 0)

/-- STATUS: one byte; no write is ever busy between commands. The read clears ERR. -/
def mgmtStatus (s : State) : State :=
  if !s.mgmtOn then s else (s.emit .qspi 1 (leBytes 1 (2 * b2n s.qm.spiErr))).spiErr false

/-! ### Register accesses -/

/-- Does a write by `w` reach the registers? A thread needs CTL_WR (R33), the management port must be open, JTAG needs level 2. The
boot ROM and the TBU write within their own commands. -/
def State.reaches (s : State) (w : Writer) : Bool :=
  match w with
  | .host => true
  | .mgmt => s.mgmtOn
  | .jtag => s.dbgLevel == 2
  | .thread th => s.ctlWr th
  | .rom => false
  | .tbu => false

/-- An access from outside is an untimed wake event (R386). -/
def wakeBy (w : Writer) (s : State) : State :=
  match w with
  | .host => s.wake 3
  | .mgmt => s.wake 3
  | _ => s

/-- The lowest of four byte enables. -/
def lowBit (be : Nat) : Nat := if bit be 0 then 0 else if bit be 1 then 1 else if bit be 2 then 2 else if bit be 3 then 3 else 0

/-- REGISTER_WRITE (R8, R11): `be` are the byte enables; a write of fewer than four bytes is discarded and reported. -/
def registerWrite (w : Writer) (off v be : Nat) (s : State) : State :=
  if !s.reaches w then s
  else
    let s := wakeBy w s
    let off := off / 4 * 4
    if be = 15 then ctlWrite w off v s else narrowWrite w (off + lowBit be) be s

/-- A debug command by `w` (R413): the ports that reach SEC. -/
def debugBy (w : Writer) (op : Nat) (s : State) : State :=
  if w = .jtag ∨ s.reaches w then dbgCmd w op (wakeBy w s) else s

/-- LO_READ (R8, R175, R312): a host read of the control space that captures; `be` are the byte enables. A narrow read returns the
addressed bytes and does what the 32-bit read does; a read of no bytes does nothing. -/
def loRead (off be : Nat) (s : State) : State :=
  let w := s.wake 3
  let (t, v) := ctlRead (off / 4 * 4) w
  if be = 0 then w.emit .hostRead 0 [] else t.emit .hostRead 0 (rdBytes be v)

/-- CS_DATA_READ (R23). -/
def csDataRead (s : State) : State :=
  let (s, v) := ctlRead R.BRN_CS_DATA s
  s.emit .hostRead 0 (leBytes 4 v)

/-- CONFIGURATION_WRITE (R333, R334): a configuration write shows that the link is up (log 91). -/
def configurationWrite (o : CfgWrite) (s : State) : State :=
  if s.gctl.perst ∨ 3 ≤ s.gf F.PWR_STAT_SH then s
  else
    let s := s.wake 3
    let s := if s.bf F.QM_PCIE_STAT_LINK_UP then s
      else
        let f := s.freeBits.toNat
        s.useFree.sfs [(F.QM_PCIE_STAT_LINK_UP, 1), (F.QM_PCIE_STAT_SPEED, 1 + f % 3), (F.QM_PCIE_STAT_WIDTH, 1 + f / 3 % 2)]
    match o with
    | .bme on => configWrite 0 0 on s
    | .msix on => configWrite 1 0 on s
    | .funcMask on => configWrite 2 0 on s
    | .vecMask v on => configWrite 3 v on s

/-- REG_WR (R139): a due action stores its 32 data bits at the register offset in its argument, as an engine store. -/
def runRegWr (s : State) : State :=
  match s.takeAct 9 with
  | (s, none) => s
  | (s, some a) => ctlWrite .tbu (bits a.arg 25 2 * 4) (bits a.arg 63 32) s

end Sys2Proof.Machine
end

