-- ==== Sys2Proof/Machine/Access.lean ====
section
/-! DEFINITION. What the rows of single registers and pins add to the blocks' own operations: who asks, and the value that a write of one
field composes. -/
namespace Sys2Proof.Machine

/-- A host request on PCIe: an untimed wake event (R386). -/
def hostDoes (f : State → State) (s : State) : State := f (s.wake 3)

/-- PAD_CONFIG_WRITE (R119). -/
def padConfig (p : Nat) (r : PadReg) (v : Nat) (s : State) : State :=
  match r with
  | .mode => padMode p v s
  | .len => padLen p false v s
  | .phase => padLen p true v s

/-- The value of a write of LFT_CTL that changes neither REPLICA nor LOCK: `en` in EN, `res` in RESUME (R147 to R149). -/
def State.lftCtlNow (s : State) (en res : Nat) : Nat := en + 8 * s.gf F.LFT_CTL_REPLICA + 16 * res

/-- The value of a write of ZTT_CTL that changes neither START_MODE nor LOCK: `en` in EN, `sw` in SWITCH, `mode` in NEXT_MODE (R298, R299). -/
def State.zttCtlNow (s : State) (en sw mode : Nat) : Nat := en + 16 * sw + 256 * mode + 4096 * s.gf F.ZTT_CTL_START_MODE

/-- LFT_RESET_END (R171). -/
def lftResetEnd (s : State) : State := if s.bf F.LFT_STAT_RST_BUSY then s.lftResetDone else s

/-- PIN_CHANGE (R213). -/
def pinChange (o : PinOp) (s : State) : State :=
  match o with
  | .pin k v => pinWrite false k v.toNat s
  | .group k v => pinWrite true k v.toNat s

/-- STEPDOWN (R266): a write is discarded in the safe state, like every write. -/
def stepdownBy (r : StepReason) (s : State) : State :=
  match r with
  | .write => wr (stepdown .write) s
  | .request => stepdown .request s
  | .shed => stepdown .shed s

/-- VOX_LINK_UP (R275); the boot ROM that waits for its partner asks for the image (R402). -/
def voxUp (l lanes peer : Nat) (s : State) : State :=
  let s' := voxLinkUp l lanes peer s
  if l = 0 then s'.twinLink else s'

/-- FUNCTION_RESET (R313). -/
def functionReset (k : FrKind) (s : State) : State :=
  match k with
  | .flr => s.functionEnd 0
  | .hotReset => s.functionEnd 1
  | .linkFall => s.functionEnd 2

/-- PE_PERST_N changes while a cold reset or a freeze holds the device: the level alone. -/
def perstLevel (low : Bool) (s : State) : State := { s with gctl := { s.gctl with perst := low } }

/-- RAIL_CHANGE while a cold reset or a freeze holds the device: the levels alone. -/
def railLevels (good : Nat) (a33 b25 : Bool) (s : State) : State :=
  s.sfs [(F.PWR_RAIL_STAT_GOOD, good), (F.PWR_RAIL_STAT_VIO_A_33, b2n a33), (F.PWR_RAIL_STAT_VIO_B_25, b2n b25)]

/-- A command of SAX: sessions that became due are brought up to date first. -/
def saxRun (f : State → State) (s : State) : State := f (saxSync s)

/-- Does a write of GCTL_RST_CTL or SEC_FUSE_CMD by `w` arrive? Those registers themselves judge a thread and JTAG (R395, R419). -/
def State.asks (s : State) (w : Writer) : Bool :=
  match w with
  | .thread _ => true
  | .jtag => true
  | w => s.reaches w

/-- A write of GCTL_RST_CTL by `w` (R395): JTAG's need level 2 (R410). -/
def rstBy (w : Writer) (v : Nat) (s : State) : State :=
  if !s.asks w ∨ (w = .jtag ∧ s.dbgLevel ≠ 2) then s else rstCtl (w.mayControl s) v (wakeBy w s)

/-- A write of SEC_FUSE_CMD by `w` (R419). -/
def fuseBy (w : Writer) (v : Nat) (s : State) : State := if s.asks w then fuseCmd w v (wakeBy w s) else s

/-- An event of SEC, which runs during a freeze also (R417). -/
def secRuns (f : State → State) (s : State) : Host.Outcome State Fault Refusal := if s.gctl.frozen then .next (f s) else live s f

end Sys2Proof.Machine

namespace Sys2Proof
open Machine

/-- The number of a pair in the QM's table. -/
def PairId.index (q : PairId) : Nat :=
  match q with
  | .pair i => i
  | .admin => admPair

end Sys2Proof
end

