-- ==== Sys2Proof/Machine/RowsBarn.lean ====
section
/-! DEFINITION. Meanings of the thread, barn, code store, paddock and DRAM commands. -/
namespace Sys2Proof.Machine

/-- THREAD_RUN (R45): Write of RUN = 1 starts a STOPPED thread. -/
def execThreadRun (b : Fin 8) (e : Fin 16) (t : Fin 4) (pad : Fin 32) (s : State) : Host.Outcome State Fault Refusal :=
  live s (wr (threadRun (thrIdx b e t) pad))

/-- THREAD_STOP (R45): Write of RUN = 0 moves a thread to DRAIN. -/
def execThreadStop (b : Fin 8) (e : Fin 16) (t : Fin 4) (pad : Fin 32) (s : State) : Host.Outcome State Fault Refusal :=
  live s (wr (threadStop (thrIdx b e t) pad))

/-- DRAIN_COMPLETE (R45): A draining thread's last slot frees and it becomes STOPPED. -/
def execDrainComplete (th : Fin 512) (s : State) : Host.Outcome State Fault Refusal :=
  live s (drainComplete th)

/-- THREAD_PC_WRITE (R46): Write of BRN_THR_PC, discarded unless STOPPED. -/
def execThreadPcWrite (b : Fin 8) (e : Fin 16) (t : Fin 4) (v : BitVec 32) (s : State) : Host.Outcome State Fault Refusal :=
  live s (wr (threadPc (thrIdx b e t) v.toNat))

/-- BARN_RESET (R50): Block reset of a barn starts. -/
def execBarnReset (b : Fin 8) (s : State) : Host.Outcome State Fault Refusal :=
  live s (wr (barnReset b))

/-- BARN_RESET_END (R50): Barn block reset ends after 256 cycles. -/
def execBarnResetEnd (b : Fin 8) (s : State) : Host.Outcome State Fault Refusal :=
  live s (barnResetEnd b)

/-- CS_DATA_WRITE (R29): Write a code-store word through BRN_CS_DATA and advance ADDR. -/
def execCsDataWrite (v : BitVec 32) (s : State) : Host.Outcome State Fault Refusal :=
  live s (wr (csWrite v.toNat))

/-- CS_DATA_READ (R23): Read of BRN_CS_DATA, accounting code-store ECC errors to barn 0. -/
def execCsDataRead (s : State) : Host.Outcome State Fault Refusal :=
  live s (csDataRead)

/-- ICINV (R444): Start invalidation of all instruction caches. -/
def execIcinv (s : State) : Host.Outcome State Fault Refusal :=
  live s (wr (icInv))

/-- ICINV_DONE (R444): Invalidation run ends, repeating once if requested meanwhile. -/
def execIcinvDone (s : State) : Host.Outcome State Fault Refusal :=
  live s (icInvDone)

/-- PERIOD_BOUNDARY (R109): Paddock period boundary refills counters and releases held threads. -/
def execPeriodBoundary (p : Fin 32) (s : State) : Host.Outcome State Fault Refusal :=
  live s (periodBoundary p)

/-- FALLBACK_BOUNDARY (R110): Fallback period in domain 0 ends with a refill. -/
def execFallbackBoundary (p : Fin 32) (s : State) : Host.Outcome State Fault Refusal :=
  live s (fallbackBoundary p)

/-- PER_EN_SET (R109): PER_EN from 0 to 1 loads counters and starts periods. -/
def execPerEnSet (p : Fin 32) (v : BitVec 32) (s : State) : Host.Outcome State Fault Refusal :=
  live s (wr (padMode p (setBits v.toNat 0 0 1)))

/-- PER_EN_CLEAR (R111): PER_EN from 1 to 0 ends periods and releases yielded threads. -/
def execPerEnClear (p : Fin 32) (v : BitVec 32) (s : State) : Host.Outcome State Fault Refusal :=
  live s (wr (padMode p (setBits v.toNat 0 0 0)))

/-- PAD_CONFIG_WRITE (R119): Write of paddock mode, length or phase with discard checks. -/
def execPadConfigWrite (p : Fin 32) (r : PadReg) (v : BitVec 32) (s : State) : Host.Outcome State Fault Refusal :=
  live s (wr (padConfig p r v.toNat))

/-- PRIV_LATE (R116): A privileged request waits beyond PRIV_WAIT_MAX. -/
def execPrivLate (th : Fin 512) (s : State) : Host.Outcome State Fault Refusal :=
  live s (privLate th)

/-- DRAM_GRANT (R115): Memory-path arbiters grant one 64-byte DRAM transfer. -/
def execDramGrant (l : DramLeaf) (s : State) : Host.Outcome State Fault Refusal :=
  live s (dramGrant l)

/-- SCRUB (R440): Scrubber patrols a DRAM word. -/
def execScrub (off : BitVec 32) (s : State) : Host.Outcome State Fault Refusal :=
  live s (scrub off.toNat)

end Sys2Proof.Machine
end

