-- ==== Sys2Proof/Machine/RowsBoot.lean ====
section
/-! DEFINITION. Meanings of the commands of reset, boot, debug access, fuses, JTAG and plain register accesses. -/
namespace Sys2Proof.Machine

/-- RST_N (R397): RST_N assertion starts a cold reset. -/
def execRstN (low : Bool) (s : State) : Host.Outcome State Fault Refusal :=
  match rstPin low s with | some s' => finish s' | none => .fault .rstHeldTooShort

/-- RESET_RELEASE (R397): Internal reset released 100 µs after its conditions. -/
def execResetRelease (bootSel : BitVec 2) (twinRole : Bool) (s : State) : Host.Outcome State Fault Refusal :=
  finish (resetRelease bootSel.toNat twinRole s)

/-- COLD (R395): GCTL_RST_CTL cold reset request. -/
def execCold (w : Writer) (v : BitVec 32) (s : State) : Host.Outcome State Fault Refusal :=
  live s (rstBy w (setBits v.toNat 1 1 1))

/-- WARM (R395): GCTL_RST_CTL warm reset request. -/
def execWarm (w : Writer) (v : BitVec 32) (s : State) : Host.Outcome State Fault Refusal :=
  live s (rstBy w (setBits (setBits v.toNat 1 1 0) 0 0 1))

/-- WARM_RELOAD (R401): Boot ROM repeats steps 6 to 9 on the staged image. -/
def execWarmReload (s : State) : Host.Outcome State Fault Refusal :=
  live s (warmReload)

/-- BOOT (R400): Boot ROM runs its sequence after cold reset. -/
def execBoot (s : State) : Host.Outcome State Fault Refusal :=
  live s (bootRom)

/-- IMAGE_FETCHED (R400): Image arrives and is verified, loaded and started. -/
def execImageFetched (l : List Byte) (s : State) : Host.Outcome State Fault Refusal :=
  live s (imageFetched l)

/-- GO (R402): Host starts verification of a written image. -/
def execGo (v : BitVec 32) (s : State) : Host.Outcome State Fault Refusal :=
  live s (wr (hostDoes (bootGo (setBits v.toNat 31 31 1))))

/-- TWIN_BOOT_RETRY (R402): Twin boot retries after a timeout or failure. -/
def execTwinBootRetry (s : State) : Host.Outcome State Fault Refusal :=
  live s (twinBootRetry)

/-- TWIN_IMAGE_REQUEST (R402): Partner serves a class-5 image request. -/
def execTwinImageRequest (s : State) : Host.Outcome State Fault Refusal :=
  live s (twinImageRequest)

/-- PASSWORD (R411): Open debug level 1 by password. -/
def execPassword (w : Writer) (s : State) : Host.Outcome State Fault Refusal :=
  live s (wr (debugBy w 1))

/-- CHALLENGE (R412): Draw a debug nonce. -/
def execChallenge (w : Writer) (s : State) : Host.Outcome State Fault Refusal :=
  live s (wr (debugBy w 2))

/-- RESPONSE (R412): Open debug level 2 by response. -/
def execResponse (w : Writer) (s : State) : Host.Outcome State Fault Refusal :=
  live s (wr (debugBy w 3))

/-- DEBUG_CLOSE (R415): Close debug to level 0. -/
def execDebugClose (w : Writer) (s : State) : Host.Outcome State Fault Refusal :=
  live s (wr (debugBy w 4))

/-- NONCE_EXPIRE (R412): A nonce's 60 s validity ends. -/
def execNonceExpire (s : State) : Host.Outcome State Fault Refusal :=
  secRuns nonceExpire s

/-- FREEZE (R416): FRZ_N assertion stops the device in place. -/
def execFreeze (low : Bool) (s : State) : Host.Outcome State Fault Refusal :=
  finish (freezePin low s)

/-- IDCODE (R410): JTAG IDCODE instruction. -/
def execIdcode (s : State) : Host.Outcome State Fault Refusal :=
  tap jtagIdcode s

/-- SAMPLE_PRELOAD (R410): JTAG SAMPLE/PRELOAD instruction. -/
def execSamplePreload (v : Nat) (s : State) : Host.Outcome State Fault Refusal :=
  tap (jtagSample v) s

/-- EXTEST (R410): JTAG EXTEST instruction. -/
def execExtest (s : State) : Host.Outcome State Fault Refusal :=
  tap jtagExtest s

/-- SEC_ACCESS (R410): JTAG access to the SEC block. -/
def execSecAccess (write : Bool) (addr : BitVec 48) (v : BitVec 32) (s : State) : Host.Outcome State Fault Refusal :=
  tap (jtagSec write addr.toNat v.toNat) s

/-- DIAG_READ (R410): JTAG read-only control-space access. -/
def execDiagRead (addr : BitVec 48) (s : State) : Host.Outcome State Fault Refusal :=
  tap (jtagDiag addr.toNat) s

/-- REG_ACCESS (R410): JTAG read and write control-space access. -/
def execRegAccess (write : Bool) (addr : BitVec 48) (v : BitVec 32) (s : State) : Host.Outcome State Fault Refusal :=
  tap (jtagReg write addr.toNat v.toNat) s

/-- MEM_READ (R417): JTAG memory read. -/
def execMemRead (addr : BitVec 48) (s : State) : Host.Outcome State Fault Refusal :=
  tap (jtagMem addr.toNat) s

/-- FRZ_CHAIN (R417): Shift a block's observation chain during a freeze. -/
def execFrzChain (src : BitVec 8) (s : State) : Host.Outcome State Fault Refusal :=
  tap (jtagChain src.toNat) s

/-- BYPASS (R410): JTAG BYPASS instruction. -/
def execBypass (s : State) : Host.Outcome State Fault Refusal :=
  tap jtagBypass s

/-- SVN_EN (R419): Program the minimum SVN fuse. -/
def execSvnEn (w : Writer) (v : BitVec 32) (s : State) : Host.Outcome State Fault Refusal :=
  live s (wr (fuseBy w (setBits v.toNat 6 6 1)))

/-- REVOKE (R419): Revoke key slots by fuse. -/
def execRevoke (w : Writer) (v : BitVec 32) (s : State) : Host.Outcome State Fault Refusal :=
  live s (wr (fuseBy w (setBits v.toNat 6 6 0)))

/-- FUSE_DONE (R419): Fuse programming ends and reports. -/
def execFuseDone (ok : Bool) (s : State) : Host.Outcome State Fault Refusal :=
  secRuns (fuseDone ok) s

/-- REGISTER_WRITE (R11): Write to a register without a row of its own. -/
def execRegisterWrite (w : Writer) (off : BitVec 26) (v : BitVec 32) (be : BitVec 4) (s : State) : Host.Outcome State Fault Refusal :=
  live s (registerWrite w off.toNat v.toNat be.toNat)

/-- LO_READ (R175): A read of an _LO register, or of ZTT_REF_W word 0, captures the upper bits that the matching _HI register then returns. -/
def execLoRead (o : ReadOp) (s : State) : Host.Outcome State Fault Refusal :=
  live s (loRead o.off.toNat o.be.toNat)

/-- DEBUG_WAIT_END (R414): The debug back-off wait after a failure runs out, so SEC_STAT.BACKOFF clears and attempts are judged again. -/
def execDebugWaitEnd (s : State) : Host.Outcome State Fault Refusal :=
  secRuns debugWaitEnd s

/-- STAGING_WRITE (R402): While the boot ROM waits in WAIT_HOST, a host write to BAR2 offsets 0x000_0000 to 0x0FF_FFFF lands in the DRAM staging region. -/
def execStagingWrite (off : BitVec 24) (l : List Byte) (s : State) : Host.Outcome State Fault Refusal :=
  live s (hostDoes (stagingWrite off.toNat l))

end Sys2Proof.Machine
end

