-- ==== Sys2Proof/Machine/RowsEngine.lean ====
section
/-! DEFINITION. Meanings of the engine's memory, fence, unit, yield and system instructions, and of what completes them. -/
namespace Sys2Proof.Machine

/-- LB (R61): Load a sign-extended byte, relaxed or acquire. -/
def execLb (o : LdOp) (s : State) : Host.Outcome State Fault Refusal :=
  live s (load 0 false o)

/-- LH (R61): Load a sign-extended halfword. -/
def execLh (o : LdOp) (s : State) : Host.Outcome State Fault Refusal :=
  live s (load 1 false o)

/-- LW (R61): Load a sign-extended word. -/
def execLw (o : LdOp) (s : State) : Host.Outcome State Fault Refusal :=
  live s (load 2 false o)

/-- LD (R61): Load a doubleword. -/
def execLd (o : LdOp) (s : State) : Host.Outcome State Fault Refusal :=
  live s (load 3 false o)

/-- LBU (R61): Load a zero-extended byte. -/
def execLbu (o : LdOp) (s : State) : Host.Outcome State Fault Refusal :=
  live s (load 0 true o)

/-- LHU (R61): Load a zero-extended halfword. -/
def execLhu (o : LdOp) (s : State) : Host.Outcome State Fault Refusal :=
  live s (load 1 true o)

/-- LWU (R61): Load a zero-extended word. -/
def execLwu (o : LdOp) (s : State) : Host.Outcome State Fault Refusal :=
  live s (load 2 true o)

/-- SB (R61): Store a byte, relaxed or release. -/
def execSb (o : StOp) (s : State) : Host.Outcome State Fault Refusal :=
  live s (store 0 o)

/-- SH (R61): Store a halfword. -/
def execSh (o : StOp) (s : State) : Host.Outcome State Fault Refusal :=
  live s (store 1 o)

/-- SW (R61): Store a word. -/
def execSw (o : StOp) (s : State) : Host.Outcome State Fault Refusal :=
  live s (store 2 o)

/-- SD (R61): Store a doubleword. -/
def execSd (o : StOp) (s : State) : Host.Outcome State Fault Refusal :=
  live s (store 3 o)

/-- AMOADD (R62): Atomic add returning the old value. -/
def execAmoadd (o : AmoOp) (s : State) : Host.Outcome State Fault Refusal :=
  live s (atomic 0 o)

/-- AMOSWAP (R62): Atomic swap returning the old value. -/
def execAmoswap (o : AmoOp) (s : State) : Host.Outcome State Fault Refusal :=
  live s (atomic 1 o)

/-- AMOCAS (R62): Atomic compare-and-swap against rd. -/
def execAmocas (o : AmoOp) (s : State) : Host.Outcome State Fault Refusal :=
  live s (atomic 2 o)

/-- AMOMIN (R62): Atomic signed minimum. -/
def execAmomin (o : AmoOp) (s : State) : Host.Outcome State Fault Refusal :=
  live s (atomic 3 o)

/-- AMOMAX (R62): Atomic signed maximum. -/
def execAmomax (o : AmoOp) (s : State) : Host.Outcome State Fault Refusal :=
  live s (atomic 4 o)

/-- AMOMINU (R62): Atomic unsigned minimum. -/
def execAmominu (o : AmoOp) (s : State) : Host.Outcome State Fault Refusal :=
  live s (atomic 5 o)

/-- AMOMAXU (R62): Atomic unsigned maximum. -/
def execAmomaxu (o : AmoOp) (s : State) : Host.Outcome State Fault Refusal :=
  live s (atomic 6 o)

/-- LOAD_COMPLETE (R37): Data of a load or atomic returns, freeing its slot and readying rd. -/
def execLoadComplete (x : TxnRef) (ok : Bool) (s : State) : Host.Outcome State Fault Refusal :=
  live s (loadComplete x.th x.id ok)

/-- STORE_ACCEPT (R37): Target accepts a store, freeing its slot. -/
def execStoreAccept (x : TxnRef) (s : State) : Host.Outcome State Fault Refusal :=
  live s (storeAccept x.th x.id)

/-- FENCE (R87): Memory fence holding later accesses per mask. -/
def execFence (o : FenceOp) (s : State) : Host.Outcome State Fault Refusal :=
  live s (fence o.th 0 o.mask.toNat)

/-- FENCE_IO (R90): Fence that also orders control-space accesses and unit operations. -/
def execFenceIo (o : FenceOp) (s : State) : Host.Outcome State Fault Refusal :=
  live s (fence o.th 1 o.mask.toNat)

/-- FENCE_FRM (R91): Wait until earlier FRM and SX operations have taken effect. -/
def execFenceFrm (th : Fin 512) (s : State) : Host.Outcome State Fault Refusal :=
  live s (fence th 2 0)

/-- FENCE_LOFT (R91): Wait until earlier LTX operations are ordered by LFT. -/
def execFenceLoft (th : Fin 512) (s : State) : Host.Outcome State Fault Refusal :=
  live s (fence th 3 0)

/-- FENCE_COMPLETE (R88): A waiting fence's condition clears and later instructions issue. -/
def execFenceComplete (x : TxnRef) (s : State) : Host.Outcome State Fault Refusal :=
  live s (fenceComplete x.th x.id)

/-- FRM_GET (R66): Take the oldest P8 frame for the thread, optionally waiting. -/
def execFrmGet (o : UnOp) (s : State) : Host.Outcome State Fault Refusal :=
  live s (unitOp 0x10 0 o)

/-- FRM_NEW (R205): Allocate cells for a new frame. -/
def execFrmNew (o : UnOp) (s : State) : Host.Outcome State Fault Refusal :=
  live s (unitOp 0x10 1 o)

/-- FRM_HDR (R64): Return up to 6 frame bytes at an offset. -/
def execFrmHdr (o : UnOp) (s : State) : Host.Outcome State Fault Refusal :=
  live s (unitOp 0x10 2 o)

/-- FRM_LD (R64): Copy frame bytes to tack. -/
def execFrmLd (o : UnOp) (s : State) : Host.Outcome State Fault Refusal :=
  live s (unitOp 0x10 3 o)

/-- FRM_ST (R64): Copy tack bytes into the frame. -/
def execFrmSt (o : UnOp) (s : State) : Host.Outcome State Fault Refusal :=
  live s (unitOp 0x10 4 o)

/-- FRM_PUT (R68): Queue a frame for transmission and release the handle. -/
def execFrmPut (o : UnOp) (s : State) : Host.Outcome State Fault Refusal :=
  live s (unitOp 0x10 5 o)

/-- FRM_DROP (R64): Release a frame's cells. -/
def execFrmDrop (o : UnOp) (s : State) : Host.Outcome State Fault Refusal :=
  live s (unitOp 0x10 6 o)

/-- FRM_TS (R197): Read and optionally release a transmit stamp entry. -/
def execFrmTs (o : UnOp) (s : State) : Host.Outcome State Fault Refusal :=
  live s (unitOp 0x10 7 o)

/-- Q_GET (R70): Remove the oldest queue entry to tack, optionally waiting. -/
def execQGet (o : UnOp) (s : State) : Host.Outcome State Fault Refusal :=
  live s (unitOp 0x11 0 o)

/-- Q_PUT (R329): Append one entry from tack to a queue. -/
def execQPut (o : UnOp) (s : State) : Host.Outcome State Fault Refusal :=
  live s (unitOp 0x11 1 o)

/-- Q_SIG (R330): Append an 8-byte event to an event queue. -/
def execQSig (o : UnOp) (s : State) : Host.Outcome State Fault Refusal :=
  live s (unitOp 0x11 2 o)

/-- WAIT_SATISFIED (R70): A frame or entry arrives for a thread waiting in FRM.GET or Q.GET. -/
def execWaitSatisfied (th : Fin 512) (s : State) : Host.Outcome State Fault Refusal :=
  live s (waitSatisfied th)

/-- TM_RD (R131): Write the domain's current value as a stamp record. -/
def execTmRd (o : UnOp) (s : State) : Host.Outcome State Fault Refusal :=
  live s (unitOp 0x12 0 o)

/-- TM_SCHED (R137): Enter a scheduled action after checks. -/
def execTmSched (o : UnOp) (s : State) : Host.Outcome State Fault Refusal :=
  live s (unitOp 0x12 1 o)

/-- TM_WAIT (R71): Wait until a domain reaches a time. -/
def execTmWait (o : UnOp) (s : State) : Host.Outcome State Fault Refusal :=
  live s (unitOp 0x12 2 o)

/-- TM_WAIT_END (R71): A time wait ends with OK, ERA or UNLOCKED. -/
def execTmWaitEnd (th : Fin 512) (s : State) : Host.Outcome State Fault Refusal :=
  live s (tmWaitEnd th)

/-- TM_CAN (R138): Withdraw a pending scheduled action. -/
def execTmCan (o : UnOp) (s : State) : Host.Outcome State Fault Refusal :=
  live s (unitOp 0x12 3 o)

/-- LTX_OPEN (R149): Open a loft transaction. -/
def execLtxOpen (o : UnOp) (s : State) : Host.Outcome State Fault Refusal :=
  live s (unitOp 0x13 0 o)

/-- LTX_PUT (R150): Stage a put in a transaction. -/
def execLtxPut (o : UnOp) (s : State) : Host.Outcome State Fault Refusal :=
  live s (unitOp 0x13 1 o)

/-- LTX_CPUT (R150): Stage a compare-and-put in a transaction. -/
def execLtxCput (o : UnOp) (s : State) : Host.Outcome State Fault Refusal :=
  live s (unitOp 0x13 2 o)

/-- LTX_COMMIT (R151): Order a commit, evaluate compares and assign its epoch. -/
def execLtxCommit (o : UnOp) (s : State) : Host.Outcome State Fault Refusal :=
  live s (unitOp 0x13 3 o)

/-- LTX_ABORT (R72): Discard a transaction. -/
def execLtxAbort (o : UnOp) (s : State) : Host.Outcome State Fault Refusal :=
  live s (unitOp 0x13 4 o)

/-- LTX_PIN (R160): Pin the newest sealed epoch with a lease. -/
def execLtxPin (o : UnOp) (s : State) : Host.Outcome State Fault Refusal :=
  live s (unitOp 0x13 5 o)

/-- LTX_GET (R161): Read a point's version as of the pinned epoch. -/
def execLtxGet (o : UnOp) (s : State) : Host.Outcome State Fault Refusal :=
  live s (unitOp 0x13 6 o)

/-- LTX_UNPIN (R163): Release a pin. -/
def execLtxUnpin (o : UnOp) (s : State) : Host.Outcome State Fault Refusal :=
  live s (unitOp 0x13 7 o)

/-- SX_RX (R342): Police, authenticate and decrypt a received record. -/
def execSxRx (o : UnOp) (s : State) : Host.Outcome State Fault Refusal :=
  live s (unitOp 0x14 0 o)

/-- SX_TX (R344): Protect a record for transmission. -/
def execSxTx (o : UnOp) (s : State) : Host.Outcome State Fault Refusal :=
  live s (unitOp 0x14 1 o)

/-- SX_KEY (R340): Apply INIT, RX, TX, POLICER, CLOSE or FWSTATE to a session. -/
def execSxKey (o : UnOp) (s : State) : Host.Outcome State Fault Refusal :=
  live s (unitOp 0x14 2 o)

/-- SX_KA (R347): Re-arm a session's keepalive timer. -/
def execSxKa (o : UnOp) (s : State) : Host.Outcome State Fault Refusal :=
  live s (unitOp 0x14 3 o)

/-- EV_LOG (R374): Log a firmware event record. -/
def execEvLog (o : UnOp) (s : State) : Host.Outcome State Fault Refusal :=
  live s (unitOp 0x15 0 o)

/-- UNIT_RESULT (R64): A unit answers and writes the result word to rd. -/
def execUnitResult (x : TxnRef) (s : State) : Host.Outcome State Fault Refusal :=
  live s (unitResult x.th x.id)

/-- YLD (R75): Yield until the paddock's next period when budget is short. -/
def execYld (o : UnOp) (s : State) : Host.Outcome State Fault Refusal :=
  live s (yld o)

/-- YIELD_RESUME (R111): A yielded thread in a paddock without periods resumes after 1,024 cycles. -/
def execYieldResume (th : Fin 512) (s : State) : Host.Outcome State Fault Refusal :=
  live s (yieldResume th)

/-- SYS_RDS (R43): Read a special register. -/
def execSysRds (th : Fin 512) (rd : Fin 32) (k : Fin 64) (s : State) : Host.Outcome State Fault Refusal :=
  live s (sysRds th rd k)

/-- SYS_WRS (R76): Write a special register. -/
def execSysWrs (th : Fin 512) (rs : Fin 32) (k : Fin 64) (s : State) : Host.Outcome State Fault Refusal :=
  live s (sysWrs th rs k)

/-- SYS_TRAP (R76): Raise trap cause SYSCALL. -/
def execSysTrap (th : Fin 512) (code : BitVec 8) (s : State) : Host.Outcome State Fault Refusal :=
  live s (sysTrap th code.toNat)

/-- SYS_RET (R76): Return from a trap handler. -/
def execSysRet (th : Fin 512) (s : State) : Host.Outcome State Fault Refusal :=
  live s (sysRet th)

/-- LOAD_ERROR (R40): A failed load is delivered when its register is read or a fence orders it. -/
def execLoadError (x : TxnRef) (s : State) : Host.Outcome State Fault Refusal :=
  live s (loadError x.th x.id)

end Sys2Proof.Machine
end

