-- ==== Sys2Proof/Machine/RowsFault.lean ====
section
/-! DEFINITION. Meanings of the commands of the fault control unit, the event recorder and the supply. -/
namespace Sys2Proof.Machine

/-- FAULT_MESSAGE (R356): FCU takes a fault message and counts it. -/
def execFaultMessage (s : State) : Host.Outcome State Fault Refusal :=
  live s (takeFault)

/-- FAULT_REACTION (R358): Reactions start eight cycles after the take. -/
def execFaultReaction (s : State) : Host.Outcome State Fault Refusal :=
  live s (faultReaction)

/-- FENCE_LIFT (R359): Write of FCU_FENCE lifts fences without evidence. -/
def execFenceLift (w : Fin 2) (v : BitVec 32) (s : State) : Host.Outcome State Fault Refusal :=
  live s (wr (fenceLift w v.toNat))

/-- FENCE_SET (R359): Software fences a source. -/
def execFenceSet (w : Fin 2) (v : BitVec 32) (s : State) : Host.Outcome State Fault Refusal :=
  live s (wr (fenceSet w v.toNat))

/-- FORCE (R364): Inject a fault at a source. -/
def execForce (src : BitVec 6) (v : BitVec 32) (s : State) : Host.Outcome State Fault Refusal :=
  live s (wr (forceWrite src.toNat v.toNat))

/-- FW_RAISE (R364): Raise a FW fault with a detail. -/
def execFwRaise (v : BitVec 32) (s : State) : Host.Outcome State Fault Refusal :=
  live s (wr (fwRaise v.toNat))

/-- SAFE (R366): Write of FCU_CTL.SAFE enters the safe state. -/
def execSafe (s : State) : Host.Outcome State Fault Refusal :=
  live s (wr (fcuCtl 1))

/-- PARITY_FAILURE (R367): Periodic check finds an FCU register parity failure. -/
def execParityFailure (off : BitVec 26) (s : State) : Host.Outcome State Fault Refusal :=
  live s (parityFailure off.toNat)

/-- ERR_PULSE_END (R365): An ERR_N pulse ends. -/
def execErrPulseEnd (s : State) : Host.Outcome State Fault Refusal :=
  live s (pulseEndStep)

/-- HOLD (R365): Write of FCU_ERR_CTL.HOLD. -/
def execHold (v : Bool) (s : State) : Host.Outcome State Fault Refusal :=
  live s (holdWrite v)

/-- CASCADE_TAIL_END (R362): Cascade interval after a block reset ends. -/
def execCascadeTailEnd (src : BitVec 6) (s : State) : Host.Outcome State Fault Refusal :=
  live s (tailEnd src.toNat)

/-- EVENT_RECORD (R373): EVR accepts a record and assigns its sequence. -/
def execEventRecord (s : State) : Host.Outcome State Fault Refusal :=
  live s (acceptNext)

/-- RATE_WINDOW (R373): A rate-limit window ends. -/
def execRateWindow (s : State) : Host.Outcome State Fault Refusal :=
  live s (rateWindow)

/-- SPILL_WRITE (R375): A record is copied to the DRAM spill ring. -/
def execSpillWrite (s : State) : Host.Outcome State Fault Refusal :=
  live s (spillWrite)

/-- SPILL_GAP (R375): Spill resumes and records missing records. -/
def execSpillGap (s : State) : Host.Outcome State Fault Refusal :=
  live s (spillGap)

/-- SPILL_ENABLE (R376): EVR_SPILL_CTL.EN = 1 with placement checks. -/
def execSpillEnable (v : BitVec 32) (s : State) : Host.Outcome State Fault Refusal :=
  live s (wr (spillCtl (setBits v.toNat 31 31 1)))

/-- RECORDER_MEM_FAULT (R377): On-chip record memory error switches to the reserve. -/
def execRecorderMemFault (slot : Fin 8192) (word : Fin 8) (s : State) : Host.Outcome State Fault Refusal :=
  live s (memFault slot word)

/-- CURSOR_READ (R379): Read of the RA word advances the cursor. -/
def execCursorRead (o : CurOp) (s : State) : Host.Outcome State Fault Refusal :=
  live s (hostDoes (curRead o.cur o.read))

/-- ADV (R378): Advance a cursor by one. -/
def execAdv (c : Fin 4) (s : State) : Host.Outcome State Fault Refusal :=
  live s (curAdv c)

/-- SEEK_OLDEST (R378): Move a cursor to the tail. -/
def execSeekOldest (c : Fin 4) (s : State) : Host.Outcome State Fault Refusal :=
  live s (curOldest c)

/-- SEEK_HEAD (R378): Move a cursor to the head. -/
def execSeekHead (c : Fin 4) (s : State) : Host.Outcome State Fault Refusal :=
  live s (curHead c)

/-- EVR_BLOCK_RESET (R380): EVR block reset discards on-chip records and tests memory. -/
def execEvrBlockReset (s : State) : Host.Outcome State Fault Refusal :=
  live s (wr (evrReset))

/-- MEMORY_TEST_DONE (R380): EVR memory test ends, clearing or keeping RESERVE. -/
def execMemoryTestDone (pass : Bool) (s : State) : Host.Outcome State Fault Refusal :=
  live s (testDone pass)

/-- RETENTION_CLR (R377): Empty the retention reserve. -/
def execRetentionClr (s : State) : Host.Outcome State Fault Refusal :=
  live s (wr (retClear))

/-- PSTATE_EVALUATE (R385): PWR re-evaluates and enters a power state. -/
def execPstateEvaluate (s : State) : Host.Outcome State Fault Refusal :=
  live s (pstateEvaluate)

/-- TIMED_WAKE (R385): Wake starts ahead of a timed wake event. -/
def execTimedWake (s : State) : Host.Outcome State Fault Refusal :=
  live s (timedWake)

/-- UNTIMED_WAKE (R386): An untimed wake event moves the device to PS0. -/
def execUntimedWake (c : WakeCause) (s : State) : Host.Outcome State Fault Refusal :=
  live s (untimedWake c)

/-- WAKE_DONE (R386): A wake completes and the event is served. -/
def execWakeDone (s : State) : Host.Outcome State Fault Refusal :=
  live s (wakeDone)

/-- SHED_ENTER (R390): Confirmed VIN fall enters the next shed level. -/
def execShedEnter (vin : BitVec 13) (s : State) : Host.Outcome State Fault Refusal :=
  live s (shedEnter vin.toNat)

/-- SHED_EXIT (R390): VIN held above a rising threshold returns one level. -/
def execShedExit (vin : BitVec 13) (s : State) : Host.Outcome State Fault Refusal :=
  live s (shedExit vin.toNat)

/-- SHED_SEALED (R170): SH2 seal is durable and DRAM enters self-refresh. -/
def execShedSealed (s : State) : Host.Outcome State Fault Refusal :=
  live s (shedSealed)

/-- SUPPLY_LOST (R391): SH4 entry stops the device in order. -/
def execSupplyLost (vin : BitVec 13) (s : State) : Host.Outcome State Fault Refusal :=
  live s (supplyLost vin.toNat)

/-- SH4_RECOVERY (R391): VIN above the SH1 rising threshold for 10 ms gives a cold reset. -/
def execSh4Recovery (vin : BitVec 13) (s : State) : Host.Outcome State Fault Refusal :=
  live s (sh4Recovery vin.toNat)

/-- BROWN_OUT (R392): VIN below 2,620 mV holds a cold reset. -/
def execBrownOut (vin : BitVec 13) (s : State) : Host.Outcome State Fault Refusal :=
  finish (brownOut vin.toNat s)

/-- THERMAL (R393): Tj measurement reaches or leaves the limit. -/
def execThermal (tj : BitVec 16) (s : State) : Host.Outcome State Fault Refusal :=
  live s (thermal tj.toNat)

/-- RAIL_CHANGE (R382): A board rail enters or leaves its range. -/
def execRailChange (good : BitVec 4) (vioA33 : Bool) (vioB25 : Bool) (s : State) : Host.Outcome State Fault Refusal :=
  finish (if s.stopped then railLevels good.toNat vioA33 vioB25 s else railChange good.toNat vioA33 vioB25 s)

/-- SH_THR_WRITE (R388): Write of a shed threshold, raise only. -/
def execShThrWrite (k : Fin 4) (v : BitVec 32) (s : State) : Host.Outcome State Fault Refusal :=
  live s (wr (shThrWrite k v.toNat))

/-- PS_MAX_WRITE (R387): Write of PWR_CTL, an untimed wake. -/
def execPsMaxWrite (v : BitVec 32) (s : State) : Host.Outcome State Fault Refusal :=
  live s (wr (pwrCtl v.toNat))

end Sys2Proof.Machine
end

