-- ==== Sys2Proof/Machine/Host.lean ====
section
/-! DEFINITION. Transfers between host memory and the device (R324 to R328): TX entries, frames for P9, D2H requests. -/
namespace Sys2Proof.Machine

/-! ### Work entries (R324, R325) -/

/-- Is an SQ entry well-formed for a TX pair? `wide`: 64-byte CQ entries. -/
def txEntryOk (l : List Byte) (wide : Bool) : Bool :=
  let fl := fieldB l 1 1
  let sgl := bit fl 0
  let ts := bit fl 1
  let direct := bit fl 2
  let len := fieldB l 4 2
  fieldB l 0 1 == 1 && fl < 8 && (!ts || (direct && wide)) &&
    (if sgl then len == 0 else 1 ≤ len && len ≤ 9600) &&
    (if direct then bits (fieldB l 6 1) 3 0 < 8 && !bit (fieldB l 6 1) 7 else fieldB l 6 1 == 0) &&
    fieldB l 7 1 == 0 && zeroB l 16 l.length

/-- Is an SQ entry well-formed for an RX or D2H pair? -/
def bufEntryOk (l : List Byte) : Bool :=
  fieldB l 0 1 == 2 && fieldB l 1 1 == 0 && 64 ≤ fieldB l 4 2 && fieldB l 6 2 == 0 && zeroB l 16 l.length

/-- What reading a frame by its entry gives: its bytes, or the status that ends the entry. -/
inductive Gather where
  | data (l : List Byte)
  | fail (status : Nat)
  deriving DecidableEq, Repr

/-- Walk a scatter list (R325): `k` elements may still be read. -/
def State.gather (s : State) : Nat → Nat → List Byte → Gather
  | 0, _, _ => .fail 0x15
  | k + 1, a, acc =>
    let e := s.hostB a 16
    let len := fieldB e 8 3
    let ty := fieldB e 12 1
    if a % 16 ≠ 0 ∨ fieldB e 11 1 ≠ 0 ∨ fieldB e 13 3 ≠ 0 ∨ 2 < ty then .fail 0x14
    else if ty = 2 then (if len ≠ 0 then .fail 0x14 else s.gather k (fieldB e 0 8) acc)
    else if len = 0 ∨ 9600 < acc.length + len then .fail 0x14
    else
      let acc := acc ++ s.hostB (fieldB e 0 8) len
      if ty = 1 then .data acc else s.gather k (a + 16) acc

/-- The frame of a well-formed TX entry. -/
def State.txGather (s : State) (l : List Byte) : Gather :=
  if bit (fieldB l 1 1) 0 then s.gather 64 (fieldB l 8 8) [] else .data (s.hostB (fieldB l 8 8) (fieldB l 4 2))

/-! ### Transmit (R326) -/

/-- A TX entry is completed with a status. -/
def State.txDone (s : State) (i : Nat) (e : SqEnt) (status len : Nat) : State :=
  s.cqWrite i (complBytes e.idx (fieldB e.data 2 2) status 3 len 0 0 [])

/-- Hand a frame read from the host to YRD: STATUS, and the tag of its stamp entry where the completion waits. -/
def State.hostFrame (s : State) (l data : List Byte) : State × Nat × Option Nat :=
  let direct := bit (fieldB l 1 1) 2
  let ts := bit (fieldB l 1 1) 1
  let o := bits (fieldB l 6 1) 3 0
  let c := bits (fieldB l 6 1) 6 4
  match s.newFrame { Frame.blank 9 data with pcp := tagged data, pri := if tagged data then tciOf data / 2 ^ 13 else 0 } false with
  | none => (s, 0x11, none)
  | some (s, h) =>
    if !direct then (s.classify h, 0, none)
    else if s.queueFull o c (cellsOf data.length) then
      ((if 65536 ≤ s.yrd.toks.length then s.incf F.YRD_CNT_NOTOKEN_COUNT else s).dropRef h, 0x12, none)
    else
      let (s, tag) := if ts then s.tsClaim o else (s, 0xFFFF)
      let t := if tag = 0xFFFF then none else some tag
      let k : Token := { frame := h, input := 9, out := o, tc := c, fq := none, tick := s.tick, ts := t, hash := 0 }
      (s.toQueue k, if ts ∧ t.isNone then 1 else 0, t)

/-- TX_ENTRY (R324 to R326): QM reads the oldest fetched entry of TX pair `i`, its frame goes to YRD, and its completion is
written or waits for the stamp. -/
def txEntry (i : Nat) (s : State) : State :=
  let p := s.pairOf i
  if p.kind ≠ 0 ∨ !(p.state = 1 ∨ p.state = 2) ∨ !s.qmRuns ∨ !s.dmaOk ∨ s.yrdFenced ∨ p.cqFree ≤ p.tsWait.length then s
  else match p.ents with
    | [] => s
    | e :: es =>
      let s := s.setPair i { p with ents := es }
      if !txEntryOk e.data p.cqWide then (s.incf F.QM_CNT_BAD_ENTRY_COUNT).txDone i e 0x14 0
      else match s.txGather e.data with
        | .fail 0x15 => (s.incf F.QM_CNT_CHAIN_LOOP_COUNT).pairError i 0x15 (some (e.idx, fieldB e.data 2 2))
        | .fail st => (s.incf F.QM_CNT_BAD_ENTRY_COUNT).txDone i e st 0
        | .data d =>
          let o := bits (fieldB e.data 6 1) 3 0
          -- the entry waits for its stamp before the frame can be on the line
          let claim := bit (fieldB e.data 1 1) 1 && decide ((s.port o).tsq.length < 64)
          let w : TsWait := ⟨o, s.gf (F.ETH_TSQ_STAT_NEXT_TAG o), e.idx, fieldB e.data 2 2, d.length⟩
          let s' := if claim then s.setPair i { s.pairOf i with tsWait := (s.pairOf i).tsWait ++ [w] } else s
          match s'.hostFrame e.data d with
          | (s, _, some _) => s
          | (s, st, none) =>
            let s := s.setPair i { s.pairOf i with tsWait := (s.pairOf i).tsWait.filter (fun x => x.idx != e.idx) }
            s.txDone i e st (if st < 0x10 then d.length else 0)

/-! ### Buffers (R327, R328) -/

/-- Fetch covered entries of a pair until those fetched hold `need` bytes. -/
def State.fetchFor (s : State) (i need : Nat) : Nat → State
  | 0 => s
  | k + 1 =>
    let p := s.pairOf i
    if need ≤ sumBy (fun e => if bufEntryOk e.data then fieldB e.data 4 2 else 0) p.ents ∨ p.sqP = p.sqC then s
    else (sqFetchReturn i true s).fetchFor i need k

/-- Complete malformed buffer entries with BAD_ENTRY. -/
def State.cleanBufs (s : State) (i : Nat) : State :=
  let l := (s.pairOf i).ents
  let s := s.setPair i { s.pairOf i with ents := l.filter (fun e => bufEntryOk e.data) }
  (l.filter (fun e => !bufEntryOk e.data)).foldl (fun s e =>
    if (s.pairOf i).cqFree = 0 then s
    else (s.incf F.QM_CNT_BAD_ENTRY_COUNT).cqWrite i (complBytes e.idx (fieldB e.data 2 2) 0x14 0 0 0 0 [])) s

/-- Fill buffers in SQ order while bytes and completion slots remain: the buffers taken with their bytes, and the bytes left. -/
def fillBufs : List SqEnt → Nat → List Byte → List (SqEnt × List Byte) × List Byte
  | e :: es, n + 1, d =>
    if d.isEmpty then ([], d)
    else
      let k := fieldB e.data 4 2
      let (t, r) := fillBufs es n (d.drop k)
      ((e, d.take k) :: t, r)
  | _, _, d => ([], d)

/-- Write the buffers taken and complete them with one status; RESULT, USER and the stamp stand in the first. -/
def State.putBufs (s : State) (i status result user : Nat) (stamp : List Byte) (l : List (SqEnt × List Byte)) : State :=
  let n := l.length
  let s := s.setPair i { s.pairOf i with ents := (s.pairOf i).ents.drop n }
  let s := l.foldl (fun s x => s.hostPost (fieldB x.1.data 8 8) x.2) s
  (l.zipIdx).foldl (fun s x =>
    let first := x.2 == 0
    let fl := b2n first + 2 * b2n (x.2 + 1 == n) + 4 * b2n (first && !stamp.isEmpty)
    s.cqWrite i (complBytes x.1.1.idx (fieldB x.1.1.data 2 2) status fl x.1.2.length (if first then result else 0)
      (if first then user else 0) (if first then stamp else []))) s

/-- The P9 line is busy for the frame's time, and its shapers are charged. -/
def State.endP9 (s : State) (k : Token) (len : Nat) : State :=
  let s := s.setSch { s.sch with sel9 := none, free9 := s.tick + s.lineTicks 9 (wireBytes len) }
  (s.debitTok k (wireBytes len)).dropRef k.frame

/-- P9_FRAME (R327): the frame that SCH selected for P9 goes into buffers of the pair its class and hash name. -/
def p9Frame (s : State) : State :=
  if !s.qmRuns ∨ !s.dmaOk then s
  else match s.sch.sel9 with
    | none => s
    | some k => match s.frame k.frame with
      | none => s.setSch { s.sch with sel9 := none }
      | some f =>
       if f.badLink.isSome then s.linkErr k.frame
       else
        let i := s.gf (F.QM_P9_MAP_BASE k.tc) + k.hash % 256 % 2 ^ s.gf (F.QM_P9_MAP_SIZE k.tc)
        let ok := s.bf (F.QM_P9_MAP_EN k.tc) && decide (i < 4096) && (s.pairOf i).kind == 1 && (s.pairOf i).state == 1
        let s := if ok then (s.fetchFor i f.data.length 160).cleanBufs i else s
        let p := s.pairOf i
        if !ok ∨ p.ents.isEmpty ∨ p.cqFree = 0 then (s.endP9 k f.data.length).incf F.QM_CNT_RX_DROP_COUNT
        else
          let (t, rest) := fillBufs p.ents p.cqFree f.data
          let ing := if f.input < 8 ∨ f.input = 9 then f.input else 8
          let result := f.data.length + ing * 2 ^ 16 + k.tc * 2 ^ 20 + f.flow * 2 ^ 32 + f.fver * 2 ^ 48
          let stamp := if p.cqWide ∧ f.input < 8 then leBytes 32 f.stamp.toNat else []
          let st := if !f.bad.isEmpty then 0x18 else if rest.isEmpty then 0 else 0x10
          let s := if f.bad.isEmpty then s else s.raise 0x18 kUE 0
          let s := s.putBufs i st result 0 stamp t
          let s := s.endP9 k f.data.length
          if rest.isEmpty then s else s.incf F.QM_CNT_RX_NOBUF_COUNT

/-- Is a D2H request within its table (R328)? -/
def State.d2hOk (s : State) (l : List Byte) : Bool :=
  let src := fieldB l 0 8
  let len := fieldB l 8 3
  dramBase ≤ src && src + len ≤ dramBase + s.usable && 1 ≤ len && fieldB l 11 1 == 0 && zeroB l 12 16 && zeroB l 24 32

/-- D2H_REQUEST (R328): the oldest request of pair `i` is processed; it waits for a buffer, a completion slot, and DRAM out of
self-refresh (R390). -/
def d2hRequest (i : Nat) (s : State) : State :=
  let p := s.pairOf i
  if p.kind ≠ 2 ∨ !(p.state = 1 ∨ p.state = 2) ∨ !s.qmRuns ∨ !s.dmaOk ∨ !s.dramUp ∨ !s.dramIdle cQM ∨ p.cqFree = 0 then s
  else match p.d2h with
    | [] => s
    | r :: rs =>
      if !s.d2hOk r then (s.setPair i { p with d2h := rs }).cqWrite i (complBytes 0 0 0x14 3 0 0 (fieldB r 16 8) [])
      else
        let len := fieldB r 8 3
        let s := (s.fetchFor i len (2 ^ p.nSq)).cleanBufs i
        let p := s.pairOf i
        if p.ents.isEmpty ∨ p.cqFree = 0 then
          (if p.ents.isEmpty ∧ p.state = 2 ∧ p.sqP = p.sqC then s.setPair i { p with d2h := rs } else s)
        else
          let (s, ue) := (s.dramAsk cQM (ceilDiv len 64)).dramScan (fieldB r 0 8) len
          let s := s.setPair i { s.pairOf i with d2h := rs }
          let (t, rest) := fillBufs p.ents p.cqFree (s.rdB (fieldB r 0 8) len)
          s.putBufs i (if ue.isSome then 0x18 else if rest.isEmpty then 0 else 0x10) len (fieldB r 16 8) [] t

end Sys2Proof.Machine
end

