-- ==== Sys2Proof/Machine/RowsHost.lean ====
section
/-! DEFINITION. Meanings of the commands of the host work queues, the PCIe function and the management port. -/
namespace Sys2Proof.Machine

/-- SQ_DOORBELL (R317): Host moves an SQ producer index. -/
def execSqDoorbell (q : PairId) (idx : BitVec 16) (s : State) : Host.Outcome State Fault Refusal :=
  live s (wr (hostDoes (sqDoorbell q.index idx.toNat)))

/-- CQ_DOORBELL (R317): Host moves a CQ consumer index. -/
def execCqDoorbell (q : PairId) (idx : BitVec 16) (s : State) : Host.Outcome State Fault Refusal :=
  live s (wr (hostDoes (cqDoorbell q.index idx.toNat)))

/-- DISABLE (R320): Move a pair to DRAINING. -/
def execDisable (q : PairId) (s : State) : Host.Outcome State Fault Refusal :=
  live s (wr (pairDisable q.index))

/-- DRAIN_DONE (R320): A draining pair has no outstanding work and becomes IDLE. -/
def execDrainDone (q : PairId) (s : State) : Host.Outcome State Fault Refusal :=
  live s (drainDone q.index)

/-- SQ_FETCH_RETURN (R318): An SQ entry read returns and is used or discarded. -/
def execSqFetchReturn (q : PairId) (cov : Bool) (s : State) : Host.Outcome State Fault Refusal :=
  live s (sqFetchReturn q.index cov)

/-- TX_ENTRY (R326): QM reads a TX frame into the yard and hands it over. -/
def execTxEntry (i : Fin 4096) (s : State) : Host.Outcome State Fault Refusal :=
  live s (txEntry i)

/-- P9_FRAME (R327): A frame for output P9 is written into RX buffers. -/
def execP9Frame (s : State) : Host.Outcome State Fault Refusal :=
  live s (p9Frame)

/-- D2H_REQUEST (R328): QM copies a D2H request from DRAM into host buffers. -/
def execD2hRequest (i : Fin 4096) (s : State) : Host.Outcome State Fault Refusal :=
  live s (d2hRequest i)

/-- CREATE_PAIR (R323): Create a host queue pair. -/
def execCreatePair (s : State) : Host.Outcome State Fault Refusal :=
  live s (admRun 0x01 createPairCmd)

/-- DESTROY_PAIR (R323): Destroy a host queue pair. -/
def execDestroyPair (s : State) : Host.Outcome State Fault Refusal :=
  live s (admRun 0x02 destroyPairCmd)

/-- RESET_QUEUE (R323): Reset a pair's indices to ENABLED. -/
def execResetQueue (s : State) : Host.Outcome State Fault Refusal :=
  live s (admRun 0x03 resetQueueCmd)

/-- CREATE_IQ (R323): Create an internal queue. -/
def execCreateIq (s : State) : Host.Outcome State Fault Refusal :=
  live s (admRun 0x04 createIqCmd)

/-- DESTROY_IQ (R323): Destroy an internal queue. -/
def execDestroyIq (s : State) : Host.Outcome State Fault Refusal :=
  live s (admRun 0x05 destroyIqCmd)

/-- QUERY (R323): Return a queue's state and indices. -/
def execQuery (s : State) : Host.Outcome State Fault Refusal :=
  live s (admRun 0x06 queryCmd)

/-- SET_IRQ (R323): Change a pair's interrupt settings. -/
def execSetIrq (s : State) : Host.Outcome State Fault Refusal :=
  live s (admRun 0x07 setIrqCmd)

/-- INDEX_WORD (R332): QM writes a pair's index word after completions. -/
def execIndexWord (q : PairId) (s : State) : Host.Outcome State Fault Refusal :=
  live s (indexWordStep q.index)

/-- COALESCE_TIMEOUT (R332): COAL_US passes and the pair's vector is signalled. -/
def execCoalesceTimeout (q : PairId) (s : State) : Host.Outcome State Fault Refusal :=
  live s (coalesceTimeout q.index)

/-- FUNCTION_RESET (R313): FLR, hot reset or link fall ends host queues. -/
def execFunctionReset (k : FrKind) (s : State) : Host.Outcome State Fault Refusal :=
  live s (functionReset k)

/-- PERST (R422): PE_PERST_N low holds the PCIe link in reset. -/
def execPerst (low : Bool) (s : State) : Host.Outcome State Fault Refusal :=
  finish (if s.stopped then perstLevel low s else perstPin low s)

/-- HOST_TIMEOUT (R334): A QM host read times out or fails. -/
def execHostTimeout (q : PairId) (tmo : Bool) (s : State) : Host.Outcome State Fault Refusal :=
  live s (hostTimeout q.index tmo)

/-- WRITE (R314): Management port register write. -/
def execWrite (addr : BitVec 32) (v : BitVec 32) (s : State) : Host.Outcome State Fault Refusal :=
  live s (mgmtWrite addr.toNat v.toNat)

/-- READ (R314): Management port register read. -/
def execRead (addr : BitVec 32) (s : State) : Host.Outcome State Fault Refusal :=
  live s (mgmtRead addr.toNat)

/-- STATUS (R314): Management port status read clearing ERR. -/
def execStatus (s : State) : Host.Outcome State Fault Refusal :=
  live s (mgmtStatus)

/-- QM_BLOCK_RESET (R335): QM block reset sets every pair to NONE. -/
def execQmBlockReset (s : State) : Host.Outcome State Fault Refusal :=
  live s (wr (qmReset))

/-- CONFIGURATION_WRITE (R334): A host write to PCIe configuration space or to the MSI-X table sets Bus Master Enable or unmasks a vector, releasing waiting QM work or sending pending MSI-X messages. -/
def execConfigurationWrite (o : CfgWrite) (s : State) : Host.Outcome State Fault Refusal :=
  live s (configurationWrite o)

end Sys2Proof.Machine
end

