-- ==== Sys2Proof/Machine/RowsLoft.lean ====
section
/-! DEFINITION. Meanings of the commands of the loft. -/
namespace Sys2Proof.Machine

/-- LOFT_FORMAT (R147): EN = 1 starts formatting the loft. -/
def execLoftFormat (s : State) : Host.Outcome State Fault Refusal :=
  live s (wr (lftCtl (s.lftCtlNow 1 0)))

/-- LOFT_RESUME (R148): EN = 1 with RESUME reads the resume header. -/
def execLoftResume (s : State) : Host.Outcome State Fault Refusal :=
  live s (wr (lftCtl (s.lftCtlNow 1 1)))

/-- LOFT_DISABLE (R149): EN = 0 aborts transactions and loses unsealed commits. -/
def execLoftDisable (s : State) : Host.Outcome State Fault Refusal :=
  live s (wr (lftCtl (s.lftCtlNow 0 (s.gf F.LFT_CTL_RESUME))))

/-- FORMAT_DONE (R147): Formatting ends and the loft becomes READY. -/
def execFormatDone (s : State) : Host.Outcome State Fault Refusal :=
  live s (formatDone)

/-- RESUME_DONE (R148): Header read completes: resume at S + 1 or format. -/
def execResumeDone (s : State) : Host.Outcome State Fault Refusal :=
  live s (resumeDone)

/-- SEAL_BOUNDARY (R153): Seal boundary closes the open epoch and opens the next. -/
def execSealBoundary (s : State) : Host.Outcome State Fault Refusal :=
  live s (sealBoundary)

/-- SEAL (R153): Write of LFT_CTL.SEAL places an extra boundary. -/
def execSealNow (s : State) : Host.Outcome State Fault Refusal :=
  live s (wr (sealReq))

/-- VERSION_WRITE (R158): A commit's version is written to its slot with push and hold copies. -/
def execVersionWrite (s : State) : Host.Outcome State Fault Refusal :=
  live s (versionWrite)

/-- EPOCH_SEAL (R154): A closed epoch's last write completes and it is sealed. -/
def execEpochSeal (s : State) : Host.Outcome State Fault Refusal :=
  live s (epochSeal)

/-- LEASE_EXPIRE (R160): A pin's lease runs out. -/
def execLeaseExpire (s : State) : Host.Outcome State Fault Refusal :=
  live s (leaseExpire)

/-- PIN (R164): Pin a host view on the newest sealed epoch. -/
def execPin (h : Fin 16) (s : State) : Host.Outcome State Fault Refusal :=
  live s (wr (viewPin h))

/-- UNPIN (R164): Release a host view's pin. -/
def execUnpin (h : Fin 16) (s : State) : Host.Outcome State Fault Refusal :=
  live s (wr (viewUnpin h))

/-- VIEW_READ (R165): Host read of a loft view through BAR2. -/
def execViewRead (off : BitVec 24) (n : Fin 257) (s : State) : Host.Outcome State Fault Refusal :=
  live s (hostDoes (viewRead off.toNat n))

/-- START (R166): Start a sweep, clearing its bitmap. -/
def execStart (c : Fin 2) (s : State) : Host.Outcome State Fault Refusal :=
  live s (wr (sweepStart c))

/-- ABORT (R168): End a sweep with ABORTED. -/
def execAbort (c : Fin 2) (s : State) : Host.Outcome State Fault Refusal :=
  live s (wr (sweepAbort c))

/-- SWEEP_CLEAR_DONE (R166): Clearing ends and the sweep takes its epoch. -/
def execSweepClearDone (c : Fin 2) (s : State) : Host.Outcome State Fault Refusal :=
  live s (sweepClearDone c)

/-- SWEEP_EMIT (R167): A sweep delivers a pushed or cursor entry when queue space allows. -/
def execSweepEmit (c : Fin 2) (s : State) : Host.Outcome State Fault Refusal :=
  live s (sweepEmit c)

/-- SWEEP_END (R168): A sweep ends and delivers its END entry. -/
def execSweepEnd (c : Fin 2) (s : State) : Host.Outcome State Fault Refusal :=
  live s (sweepEnd c)

/-- MAP_WRITE (R169): Write of a loft-map entry advancing VER and GEN. -/
def execMapWrite (m : Fin 1024) (pad : Bool) (v : BitVec 32) (s : State) : Host.Outcome State Fault Refusal :=
  live s (wr (mapWrite m pad v.toNat))

/-- LFT_BLOCK_RESET (R171): LFT block reset aborts transactions and releases pins. -/
def execLftBlockReset (s : State) : Host.Outcome State Fault Refusal :=
  live s (wr (lftReset))

/-- LFT_RESET_END (R171): LFT block reset ends. -/
def execLftResetEnd (s : State) : Host.Outcome State Fault Refusal :=
  live s (lftResetEnd)

/-- REPLICA (R174): Write of LFT_CTL.REPLICA entering or leaving replica mode. -/
def execReplica (on : Bool) (s : State) : Host.Outcome State Fault Refusal :=
  live s (wr (replicaWrite on))

/-- REPLICA_EPOCH (R272): A replicated epoch's versions arrive and are sealed. -/
def execReplicaEpoch (e : BitVec 40) (o : EpochOp) (s : State) : Host.Outcome State Fault Refusal :=
  live s (replicaEpoch e.toNat o.points o.resync)

end Sys2Proof.Machine
end

