-- ==== Sys2Proof/Machine/RowsNet.lean ====
section
/-! DEFINITION. Meanings of the commands of the Ethernet ports, the yard and its flow table, gates, shapers and queue service. -/
namespace Sys2Proof.Machine

/-- ETH_MODE_WRITE (R177): Write of a port mode with discard checks. -/
def execEthModeWrite (p : Fin 8) (v : BitVec 32) (s : State) : Host.Outcome State Fault Refusal :=
  live s (wr (ethMode p v.toNat))

/-- PORT_ENABLE (R177): Write of ETH_CTL enabling or disabling a port. -/
def execPortEnable (p : Fin 8) (v : BitVec 32) (s : State) : Host.Outcome State Fault Refusal :=
  live s (wr (ethCtl p v.toNat))

/-- LINK_UP (R178): A port's link comes up. -/
def execLinkUp (p : Fin 8) (c : LinkCond) (s : State) : Host.Outcome State Fault Refusal :=
  live s (linkUpCmd p c)

/-- LINK_DOWN (R180): A port's link falls, cutting frames and flushing per service mode. -/
def execLinkDown (p : Fin 8) (c : LinkCond) (s : State) : Host.Outcome State Fault Refusal :=
  live s (linkDownCmd p c)

/-- RECEIVE_FRAME (R183): A received frame is classified, delivered, flagged or discarded. -/
def execReceiveFrame (o : RxOp) (s : State) : Host.Outcome State Fault Refusal :=
  live s (receiveFrame o)

/-- PAUSE_RECEIVED (R188): A received pause or PFC frame sets hold timers. -/
def execPauseReceived (p : Fin 8) (o : PauseOp) (s : State) : Host.Outcome State Fault Refusal :=
  live s (pauseReceived p o)

/-- PAUSE_EXPIRE (R188): A received pause hold timer runs out. -/
def execPauseExpire (p : Fin 8) (s : State) : Host.Outcome State Fault Refusal :=
  live s (pauseExpire p)

/-- PAUSE_REFRESH (R189): XOFF is resent every PAUSE_TIME ÷ 2 quanta. -/
def execPauseRefresh (p : Fin 8) (s : State) : Host.Outcome State Fault Refusal :=
  live s (pauseRefresh p)

/-- TRANSMIT_FRAME (R186): MAC starts sending a selected frame with padding and FCS. -/
def execTransmitFrame (p : Fin 8) (ago : Nat) (s : State) : Host.Outcome State Fault Refusal :=
  live s (transmitFrame p ago)

/-- TRANSMIT_END (R186): A frame or fragment finishes on the wire. -/
def execTransmitEnd (p : Fin 8) (s : State) : Host.Outcome State Fault Refusal :=
  live s (transmitEnd p)

/-- VERIFY_SEND (R191): Send a verify mPacket and start the verify wait. -/
def execVerifySend (p : Fin 8) (s : State) : Host.Outcome State Fault Refusal :=
  live s (verifySend p)

/-- VERIFY_TIMEOUT (R191): Verify wait ends without response: resend or FAILED. -/
def execVerifyTimeout (p : Fin 8) (s : State) : Host.Outcome State Fault Refusal :=
  live s (verifyTimeout p)

/-- VERIFY_RECEIVED (R191): A received verify mPacket is answered. -/
def execVerifyReceived (p : Fin 8) (s : State) : Host.Outcome State Fault Refusal :=
  live s (verifyReceived p)

/-- RESPONSE_RECEIVED (R191): A valid response moves verification to SUCCEEDED. -/
def execResponseReceived (p : Fin 8) (s : State) : Host.Outcome State Fault Refusal :=
  live s (responseReceived p)

/-- TSQ_EXPIRE (R198): An unreleased stamp entry is freed after HOLD_MS. -/
def execTsqExpire (p : Fin 8) (s : State) : Host.Outcome State Fault Refusal :=
  live s (tsqExpire p)

/-- CNT_CLR (R201): Clear all port counters. -/
def execCntClr (p : Fin 8) (s : State) : Host.Outcome State Fault Refusal :=
  live s (wr (cntClr p))

/-- PORT_RESET (R203): Port block reset restarts PCS and MAC. -/
def execPortReset (p : Fin 8) (s : State) : Host.Outcome State Fault Refusal :=
  live s (wr (portReset p))

/-- FT_READ (R226): Flow-table READ command. -/
def execFtRead (x : BitVec 16) (s : State) : Host.Outcome State Fault Refusal :=
  live s (wr (ftRead x.toNat))

/-- FT_WRITE (R226): Flow-table WRITE command. -/
def execFtWrite (x : BitVec 16) (s : State) : Host.Outcome State Fault Refusal :=
  live s (wr (ftWrite x.toNat))

/-- FT_INVALIDATE (R226): Flow-table INVALIDATE command. -/
def execFtInvalidate (x : BitVec 16) (s : State) : Host.Outcome State Fault Refusal :=
  live s (wr (ftInvalidate x.toNat))

/-- FT_LOOKUP (R226): Flow-table LOOKUP command. -/
def execFtLookup (s : State) : Host.Outcome State Fault Refusal :=
  live s (wr (ftLookup))

/-- PIN_CHANGE (R213): Write of YRD_PIN or YRD_PGRP changing a flow's thread. -/
def execPinChange (o : PinOp) (s : State) : Host.Outcome State Fault Refusal :=
  live s (wr (pinChange o))

/-- YRD_POOL_WRITE (R205): Write of reserves, discarded if they exceed the yard. -/
def execYrdPoolWrite (i : Option (Fin 10)) (v : BitVec 32) (s : State) : Host.Outcome State Fault Refusal :=
  live s (wr (poolWrite (i.map Fin.val) v.toNat))

/-- YRD_BLOCK_RESET (R225): YRD block reset frees every frame. -/
def execYrdBlockReset (s : State) : Host.Outcome State Fault Refusal :=
  live s (wr (yrdReset))

/-- INIT_DONE (R225): Flow-table invalidation after reset completes. -/
def execInitDone (s : State) : Host.Outcome State Fault Refusal :=
  live s (initDone)

/-- LINE_SELECT (R230): A free output line selects its next frame. -/
def execLineSelect (o : Fin 10) (s : State) : Host.Outcome State Fault Refusal :=
  live s (lineSelect o)

/-- GATE_ENTRY_CHANGE (R235): Gate list reaches the next entry. -/
def execGateEntryChange (p : Fin 8) (s : State) : Host.Outcome State Fault Refusal :=
  live s (gateEntryChange p)

/-- SWAP (R237): Request a gate list swap. -/
def execSwap (p : Fin 8) (s : State) : Host.Outcome State Fault Refusal :=
  live s (wr (swapReq p))

/-- CANCEL (R239): Cancel a pending gate list swap. -/
def execCancel (p : Fin 8) (s : State) : Host.Outcome State Fault Refusal :=
  live s (wr (swapCancel p))

/-- SWAP_TAKE_EFFECT (R239): New list's domain reaches S and the banks swap. -/
def execSwapTakeEffect (p : Fin 8) (s : State) : Host.Outcome State Fault Refusal :=
  live s (swapTakeEffect p)

/-- GCL_ENABLE (R236): Write of SCH_GCL_CTL.EN enabling or stopping gating. -/
def execGclEnable (p : Fin 8) (on : Bool) (s : State) : Host.Outcome State Fault Refusal :=
  live s (wr (gclEnable p on))

/-- HOLD_ASSERT (R244): Hold asserted HOLD_ADV before a SET_HOLD entry. -/
def execHoldAssert (p : Fin 8) (s : State) : Host.Outcome State Fault Refusal :=
  live s (holdAssert p)

/-- HOLD_RELEASE (R244): Hold released at the end of SET_HOLD entries. -/
def execHoldRelease (p : Fin 8) (s : State) : Host.Outcome State Fault Refusal :=
  live s (holdRelease p)

/-- APPLY (R250): Apply staged shaper values and reset buckets. -/
def execApply (i : Fin 2048) (s : State) : Host.Outcome State Fault Refusal :=
  live s (wr (applyShp i))

/-- DEBT_END (R249): A shaper's debt ends and its leaves become eligible. -/
def execDebtEnd (i : Fin 2048) (s : State) : Host.Outcome State Fault Refusal :=
  live s (debtEnd i)

/-- FQ_CFG_WRITE (R229): Write of a flow queue configuration with discard checks. -/
def execFqCfgWrite (f : Fin 16384) (v : BitVec 32) (s : State) : Host.Outcome State Fault Refusal :=
  live s (wr (fqCfg f v.toNat))

/-- FQ_SEL (R230): Select a flow queue for snapshot. -/
def execFqSel (v : BitVec 32) (s : State) : Host.Outcome State Fault Refusal :=
  live s (wr (fqSel v.toNat))

/-- SHP_SEL (R248): Select a shaper for snapshot. -/
def execShpSel (v : BitVec 32) (s : State) : Host.Outcome State Fault Refusal :=
  live s (wr (shpSel v.toNat))

/-- SCH_BLOCK_RESET (R252): SCH block reset stops lists and fills buckets. -/
def execSchBlockReset (s : State) : Host.Outcome State Fault Refusal :=
  live s (wr (schReset))

end Sys2Proof.Machine
end

