-- ==== Sys2Proof/Machine/RowsSax.lean ====
section
/-! DEFINITION. Meanings of the commands of the sessions. -/
namespace Sys2Proof.Machine

/-- SAX_ENABLE (R336): SAX_CTL.EN = 1 draws a table key and clears sessions. -/
def execSaxEnable (on : Bool) (s : State) : Host.Outcome State Fault Refusal :=
  live s (wr (saxRun (saxEnable on)))

/-- SAX_READY (R336): Session table clearing ends and READY becomes 1. -/
def execSaxReady (s : State) : Host.Outcome State Fault Refusal :=
  live s (saxRun saxReadyStep)

/-- KEEPALIVE (R347): A keepalive timer expires and posts an event. -/
def execKeepalive (i : Fin 131072) (s : State) : Host.Outcome State Fault Refusal :=
  live s (saxRun (saxKeepalive i))

/-- IDLE (R347): An idle timer expires and posts an event. -/
def execIdle (i : Fin 131072) (s : State) : Host.Outcome State Fault Refusal :=
  live s (saxRun (saxIdle i))

/-- SESSION_RECORD (R350): A received session record opens or closes a session. -/
def execSessionRecord (l : List Byte) (s : State) : Host.Outcome State Fault Refusal :=
  live s (saxRun (sessionRecord l))

/-- RESYNC (R349): Send every open session to the partner. -/
def execResync (s : State) : Host.Outcome State Fault Refusal :=
  live s (wr (saxRun saxResync))

/-- RESYNC_COMPLETE (R349): The last session record of a RESYNC has been sent and SAX_STAT.RESYNC_BUSY returns to 0. -/
def execResyncComplete (s : State) : Host.Outcome State Fault Refusal :=
  live s (saxRun saxResyncEnd)

/-- SAX_BLOCK_RESET (R352): SAX block reset closes every session. -/
def execSaxBlockReset (s : State) : Host.Outcome State Fault Refusal :=
  live s (wr (saxRun saxReset))

/-- SAX_SEL (R353): Select a session for snapshot. -/
def execSaxSel (v : BitVec 32) (s : State) : Host.Outcome State Fault Refusal :=
  live s (wr (saxRun (saxSel v.toNat)))

end Sys2Proof.Machine
end

