-- ==== Sys2Proof/Machine/RowsTime.lean ====
section
/-! DEFINITION. Meanings of the commands of the time domains, stamps, captures, pulse outputs and scheduled actions. -/
namespace Sys2Proof.Machine

/-- INCR_LO_WRITE (R122): Hold a low increment half. -/
def execIncrLoWrite (n : Fin 8) (v : BitVec 32) (s : State) : Host.Outcome State Fault Refusal :=
  live s (wr (incrLo n v.toNat))

/-- INCR_HI_WRITE (R122): Apply a new increment or refuse it. -/
def execIncrHiWrite (n : Fin 8) (v : BitVec 32) (s : State) : Host.Outcome State Fault Refusal :=
  live s (wr (incrHi n v.toNat))

/-- STEP (R123): Request a domain step or slew. -/
def execDomStep (n : Fin 8) (reacq : Bool) (s : State) : Host.Outcome State Fault Refusal :=
  live s (wr (domCmd n (1 + 2 * b2n reacq)))

/-- REACQ (R124): Force a domain into ACQUIRE. -/
def execReacq (n : Fin 8) (s : State) : Host.Outcome State Fault Refusal :=
  live s (wr (domCmd n 2))

/-- STEP_APPLY (R123): An accepted ACQUIRE step takes effect on the next tick. -/
def execStepApply (n : Fin 8) (s : State) : Host.Outcome State Fault Refusal :=
  live s (stepApply n)

/-- SLEW_DONE (R123): A slew has applied its offset. -/
def execSlewDone (n : Fin 8) (s : State) : Host.Outcome State Fault Refusal :=
  live s (slewDone n)

/-- DOMAIN_ENABLE (R441): EN = 1 brings a domain out of OFF. -/
def execDomainEnable (n : Fin 8) (v : BitVec 32) (s : State) : Host.Outcome State Fault Refusal :=
  live s (wr (domCtl n (setBits v.toNat 0 0 1)))

/-- DOMAIN_DISABLE (R441): EN = 0 places a domain in OFF on the next tick. -/
def execDomainDisable (n : Fin 8) (v : BitVec 32) (s : State) : Host.Outcome State Fault Refusal :=
  live s (wr (domCtl n (setBits v.toNat 0 0 0)))

/-- REFERENCE_EVENT (R127): A filtered coordinate-source edge updates the estimator. -/
def execReferenceEvent (o : RefOp) (s : State) : Host.Outcome State Fault Refusal :=
  live s (referenceEvent o.edge o.stable)

/-- COORD_LOST (R128): No accepted event for HOLD_CYC cycles: HOLDOVER. -/
def execCoordLost (n : Fin 8) (s : State) : Host.Outcome State Fault Refusal :=
  live s (coordLost n)

/-- HOLDOVER_EXPIRE (R128): HOLD_MAX cycles pass in HOLDOVER: UNLOCKED. -/
def execHoldoverExpire (n : Fin 8) (s : State) : Host.Outcome State Fault Refusal :=
  live s (holdoverExpire n)

/-- SNAP (R133): Request a snapshot of all domains. -/
def execSnap (s : State) : Host.Outcome State Fault Refusal :=
  live s (wr (snapReq))

/-- SNAP_CAPTURE (R133): All domains are captured on one tick. -/
def execSnapCapture (s : State) : Host.Outcome State Fault Refusal :=
  live s (snapCapture)

/-- SNAP_VALID (R133): Snapshot becomes valid three ticks after capture. -/
def execSnapValid (s : State) : Host.Outcome State Fault Refusal :=
  live s (snapDone)

/-- CAPTURE_EDGE (R134): A qualified TIN edge is stamped into its FIFO. -/
def execCaptureEdge (i : Fin 8) (o : EdgeOp) (s : State) : Host.Outcome State Fault Refusal :=
  live s (captureEdge i o.rising o.stable)

/-- CAPTURE_POP (R135): Remove the oldest capture entry by tag. -/
def execCapturePop (i : Fin 8) (tag : BitVec 8) (s : State) : Host.Outcome State Fault Refusal :=
  live s (wr (capturePop i tag.toNat))

/-- TOUT_CONFIG (R136): Write of a pulse output's mode, period or width. -/
def execToutConfig (j : Fin 8) (r : ToutReg) (v : BitVec 32) (s : State) : Host.Outcome State Fault Refusal :=
  live s (wr (toutConfig j (match r with | .ctl => 0 | .per => 1 | .phase => 2 | .wid => 3) v.toNat))

/-- TOUT_TRAIN_EDGE (R136): Periodic train reaches a leading or trailing edge. -/
def execToutTrainEdge (j : Fin 8) (s : State) : Host.Outcome State Fault Refusal :=
  live s (trainEdge j)

/-- TOUT_HIGH (R139): Due action drives a TOUT pin high. -/
def execToutHigh (s : State) : Host.Outcome State Fault Refusal :=
  live s (runTout 1 (fun _ => true))

/-- TOUT_LOW (R139): Due action drives a TOUT pin low. -/
def execToutLow (s : State) : Host.Outcome State Fault Refusal :=
  live s (runTout 2 (fun _ => false))

/-- TOUT_TOGGLE (R139): Due action inverts a TOUT pin. -/
def execToutToggle (s : State) : Host.Outcome State Fault Refusal :=
  live s (runTout 3 not)

/-- TOUT_PULSE (R446): Due action inverts a TOUT pin and times a second inversion. -/
def execToutPulse (s : State) : Host.Outcome State Fault Refusal :=
  live s (runPulse)

/-- PULSE_SECOND_INVERSION (R446): The timed second inversion of a pulse. -/
def execPulseSecondInversion (j : Fin 8) (s : State) : Host.Outcome State Fault Refusal :=
  live s (pulseSecond j)

/-- QSIG (R140): Due action appends an event to a queue. -/
def execQsig (s : State) : Host.Outcome State Fault Refusal :=
  live s (runQsig)

/-- REG_WR (R139): Due action writes a control register. -/
def execRegWr (s : State) : Host.Outcome State Fault Refusal :=
  live s (runRegWr)

/-- ACTION_SNAP (R133): Due action captures a snapshot. -/
def execActionSnap (s : State) : Host.Outcome State Fault Refusal :=
  live s (runSnap)

/-- TBU_BLOCK_RESET (R142): TBU block reset restarts enabled domains and discards actions. -/
def execTbuBlockReset (s : State) : Host.Outcome State Fault Refusal :=
  live s (tbuReset)

end Sys2Proof.Machine
end

