-- ==== Sys2Proof/Machine/RowsTwin.lean ====
section
/-! DEFINITION. Meanings of the commands of the twin pair: redundancy, heartbeat, digests and Voxam. -/
namespace Sys2Proof.Machine

/-- MIRROR_RECEIVED (R259): Standby stores and acknowledges a mirror entry. -/
def execMirrorReceived (i : Fin 4096) (q : BitVec 16) (key : Nat) (s : State) : Host.Outcome State Fault Refusal :=
  live s (redRun (mirrorReceived i q.toNat key))

/-- MIRROR_ACK (R258): Acknowledgement releases the active's held frame. -/
def execMirrorAck (i : Fin 4096) (q : BitVec 16) (s : State) : Host.Outcome State Fault Refusal :=
  live s (redRun (mirrorAck i q.toNat))

/-- ACK_TIMEOUT (R258): ACK_TMO passes and the held frame is released. -/
def execAckTimeout (s : State) : Host.Outcome State Fault Refusal :=
  live s (redRun ackTimeout)

/-- MATCH_WAIT_EXPIRE (R259): A held frame or entry finds no match within WAIT. -/
def execMatchWaitExpire (s : State) : Host.Outcome State Fault Refusal :=
  live s (redRun matchWaitExpire)

/-- RECOVERY_RESET (R262): No frame passed for RESET_MS; TAKE_ANY set. -/
def execRecoveryReset (i : Fin 4096) (s : State) : Host.Outcome State Fault Refusal :=
  live s (redRun (recoveryReset i))

/-- HEARTBEAT_SEND (R263): Send a heartbeat word each period. -/
def execHeartbeatSend (s : State) : Host.Outcome State Fault Refusal :=
  live s (redRun heartbeatSend)

/-- HEARTBEAT_RECEIVED (R264): A heartbeat word arrives and is judged. -/
def execHeartbeatReceived (path : HbPath) (w : BitVec 32) (s : State) : Host.Outcome State Fault Refusal :=
  live s (redRun (heartbeatReceived path w.toNat))

/-- PARTNER_LOST (R264): Partner silent for three periods: promotion. -/
def execPartnerLost (s : State) : Host.Outcome State Fault Refusal :=
  live s (redRun partnerLostEv)

/-- PATH_FAULT (R264): One heartbeat path silent while another delivers. -/
def execPathFault (path : HbPath) (s : State) : Host.Outcome State Fault Refusal :=
  live s (redRun (pathFault path))

/-- STEPDOWN (R266): Active starts an orderly hand-over. -/
def execStepdown (r : StepReason) (s : State) : Host.Outcome State Fault Refusal :=
  live s (redRun (stepdownBy r))

/-- PROMOTE (R266): Standby starts an orderly hand-over. -/
def execPromote (s : State) : Host.Outcome State Fault Refusal :=
  live s (wr (redRun promoteReq))

/-- HANDOVER (R266): HANDOVER message makes the partner ACTIVE. -/
def execHandover (l : List (Nat × Nat)) (s : State) : Host.Outcome State Fault Refusal :=
  live s (redRun (handoverMsg l))

/-- HANDOVER_ACK (R266): Acknowledgement makes the old active STANDBY. -/
def execHandoverAck (s : State) : Host.Outcome State Fault Refusal :=
  live s (redRun handoverAck)

/-- DIGEST_SEND (R268): Send a cycle's output digest after boundary n + 1. -/
def execDigestSend (s : State) : Host.Outcome State Fault Refusal :=
  live s (redRun digestSend)

/-- DIGEST_RECEIVED (R268): Partner digest compared for mismatch. -/
def execDigestReceived (n : Int) (d : Nat) (cnt : Nat) (s : State) : Host.Outcome State Fault Refusal :=
  live s (redRun (digestReceived n d cnt))

/-- DIGEST_MISSING (R268): Partner digest absent by boundary n + 2. -/
def execDigestMissing (s : State) : Host.Outcome State Fault Refusal :=
  live s (redRun digestMissing)

/-- VERDICT (R269): Both verdicts known or timed out: pair decides. -/
def execVerdict (peer : Option Bool) (s : State) : Host.Outcome State Fault Refusal :=
  live s (redRun (verdict peer))

/-- GROOM_ROUND (R270): Standby starts a periodic groom round. -/
def execGroomRound (s : State) : Host.Outcome State Fault Refusal :=
  live s (redRun groomRound)

/-- KERNEL_SIGNATURE (R270): Kernel writes its signature to RED_GROOM_KRES. -/
def execKernelSignature (v : BitVec 32) (s : State) : Host.Outcome State Fault Refusal :=
  live s (wr (kernelSignature v.toNat))

/-- ROUND_END (R270): Groom or verdict round ends at VERDICT_MS or when checks pass. -/
def execRoundEnd (s : State) : Host.Outcome State Fault Refusal :=
  live s (redRun roundEnd)

/-- HEALTH_REPORT (R271): Health report received and shown in RED_HEALTH. -/
def execHealthReport (l : List Byte) (s : State) : Host.Outcome State Fault Refusal :=
  live s (redRun (healthReceived l))

/-- VOX_MESSAGE_RECEIVED (R275): A Voxam message arrives, is acknowledged or replayed. -/
def execVoxMessageReceived (l : Fin 2) (m : VoxRx) (s : State) : Host.Outcome State Fault Refusal :=
  live s (voxMessage l m)

/-- VOX_LINK_DOWN (R275): A Voxam link falls after failed replays. -/
def execVoxLinkDown (l : Fin 2) (s : State) : Host.Outcome State Fault Refusal :=
  live s (voxLinkDown l)

/-- VOX_LINK_UP (R275): A Voxam link trains. -/
def execVoxLinkUp (l : Fin 2) (lanes : BitVec 2) (peer : BitVec 8) (s : State) : Host.Outcome State Fault Refusal :=
  live s (voxUp l lanes.toNat peer.toNat)

/-- PEER_MESSAGE (R276): A peer message is routed, forwarded or dropped. -/
def execPeerMessage (o : PeerSrc) (s : State) : Host.Outcome State Fault Refusal :=
  live s (peerMessage o)

/-- RED_BLOCK_RESET (R277): RED block reset sets roles to NONE. -/
def execRedBlockReset (s : State) : Host.Outcome State Fault Refusal :=
  live s (wr (redReset))

/-- VOX_BLOCK_RESET (R277): VOX block reset takes both links down. -/
def execVoxBlockReset (s : State) : Host.Outcome State Fault Refusal :=
  live s (wr (voxReset))

/-- RED_ENABLE (R408): RED_CTL.EN = 1 enters RESOLVING or ACTIVE. -/
def execRedEnable (s : State) : Host.Outcome State Fault Refusal :=
  live s (wr (redEnable))

/-- RESOLVE_TIMEOUT (R408): Partner shows RESOLVING for RESOLVE_MS: PIN_CLASH. -/
def execResolveTimeout (s : State) : Host.Outcome State Fault Refusal :=
  live s (redRun resolveTimeout)

/-- RED_SEL (R278): Select a stream for snapshot. -/
def execRedSel (v : BitVec 32) (s : State) : Host.Outcome State Fault Refusal :=
  live s (wr (redSel v.toNat))

/-- LOOPBACK_END (R270): The 1 ms loopback of a groom round's LOOP_PORTS ends and each port returns from near-end loopback to its partner. -/
def execLoopbackEnd (p : Fin 8) (ok : Bool) (s : State) : Host.Outcome State Fault Refusal :=
  live s (loopbackEnd p ok)

end Sys2Proof.Machine
end

