-- ==== Sys2Proof/Machine/RowsZtt.lean ====
section
/-! DEFINITION. Meanings of the commands of the Zunto-TT bus. -/
namespace Sys2Proof.Machine

/-- ZTT_ENABLE (R299): ZTT_CTL.EN written to enter LISTEN or OFF. -/
def execZttEnable (on : Bool) (s : State) : Host.Outcome State Fault Refusal :=
  live s (wr (zRun (fun s => zttCtl (s.zttCtlNow (b2n on) 0 (s.gf F.ZTT_CTL_NEXT_MODE)) s)))

/-- CYCLE_START (R305): A basic cycle starts. -/
def execCycleStart (s : State) : Host.Outcome State Fault Refusal :=
  live s (zRun zCycleStart)

/-- WINDOW_START (R284): A window starts, latching buffers and checking its entry. -/
def execWindowStart (s : State) : Host.Outcome State Fault Refusal :=
  live s (zRun zWindowStart)

/-- FRAME_SEND (R285): Owner sends its buffer or NULL at the action point. -/
def execFrameSend (s : State) : Host.Outcome State Fault Refusal :=
  live s (zRun zFrameSend)

/-- GUARDIAN_CUT (R288): Guardian cuts a frame still sending at permission end. -/
def execGuardianCut (s : State) : Host.Outcome State Fault Refusal :=
  live s (zRun id)

/-- FRAME_RECEIVED (R282): A Zunto-TT frame ends and is judged and stored. -/
def execFrameReceived (o : ZRx) (s : State) : Host.Outcome State Fault Refusal :=
  live s (zRun (zFrameReceived o))

/-- MISS (R306): An owner's window delivers no valid frame. -/
def execMiss (s : State) : Host.Outcome State Fault Refusal :=
  live s (zRun zMiss)

/-- REFERENCE_SEND (R290): Master sends the reference message. -/
def execReferenceSend (s : State) : Host.Outcome State Fault Refusal :=
  live s (zRun zRefSend)

/-- BACKUP_REFERENCE (R292): Backup sends a late reference and becomes master. -/
def execBackupReference (s : State) : Host.Outcome State Fault Refusal :=
  live s (zRun zBackup)

/-- REFERENCE_RECEIVED (R291): A valid reference sets the basic cycle start. -/
def execReferenceReceived (o : ZRx) (s : State) : Host.Outcome State Fault Refusal :=
  live s (zRun (zRefReceived o))

/-- REF_MISS (R293): Window 0 passes without a valid reference. -/
def execRefMiss (s : State) : Host.Outcome State Fault Refusal :=
  live s (zRun zRefMiss)

/-- POLL_SEND (R286): Master polls a candidate in a polled window. -/
def execPollSend (s : State) : Host.Outcome State Fault Refusal :=
  live s (zRun zPollSend)

/-- POLL_ANSWER (R287): Polled node sends its answer. -/
def execPollAnswer (s : State) : Host.Outcome State Fault Refusal :=
  live s (zRun zPollAnswer)

/-- COLDSTART (R296): Silent LISTEN timeout enters COLDSTART and sends a reference. -/
def execColdstart (s : State) : Host.Outcome State Fault Refusal :=
  live s (zRun zColdstart)

/-- READBACK_MISMATCH (R296): Read-back differs from TXD during a send. -/
def execReadbackMismatch (c : Fin 2) (s : State) : Host.Outcome State Fault Refusal :=
  live s (zRun (zMismatch c))

/-- BACKOFF_END (R296): Cold-start back-off ends and the node resends. -/
def execBackoffEnd (s : State) : Host.Outcome State Fault Refusal :=
  live s (zRun zBackoffEnd)

/-- SWITCH (R298): Request a Zunto-TT mode switch. -/
def execSwitch (mode : BitVec 3) (s : State) : Host.Outcome State Fault Refusal :=
  live s (wr (zRun (fun s => zttCtl (s.zttCtlNow (b2n (s.bf F.ZTT_CTL_EN)) 1 mode.toNat) s)))

/-- COMMIT (R301): Commit a transmit buffer's staging page. -/
def execCommit (m : Fin 512) (len : BitVec 7) (s : State) : Host.Outcome State Fault Refusal :=
  live s (wr (zRun (zCommit m len.toNat)))

/-- CLEAR (R302): Clear a transmit buffer to NULL. -/
def execClear (m : Fin 512) (s : State) : Host.Outcome State Fault Refusal :=
  live s (wr (zRun (zClear m)))

/-- ZTT_BLOCK_RESET (R310): ZTT block reset enters OFF and clears buffers. -/
def execZttBlockReset (s : State) : Host.Outcome State Fault Refusal :=
  live s (wr (zRun zttReset))

/-- RXD_FALLING_EDGE (R296): A falling edge on an enabled channel's RXD during a cold-start back-off makes the node stop its attempt and return to LISTEN. -/
def execRxdFallingEdge (c : Fin 2) (s : State) : Host.Outcome State Fault Refusal :=
  live s (zRun (zEdge c))

end Sys2Proof.Machine
end

