-- ==== Sys2Proof/Machine/Dispatch.lean ====
section
/-! DEFINITION. One arm per command: a direct call of its meaning. -/
namespace Sys2Proof.Machine

/-- A command's effect on everything but the queue. -/
def exec (i : Instr) (s : State) : Host.Outcome State Fault Refusal :=
  match i with
  | .add o => Sys2Proof.Machine.execAdd o s
  | .sub o => Sys2Proof.Machine.execSub o s
  | .and o => Sys2Proof.Machine.execAnd o s
  | .or o => Sys2Proof.Machine.execOr o s
  | .xor o => Sys2Proof.Machine.execXor o s
  | .andn o => Sys2Proof.Machine.execAndn o s
  | .sll o => Sys2Proof.Machine.execSll o s
  | .srl o => Sys2Proof.Machine.execSrl o s
  | .sra o => Sys2Proof.Machine.execSra o s
  | .slt o => Sys2Proof.Machine.execSlt o s
  | .sltu o => Sys2Proof.Machine.execSltu o s
  | .min o => Sys2Proof.Machine.execMin o s
  | .max o => Sys2Proof.Machine.execMax o s
  | .minu o => Sys2Proof.Machine.execMinu o s
  | .maxu o => Sys2Proof.Machine.execMaxu o s
  | .addw o => Sys2Proof.Machine.execAddw o s
  | .subw o => Sys2Proof.Machine.execSubw o s
  | .sllw o => Sys2Proof.Machine.execSllw o s
  | .srlw o => Sys2Proof.Machine.execSrlw o s
  | .sraw o => Sys2Proof.Machine.execSraw o s
  | .mul o => Sys2Proof.Machine.execMul o s
  | .mulh o => Sys2Proof.Machine.execMulh o s
  | .mulhu o => Sys2Proof.Machine.execMulhu o s
  | .div o => Sys2Proof.Machine.execDiv o s
  | .divu o => Sys2Proof.Machine.execDivu o s
  | .rem o => Sys2Proof.Machine.execRem o s
  | .remu o => Sys2Proof.Machine.execRemu o s
  | .divideResult b e => Sys2Proof.Machine.execDivideResult b e s
  | .clz o => Sys2Proof.Machine.execClz o s
  | .ctz o => Sys2Proof.Machine.execCtz o s
  | .popc o => Sys2Proof.Machine.execPopc o s
  | .addi o => Sys2Proof.Machine.execAddi o s
  | .andi o => Sys2Proof.Machine.execAndi o s
  | .ori o => Sys2Proof.Machine.execOri o s
  | .xori o => Sys2Proof.Machine.execXori o s
  | .slti o => Sys2Proof.Machine.execSlti o s
  | .sltiu o => Sys2Proof.Machine.execSltiu o s
  | .slli o => Sys2Proof.Machine.execSlli o s
  | .srli o => Sys2Proof.Machine.execSrli o s
  | .srai o => Sys2Proof.Machine.execSrai o s
  | .addwi o => Sys2Proof.Machine.execAddwi o s
  | .extu o => Sys2Proof.Machine.execExtu o s
  | .exts o => Sys2Proof.Machine.execExts o s
  | .ins o => Sys2Proof.Machine.execIns o s
  | .bswap o => Sys2Proof.Machine.execBswap o s
  | .lui o => Sys2Proof.Machine.execLui o s
  | .luih o => Sys2Proof.Machine.execLuih o s
  | .beq o => Sys2Proof.Machine.execBeq o s
  | .bne o => Sys2Proof.Machine.execBne o s
  | .blt o => Sys2Proof.Machine.execBlt o s
  | .bge o => Sys2Proof.Machine.execBge o s
  | .bltu o => Sys2Proof.Machine.execBltu o s
  | .bgeu o => Sys2Proof.Machine.execBgeu o s
  | .jr o => Sys2Proof.Machine.execJr o s
  | .j o => Sys2Proof.Machine.execJ o s
  | .jl o => Sys2Proof.Machine.execJl o s
  | .lb o => Sys2Proof.Machine.execLb o s
  | .lh o => Sys2Proof.Machine.execLh o s
  | .lw o => Sys2Proof.Machine.execLw o s
  | .ld o => Sys2Proof.Machine.execLd o s
  | .lbu o => Sys2Proof.Machine.execLbu o s
  | .lhu o => Sys2Proof.Machine.execLhu o s
  | .lwu o => Sys2Proof.Machine.execLwu o s
  | .sb o => Sys2Proof.Machine.execSb o s
  | .sh o => Sys2Proof.Machine.execSh o s
  | .sw o => Sys2Proof.Machine.execSw o s
  | .sd o => Sys2Proof.Machine.execSd o s
  | .amoadd o => Sys2Proof.Machine.execAmoadd o s
  | .amoswap o => Sys2Proof.Machine.execAmoswap o s
  | .amocas o => Sys2Proof.Machine.execAmocas o s
  | .amomin o => Sys2Proof.Machine.execAmomin o s
  | .amomax o => Sys2Proof.Machine.execAmomax o s
  | .amominu o => Sys2Proof.Machine.execAmominu o s
  | .amomaxu o => Sys2Proof.Machine.execAmomaxu o s
  | .loadComplete x ok => Sys2Proof.Machine.execLoadComplete x ok s
  | .storeAccept x => Sys2Proof.Machine.execStoreAccept x s
  | .fence o => Sys2Proof.Machine.execFence o s
  | .fenceIo o => Sys2Proof.Machine.execFenceIo o s
  | .fenceFrm th => Sys2Proof.Machine.execFenceFrm th s
  | .fenceLoft th => Sys2Proof.Machine.execFenceLoft th s
  | .fenceComplete x => Sys2Proof.Machine.execFenceComplete x s
  | .hashMix o => Sys2Proof.Machine.execHashMix o s
  | .hashFlow o => Sys2Proof.Machine.execHashFlow o s
  | .crc32 o => Sys2Proof.Machine.execCrc32 o s
  | .crc32c o => Sys2Proof.Machine.execCrc32c o s
  | .crc16 o => Sys2Proof.Machine.execCrc16 o s
  | .frmGet o => Sys2Proof.Machine.execFrmGet o s
  | .frmNew o => Sys2Proof.Machine.execFrmNew o s
  | .frmHdr o => Sys2Proof.Machine.execFrmHdr o s
  | .frmLd o => Sys2Proof.Machine.execFrmLd o s
  | .frmSt o => Sys2Proof.Machine.execFrmSt o s
  | .frmPut o => Sys2Proof.Machine.execFrmPut o s
  | .frmDrop o => Sys2Proof.Machine.execFrmDrop o s
  | .frmTs o => Sys2Proof.Machine.execFrmTs o s
  | .qGet o => Sys2Proof.Machine.execQGet o s
  | .qPut o => Sys2Proof.Machine.execQPut o s
  | .qSig o => Sys2Proof.Machine.execQSig o s
  | .waitSatisfied th => Sys2Proof.Machine.execWaitSatisfied th s
  | .tmRd o => Sys2Proof.Machine.execTmRd o s
  | .tmSched o => Sys2Proof.Machine.execTmSched o s
  | .tmWait o => Sys2Proof.Machine.execTmWait o s
  | .tmWaitEnd th => Sys2Proof.Machine.execTmWaitEnd th s
  | .tmCan o => Sys2Proof.Machine.execTmCan o s
  | .ltxOpen o => Sys2Proof.Machine.execLtxOpen o s
  | .ltxPut o => Sys2Proof.Machine.execLtxPut o s
  | .ltxCput o => Sys2Proof.Machine.execLtxCput o s
  | .ltxCommit o => Sys2Proof.Machine.execLtxCommit o s
  | .ltxAbort o => Sys2Proof.Machine.execLtxAbort o s
  | .ltxPin o => Sys2Proof.Machine.execLtxPin o s
  | .ltxGet o => Sys2Proof.Machine.execLtxGet o s
  | .ltxUnpin o => Sys2Proof.Machine.execLtxUnpin o s
  | .sxRx o => Sys2Proof.Machine.execSxRx o s
  | .sxTx o => Sys2Proof.Machine.execSxTx o s
  | .sxKey o => Sys2Proof.Machine.execSxKey o s
  | .sxKa o => Sys2Proof.Machine.execSxKa o s
  | .evLog o => Sys2Proof.Machine.execEvLog o s
  | .unitResult x => Sys2Proof.Machine.execUnitResult x s
  | .yld o => Sys2Proof.Machine.execYld o s
  | .yieldResume th => Sys2Proof.Machine.execYieldResume th s
  | .sysRds th rd k => Sys2Proof.Machine.execSysRds th rd k s
  | .sysWrs th rs k => Sys2Proof.Machine.execSysWrs th rs k s
  | .sysTrap th code => Sys2Proof.Machine.execSysTrap th code s
  | .sysRet th => Sys2Proof.Machine.execSysRet th s
  | .loadError x => Sys2Proof.Machine.execLoadError x s
  | .threadRun b e t pad => Sys2Proof.Machine.execThreadRun b e t pad s
  | .threadStop b e t pad => Sys2Proof.Machine.execThreadStop b e t pad s
  | .drainComplete th => Sys2Proof.Machine.execDrainComplete th s
  | .threadPcWrite b e t v => Sys2Proof.Machine.execThreadPcWrite b e t v s
  | .barnReset b => Sys2Proof.Machine.execBarnReset b s
  | .barnResetEnd b => Sys2Proof.Machine.execBarnResetEnd b s
  | .csDataWrite v => Sys2Proof.Machine.execCsDataWrite v s
  | .csDataRead => Sys2Proof.Machine.execCsDataRead s
  | .icinv => Sys2Proof.Machine.execIcinv s
  | .icinvDone => Sys2Proof.Machine.execIcinvDone s
  | .periodBoundary p => Sys2Proof.Machine.execPeriodBoundary p s
  | .fallbackBoundary p => Sys2Proof.Machine.execFallbackBoundary p s
  | .perEnSet p v => Sys2Proof.Machine.execPerEnSet p v s
  | .perEnClear p v => Sys2Proof.Machine.execPerEnClear p v s
  | .padConfigWrite p r v => Sys2Proof.Machine.execPadConfigWrite p r v s
  | .privLate th => Sys2Proof.Machine.execPrivLate th s
  | .dramGrant l => Sys2Proof.Machine.execDramGrant l s
  | .incrLoWrite n v => Sys2Proof.Machine.execIncrLoWrite n v s
  | .incrHiWrite n v => Sys2Proof.Machine.execIncrHiWrite n v s
  | .domStep n reacq => Sys2Proof.Machine.execDomStep n reacq s
  | .reacq n => Sys2Proof.Machine.execReacq n s
  | .stepApply n => Sys2Proof.Machine.execStepApply n s
  | .slewDone n => Sys2Proof.Machine.execSlewDone n s
  | .domainEnable n v => Sys2Proof.Machine.execDomainEnable n v s
  | .domainDisable n v => Sys2Proof.Machine.execDomainDisable n v s
  | .referenceEvent o => Sys2Proof.Machine.execReferenceEvent o s
  | .coordLost n => Sys2Proof.Machine.execCoordLost n s
  | .holdoverExpire n => Sys2Proof.Machine.execHoldoverExpire n s
  | .snap => Sys2Proof.Machine.execSnap s
  | .snapCapture => Sys2Proof.Machine.execSnapCapture s
  | .snapValid => Sys2Proof.Machine.execSnapValid s
  | .captureEdge ix o => Sys2Proof.Machine.execCaptureEdge ix o s
  | .capturePop ix tag => Sys2Proof.Machine.execCapturePop ix tag s
  | .toutConfig j r v => Sys2Proof.Machine.execToutConfig j r v s
  | .toutTrainEdge j => Sys2Proof.Machine.execToutTrainEdge j s
  | .toutHigh => Sys2Proof.Machine.execToutHigh s
  | .toutLow => Sys2Proof.Machine.execToutLow s
  | .toutToggle => Sys2Proof.Machine.execToutToggle s
  | .toutPulse => Sys2Proof.Machine.execToutPulse s
  | .pulseSecondInversion j => Sys2Proof.Machine.execPulseSecondInversion j s
  | .qsig => Sys2Proof.Machine.execQsig s
  | .regWr => Sys2Proof.Machine.execRegWr s
  | .actionSnap => Sys2Proof.Machine.execActionSnap s
  | .tbuBlockReset => Sys2Proof.Machine.execTbuBlockReset s
  | .loftFormat => Sys2Proof.Machine.execLoftFormat s
  | .formatDone => Sys2Proof.Machine.execFormatDone s
  | .loftResume => Sys2Proof.Machine.execLoftResume s
  | .resumeDone => Sys2Proof.Machine.execResumeDone s
  | .loftDisable => Sys2Proof.Machine.execLoftDisable s
  | .sealBoundary => Sys2Proof.Machine.execSealBoundary s
  | .sealNow => Sys2Proof.Machine.execSealNow s
  | .versionWrite => Sys2Proof.Machine.execVersionWrite s
  | .epochSeal => Sys2Proof.Machine.execEpochSeal s
  | .leaseExpire => Sys2Proof.Machine.execLeaseExpire s
  | .pin h => Sys2Proof.Machine.execPin h s
  | .unpin h => Sys2Proof.Machine.execUnpin h s
  | .viewRead off n => Sys2Proof.Machine.execViewRead off n s
  | .start c => Sys2Proof.Machine.execStart c s
  | .abort c => Sys2Proof.Machine.execAbort c s
  | .sweepClearDone c => Sys2Proof.Machine.execSweepClearDone c s
  | .sweepEmit c => Sys2Proof.Machine.execSweepEmit c s
  | .sweepEnd c => Sys2Proof.Machine.execSweepEnd c s
  | .mapWrite m pad v => Sys2Proof.Machine.execMapWrite m pad v s
  | .lftBlockReset => Sys2Proof.Machine.execLftBlockReset s
  | .lftResetEnd => Sys2Proof.Machine.execLftResetEnd s
  | .replica on => Sys2Proof.Machine.execReplica on s
  | .replicaEpoch e o => Sys2Proof.Machine.execReplicaEpoch e o s
  | .ethModeWrite p v => Sys2Proof.Machine.execEthModeWrite p v s
  | .portEnable p v => Sys2Proof.Machine.execPortEnable p v s
  | .linkUp p c => Sys2Proof.Machine.execLinkUp p c s
  | .linkDown p c => Sys2Proof.Machine.execLinkDown p c s
  | .receiveFrame o => Sys2Proof.Machine.execReceiveFrame o s
  | .pauseReceived p o => Sys2Proof.Machine.execPauseReceived p o s
  | .pauseExpire p => Sys2Proof.Machine.execPauseExpire p s
  | .pauseRefresh p => Sys2Proof.Machine.execPauseRefresh p s
  | .transmitFrame p ago => Sys2Proof.Machine.execTransmitFrame p ago s
  | .transmitEnd p => Sys2Proof.Machine.execTransmitEnd p s
  | .verifySend p => Sys2Proof.Machine.execVerifySend p s
  | .verifyTimeout p => Sys2Proof.Machine.execVerifyTimeout p s
  | .verifyReceived p => Sys2Proof.Machine.execVerifyReceived p s
  | .responseReceived p => Sys2Proof.Machine.execResponseReceived p s
  | .tsqExpire p => Sys2Proof.Machine.execTsqExpire p s
  | .cntClr p => Sys2Proof.Machine.execCntClr p s
  | .portReset p => Sys2Proof.Machine.execPortReset p s
  | .ftRead x => Sys2Proof.Machine.execFtRead x s
  | .ftWrite x => Sys2Proof.Machine.execFtWrite x s
  | .ftInvalidate x => Sys2Proof.Machine.execFtInvalidate x s
  | .ftLookup => Sys2Proof.Machine.execFtLookup s
  | .pinChange o => Sys2Proof.Machine.execPinChange o s
  | .yrdPoolWrite ix v => Sys2Proof.Machine.execYrdPoolWrite ix v s
  | .yrdBlockReset => Sys2Proof.Machine.execYrdBlockReset s
  | .initDone => Sys2Proof.Machine.execInitDone s
  | .lineSelect o => Sys2Proof.Machine.execLineSelect o s
  | .gateEntryChange p => Sys2Proof.Machine.execGateEntryChange p s
  | .swap p => Sys2Proof.Machine.execSwap p s
  | .cancel p => Sys2Proof.Machine.execCancel p s
  | .swapTakeEffect p => Sys2Proof.Machine.execSwapTakeEffect p s
  | .gclEnable p on => Sys2Proof.Machine.execGclEnable p on s
  | .holdAssert p => Sys2Proof.Machine.execHoldAssert p s
  | .holdRelease p => Sys2Proof.Machine.execHoldRelease p s
  | .apply ix => Sys2Proof.Machine.execApply ix s
  | .debtEnd ix => Sys2Proof.Machine.execDebtEnd ix s
  | .fqCfgWrite f v => Sys2Proof.Machine.execFqCfgWrite f v s
  | .fqSel v => Sys2Proof.Machine.execFqSel v s
  | .shpSel v => Sys2Proof.Machine.execShpSel v s
  | .schBlockReset => Sys2Proof.Machine.execSchBlockReset s
  | .mirrorReceived ix q key => Sys2Proof.Machine.execMirrorReceived ix q key s
  | .mirrorAck ix q => Sys2Proof.Machine.execMirrorAck ix q s
  | .ackTimeout => Sys2Proof.Machine.execAckTimeout s
  | .matchWaitExpire => Sys2Proof.Machine.execMatchWaitExpire s
  | .recoveryReset ix => Sys2Proof.Machine.execRecoveryReset ix s
  | .heartbeatSend => Sys2Proof.Machine.execHeartbeatSend s
  | .heartbeatReceived path w => Sys2Proof.Machine.execHeartbeatReceived path w s
  | .partnerLost => Sys2Proof.Machine.execPartnerLost s
  | .pathFault path => Sys2Proof.Machine.execPathFault path s
  | .stepdown r => Sys2Proof.Machine.execStepdown r s
  | .promote => Sys2Proof.Machine.execPromote s
  | .handover l => Sys2Proof.Machine.execHandover l s
  | .handoverAck => Sys2Proof.Machine.execHandoverAck s
  | .digestSend => Sys2Proof.Machine.execDigestSend s
  | .digestReceived n d cnt => Sys2Proof.Machine.execDigestReceived n d cnt s
  | .digestMissing => Sys2Proof.Machine.execDigestMissing s
  | .verdict peer => Sys2Proof.Machine.execVerdict peer s
  | .groomRound => Sys2Proof.Machine.execGroomRound s
  | .kernelSignature v => Sys2Proof.Machine.execKernelSignature v s
  | .roundEnd => Sys2Proof.Machine.execRoundEnd s
  | .healthReport l => Sys2Proof.Machine.execHealthReport l s
  | .voxMessageReceived l m => Sys2Proof.Machine.execVoxMessageReceived l m s
  | .voxLinkDown l => Sys2Proof.Machine.execVoxLinkDown l s
  | .voxLinkUp l lanes peer => Sys2Proof.Machine.execVoxLinkUp l lanes peer s
  | .peerMessage o => Sys2Proof.Machine.execPeerMessage o s
  | .redBlockReset => Sys2Proof.Machine.execRedBlockReset s
  | .voxBlockReset => Sys2Proof.Machine.execVoxBlockReset s
  | .redEnable => Sys2Proof.Machine.execRedEnable s
  | .resolveTimeout => Sys2Proof.Machine.execResolveTimeout s
  | .redSel v => Sys2Proof.Machine.execRedSel v s
  | .zttEnable on => Sys2Proof.Machine.execZttEnable on s
  | .cycleStart => Sys2Proof.Machine.execCycleStart s
  | .windowStart => Sys2Proof.Machine.execWindowStart s
  | .frameSend => Sys2Proof.Machine.execFrameSend s
  | .guardianCut => Sys2Proof.Machine.execGuardianCut s
  | .frameReceived o => Sys2Proof.Machine.execFrameReceived o s
  | .miss => Sys2Proof.Machine.execMiss s
  | .referenceSend => Sys2Proof.Machine.execReferenceSend s
  | .backupReference => Sys2Proof.Machine.execBackupReference s
  | .referenceReceived o => Sys2Proof.Machine.execReferenceReceived o s
  | .refMiss => Sys2Proof.Machine.execRefMiss s
  | .pollSend => Sys2Proof.Machine.execPollSend s
  | .pollAnswer => Sys2Proof.Machine.execPollAnswer s
  | .coldstart => Sys2Proof.Machine.execColdstart s
  | .readbackMismatch c => Sys2Proof.Machine.execReadbackMismatch c s
  | .backoffEnd => Sys2Proof.Machine.execBackoffEnd s
  | .switch mode => Sys2Proof.Machine.execSwitch mode s
  | .commit m len => Sys2Proof.Machine.execCommit m len s
  | .clear m => Sys2Proof.Machine.execClear m s
  | .zttBlockReset => Sys2Proof.Machine.execZttBlockReset s
  | .sqDoorbell q idx => Sys2Proof.Machine.execSqDoorbell q idx s
  | .cqDoorbell q idx => Sys2Proof.Machine.execCqDoorbell q idx s
  | .disable q => Sys2Proof.Machine.execDisable q s
  | .drainDone q => Sys2Proof.Machine.execDrainDone q s
  | .sqFetchReturn q cov => Sys2Proof.Machine.execSqFetchReturn q cov s
  | .txEntry ix => Sys2Proof.Machine.execTxEntry ix s
  | .p9Frame => Sys2Proof.Machine.execP9Frame s
  | .d2hRequest ix => Sys2Proof.Machine.execD2hRequest ix s
  | .createPair => Sys2Proof.Machine.execCreatePair s
  | .destroyPair => Sys2Proof.Machine.execDestroyPair s
  | .resetQueue => Sys2Proof.Machine.execResetQueue s
  | .createIq => Sys2Proof.Machine.execCreateIq s
  | .destroyIq => Sys2Proof.Machine.execDestroyIq s
  | .query => Sys2Proof.Machine.execQuery s
  | .setIrq => Sys2Proof.Machine.execSetIrq s
  | .indexWord q => Sys2Proof.Machine.execIndexWord q s
  | .coalesceTimeout q => Sys2Proof.Machine.execCoalesceTimeout q s
  | .functionReset k => Sys2Proof.Machine.execFunctionReset k s
  | .perst low => Sys2Proof.Machine.execPerst low s
  | .hostTimeout q tmo => Sys2Proof.Machine.execHostTimeout q tmo s
  | .write addr v => Sys2Proof.Machine.execWrite addr v s
  | .read addr => Sys2Proof.Machine.execRead addr s
  | .status => Sys2Proof.Machine.execStatus s
  | .qmBlockReset => Sys2Proof.Machine.execQmBlockReset s
  | .saxEnable on => Sys2Proof.Machine.execSaxEnable on s
  | .saxReady => Sys2Proof.Machine.execSaxReady s
  | .keepalive ix => Sys2Proof.Machine.execKeepalive ix s
  | .idle ix => Sys2Proof.Machine.execIdle ix s
  | .sessionRecord l => Sys2Proof.Machine.execSessionRecord l s
  | .resync => Sys2Proof.Machine.execResync s
  | .saxBlockReset => Sys2Proof.Machine.execSaxBlockReset s
  | .saxSel v => Sys2Proof.Machine.execSaxSel v s
  | .faultMessage => Sys2Proof.Machine.execFaultMessage s
  | .faultReaction => Sys2Proof.Machine.execFaultReaction s
  | .fenceLift w v => Sys2Proof.Machine.execFenceLift w v s
  | .fenceSet w v => Sys2Proof.Machine.execFenceSet w v s
  | .force src v => Sys2Proof.Machine.execForce src v s
  | .fwRaise v => Sys2Proof.Machine.execFwRaise v s
  | .safe => Sys2Proof.Machine.execSafe s
  | .parityFailure off => Sys2Proof.Machine.execParityFailure off s
  | .errPulseEnd => Sys2Proof.Machine.execErrPulseEnd s
  | .hold v => Sys2Proof.Machine.execHold v s
  | .cascadeTailEnd src => Sys2Proof.Machine.execCascadeTailEnd src s
  | .eventRecord => Sys2Proof.Machine.execEventRecord s
  | .rateWindow => Sys2Proof.Machine.execRateWindow s
  | .spillWrite => Sys2Proof.Machine.execSpillWrite s
  | .spillGap => Sys2Proof.Machine.execSpillGap s
  | .spillEnable v => Sys2Proof.Machine.execSpillEnable v s
  | .recorderMemFault slot word => Sys2Proof.Machine.execRecorderMemFault slot word s
  | .cursorRead o => Sys2Proof.Machine.execCursorRead o s
  | .adv c => Sys2Proof.Machine.execAdv c s
  | .seekOldest c => Sys2Proof.Machine.execSeekOldest c s
  | .seekHead c => Sys2Proof.Machine.execSeekHead c s
  | .evrBlockReset => Sys2Proof.Machine.execEvrBlockReset s
  | .memoryTestDone pass => Sys2Proof.Machine.execMemoryTestDone pass s
  | .retentionClr => Sys2Proof.Machine.execRetentionClr s
  | .pstateEvaluate => Sys2Proof.Machine.execPstateEvaluate s
  | .timedWake => Sys2Proof.Machine.execTimedWake s
  | .untimedWake c => Sys2Proof.Machine.execUntimedWake c s
  | .wakeDone => Sys2Proof.Machine.execWakeDone s
  | .shedEnter vin => Sys2Proof.Machine.execShedEnter vin s
  | .shedExit vin => Sys2Proof.Machine.execShedExit vin s
  | .shedSealed => Sys2Proof.Machine.execShedSealed s
  | .supplyLost vin => Sys2Proof.Machine.execSupplyLost vin s
  | .sh4Recovery vin => Sys2Proof.Machine.execSh4Recovery vin s
  | .brownOut vin => Sys2Proof.Machine.execBrownOut vin s
  | .thermal tj => Sys2Proof.Machine.execThermal tj s
  | .railChange good vioA33 vioB25 => Sys2Proof.Machine.execRailChange good vioA33 vioB25 s
  | .shThrWrite k v => Sys2Proof.Machine.execShThrWrite k v s
  | .psMaxWrite v => Sys2Proof.Machine.execPsMaxWrite v s
  | .rstN low => Sys2Proof.Machine.execRstN low s
  | .resetRelease bootSel twinRole => Sys2Proof.Machine.execResetRelease bootSel twinRole s
  | .cold w v => Sys2Proof.Machine.execCold w v s
  | .warm w v => Sys2Proof.Machine.execWarm w v s
  | .warmReload => Sys2Proof.Machine.execWarmReload s
  | .boot => Sys2Proof.Machine.execBoot s
  | .imageFetched l => Sys2Proof.Machine.execImageFetched l s
  | .go v => Sys2Proof.Machine.execGo v s
  | .twinBootRetry => Sys2Proof.Machine.execTwinBootRetry s
  | .twinImageRequest => Sys2Proof.Machine.execTwinImageRequest s
  | .password w => Sys2Proof.Machine.execPassword w s
  | .challenge w => Sys2Proof.Machine.execChallenge w s
  | .response w => Sys2Proof.Machine.execResponse w s
  | .debugClose w => Sys2Proof.Machine.execDebugClose w s
  | .nonceExpire => Sys2Proof.Machine.execNonceExpire s
  | .freeze low => Sys2Proof.Machine.execFreeze low s
  | .idcode => Sys2Proof.Machine.execIdcode s
  | .samplePreload v => Sys2Proof.Machine.execSamplePreload v s
  | .extest => Sys2Proof.Machine.execExtest s
  | .secAccess write addr v => Sys2Proof.Machine.execSecAccess write addr v s
  | .diagRead addr => Sys2Proof.Machine.execDiagRead addr s
  | .regAccess write addr v => Sys2Proof.Machine.execRegAccess write addr v s
  | .memRead addr => Sys2Proof.Machine.execMemRead addr s
  | .frzChain src => Sys2Proof.Machine.execFrzChain src s
  | .bypass => Sys2Proof.Machine.execBypass s
  | .svnEn w v => Sys2Proof.Machine.execSvnEn w v s
  | .revoke w v => Sys2Proof.Machine.execRevoke w v s
  | .fuseDone ok => Sys2Proof.Machine.execFuseDone ok s
  | .scrub off => Sys2Proof.Machine.execScrub off s
  | .registerWrite w off v be => Sys2Proof.Machine.execRegisterWrite w off v be s
  | .rxdFallingEdge c => Sys2Proof.Machine.execRxdFallingEdge c s
  | .loRead o => Sys2Proof.Machine.execLoRead o s
  | .resyncComplete => Sys2Proof.Machine.execResyncComplete s
  | .debugWaitEnd => Sys2Proof.Machine.execDebugWaitEnd s
  | .loopbackEnd p ok => Sys2Proof.Machine.execLoopbackEnd p ok s
  | .stagingWrite off l => Sys2Proof.Machine.execStagingWrite off l s
  | .configurationWrite o => Sys2Proof.Machine.execConfigurationWrite o s

end Sys2Proof.Machine
end

