-- ==== Sys2Proof/Machine/Tick.lean ====
section
/-! DEFINITION. What one tick of the 250 MHz clock does by itself (R120): the table has no row for a tick, so this is what the block does
when no command waits (log 10). Every event that the spec times has a row of its own and is guarded by the time it names. -/
namespace Sys2Proof.Machine

/-- One tick of time. -/
def State.later (s : State) : State := { s with tick := s.tick + 1 }

/-- SEC's timers during a freeze, when TCK clocks them (R417): one step of each, while time stands still for everything else. -/
def State.secTck (s : State) : State :=
  s.setSec { s.sec with waitEnd := s.sec.waitEnd.map (· - 1), nonce := s.sec.nonce.map (fun n => (n.1, n.2 - 1)) }

/-- CYCLE of every barn that has power (R43, R44). -/
def State.tickCycles (s : State) : State :=
  s.setBrn { s.brn with cyc := (List.range 8).map (fun b => s.brn.cyc.getD b 0 + (if s.barnGated b then 0 else s.cclk)) }

/-- Is SCH powered (R383, R390)? -/
def State.schOn (s : State) : Bool := s.gf F.PWR_STAT_SH < 3 && s.gf F.PWR_STAT_PS < 3

/-- One tick with no command: time, the domains, CYCLE, the shapers and rounds, the ports' timers and loopbacks, QM's own work, the
frame on the field bus, the arbiters' samples, the sessions' clocks, the interrupt requests. -/
def idleTick (s : State) : State :=
  if s.gctl.frozen then s.secTck
  else if s.gctl.inReset then if s.gctl.brown || s.gctl.frzLow then s.later else s.later.tickDomains
  else
    let s := s.deferActs.later.tickDomains.turnDoms.tickCycles
    let s := if s.schOn then s.schTick.shpTick.schTick else s
    let s := s.linkTick.holdTick.loopRun.healthSync
    (saxSync (zRun id s.replicaRun.qmTick)).arbSync.irqSync

end Sys2Proof.Machine
end

