-- ==== Sys2Proof/Safety.lean ====
section
/-! DEFINITION. What a step did, in the terms statements use. -/
namespace Sys2Proof.Machine

/-- The step answered a next state. -/
def Next (o : Host.Outcome State Fault Refusal) (t : State) : Prop := o = .next t

/-- Does the outcome go on? -/
def goesOn (o : Host.Outcome State Fault Refusal) : Bool :=
  match o with
  | .next _ => true
  | _ => false

/-- The canonical form of a memory: addresses strictly rising, and no byte listed that an unlisted address reads as, which is 0. -/
def Memory.wf (m : List Host.Cell) : Bool := SMap.wf (fun _ => 0) m

/-- The device's memory, the host's memory and the marks of words in error are in canonical form. -/
def State.memWf (s : State) : Prop := Memory.wf s.mem = true ∧ Memory.wf s.host = true ∧ SMap.wf (fun _ => Ecc.ok) s.ecc = true

end Sys2Proof.Machine
end

