-- ==== Sys2Proof/WellFormed.lean ====
section
/-! DEFINITION. Which commands the environment can send: operands whose type is wider than what the spec lets arrive. An ill-formed command
still has a meaning; statements that need these bounds take `wellFormed` as a hypothesis. -/
namespace Sys2Proof
open Machine

/-- The reserved form of ADD carries a reserved word (R54). -/
def addWf (o : AddOp) : Bool :=
  match o with
  | .op _ => true
  | .reserved _ w => reservedWord w.toNat

/-- A PFC frame carries the quanta of eight priorities (R188). -/
def pauseWf (o : PauseOp) : Bool :=
  match o with
  | .pfc _ q => q.length == 8
  | _ => true

/-- A peer message has 64 bytes (R276). -/
def peerWf (o : PeerSrc) : Bool :=
  match o with
  | .queue => true
  | .link _ _ d => d.length == 64

/-- Operand checks of the commands that need one. -/
def wellFormed (i : Instr) : Bool :=
  match i with
  | .add o => addWf o
  | .viewRead off n => off.toNat + n.val ≤ 2 ^ 24
  | .replicaEpoch _ o => o.points.all (fun v => v.1 < 2 ^ 25)
  | .pauseReceived _ o => pauseWf o
  | .handover l => l.all (fun x => x.1 < 4096 && x.2 < 65536)
  | .digestReceived _ d cnt => d < 2 ^ 32 && cnt < 2 ^ 32
  | .healthReport l => l.length == 32
  | .voxLinkUp _ lanes _ => lanes != 0
  | .peerMessage o => peerWf o
  | .sessionRecord l => l.length == 64
  | .imageFetched l => l.length ≤ 2 ^ 24
  | .stagingWrite off l => off.toNat + l.length ≤ 2 ^ 24
  | _ => true

end Sys2Proof
end

