-- ==== Sys2Proof/Certificates/Slice0/Obligations.lean ====
section
/-! DEFINITION. The statements for the provers. A claim about a command reads: at every state that meets the named conditions, exec answers a
next state, and this holds of it. -/
namespace Sys2Proof.Claims
open Sys2Proof.Machine

/-- Command `c` completes at `s`, and `P` holds of the next state. -/
def Does (c : Instr) (s : State) (P : State → Prop) : Prop := ∃ t, exec c s = .next t ∧ P t

/-- The device runs: neither a cold reset nor a freeze holds it, and the FCU is not in the safe state. -/
def Runs (s : State) : Prop := s.stopped = false ∧ s.safe = false

/-! ### Engine instructions -/

/-- The state in which an instruction of thread `th` reads its operands: a YLD that resumes has written its register (R75). -/
def Start (s : State) (th : Nat) : State := s.settleYield th

/-- The address of the instruction. -/
def Pc (s : State) (th : Nat) : Nat := (s.thr th).pc

/-- The next instruction's address. -/
def Next (s : State) (th : Nat) : Nat := Pc s th + 4

/-- A register as the instruction reads it. -/
def Rv (s : State) (th : Fin 512) (r : Fin 32) : Word := (Start s th).g th r

/-- Thread `th` reaches an instruction (R24, R27, R39, R88): it may issue, its paddock can pay for the slot, no fence waits with a failed
load, and the fetch is good. -/
def Fetches (s : State) (th : Nat) : Prop :=
  s.stopped = false ∧ s.mayIssue th = true ∧ s.canCharge (s.padOf th) 0 1 = true ∧ fenceDue ((Start s th).thr th) = none ∧
  (Start s th).fetchBad th = false

/-- Thread `th` issues an instruction now (R24, R27, R36, R39, R40, R87): it reaches it, no failed load traps in its place, and nothing
holds it. -/
def Issues (s : State) (th : Nat) (q : Req) : Prop :=
  Fetches s th ∧ dueErr ((Start s th).thr th) q = none ∧ (Start s th).heldIssue th q = false

/-- As `Issues`, for an instruction that needs nothing but its source registers. -/
def IssuesReg (s : State) (th : Nat) (srcs : List Nat) : Prop := Issues s th { word := 0, srcs := srcs }

/-- What an issue costs (R23, R27, R44): a corrected error of the word is counted and reported, the slot charged, INSTRET advanced. The
instruction has its effect in this state. -/
def Counted (s : State) (th : Nat) : State :=
  let b := Start s th
  (if b.eccOf (codeBase + Pc s th) == .ce then b.memError (codeBase + Pc s th) th else b).countIssue th

/-- `t` is `b` but for thread `th`, its registers, its engine's divider, and interrupt lines that rose. -/
def From (b t : State) (th : Nat) : Prop :=
  t = { b with brn := { b.brn with thr := t.brn.thr, gpr := t.brn.gpr, div := t.brn.div }, irq := t.irq } ∧
  (∀ u, u ≠ th → t.thr u = b.thr u) ∧ ∀ e, e ≠ th / 4 → t.brn.div.get (fun _ => none) e = b.brn.div.get (fun _ => none) e

/-- No register changes, but for one that a YLD wrote. -/
def RegsStay (s t : State) (th : Nat) : Prop := ∀ (u : Fin 512) (r : Fin 32), t.g u r = (Start s th).g u r

/-- The divider of the thread's engine. -/
def Div (s : State) (th : Nat) : Option Divider := s.brn.div.get (fun _ => none) (th / 4)

/-- A result for register `rd` supersedes one of the thread still in flight for it. -/
def Freed (rd : Nat) (l : List Txn) : List Txn := l.map (fun x => if rd ≠ 0 ∧ x.rd = rd then { x with rd := 0 } else x)
def FreedDiv (th rd : Nat) (d : Option Divider) : Option Divider := d.map (fun x => if x.th = th ∧ x.rd = rd then { x with rd := 0 } else x)

/-- The thread once the instruction has issued, with the PC at `pc`. -/
def Ran (s : State) (th pc : Nat) : Thread :=
  { s.thr th with pc := pc, instret := (s.thr th).instret + 1, lastPc := Pc s th, yieldRd := none }

/-- A result reaches register `rd` (g0 discards it, R53), the PC is `pc`, and nothing else differs from `b`. -/
def ResultOn (b s : State) (th : Fin 512) (rd : Fin 32) (v : Word) (pc : Nat) (t : State) : Prop :=
  (∀ (u : Fin 512) (r : Fin 32), t.g u r = if u = th ∧ r = rd ∧ rd ≠ 0 then v else (Start s th).g u r) ∧
  t.thr th = { Ran s th pc with txns := Freed rd (s.thr th).txns } ∧ Div t th = FreedDiv th rd (Div s th) ∧ From b t th

/-- A result reaches register `rd`, and nothing changes beside it but what the issue costs. -/
def Result (s : State) (th : Fin 512) (rd : Fin 32) (v : Word) (pc : Nat) (t : State) : Prop := ResultOn (Counted s th) s th rd v pc t

/-- No register changes, the PC is `pc`, and nothing else differs from `b`. -/
def GoesOn (b s : State) (th : Fin 512) (pc : Nat) (t : State) : Prop :=
  RegsStay s t th ∧ t.thr th = Ran s th pc ∧ Div t th = Div s th ∧ From b t th

/-- No register changes, the PC is `pc`, and nothing changes beside it but what the issue costs. -/
def Goes (s : State) (th : Fin 512) (pc : Nat) (t : State) : Prop := GoesOn (Counted s th) s th pc t

/-- 1 where a proposition holds, else 0. -/
def One (p : Prop) [Decidable p] : Word := if p then 1 else 0

/-- The low 32 bits, sign-extended. -/
def Low32 (v : Word) : Word := (v.setWidth 32).signExtend 64

/-- The handler of a cause (R38). -/
def Handler (s : State) (th cause : Nat) : Nat := s.gf (F.BRN_PAD_CTL_VEC_BASE (s.padOf th)) * 256 + cause * 32

/-- A trap of an instruction (R38): the address of the instruction (or of the next), cause, value, the handler's address; the thread's
registers and everything else are as before. -/
def Traps (s : State) (th : Fin 512) (cause tval epc : Nat) (t : State) : Prop :=
  t.thr th = { Ran s th (Handler s th cause) with inTrap := true, epc := epc, cause := cause, tval := tval } ∧
  RegsStay s t th ∧ Div t th = Div s th ∧ From (Counted s th) t th

/-- A trap while IN_TRAP is 1 (R41): the thread halts at the instruction, and the barn reports it. -/
def Halts (s : State) (th : Fin 512) (cause : Nat) (t : State) : Prop :=
  t.thr th = { Ran s th (Pc s th) with st := 5 } ∧ RegsStay s t th ∧ Div t th = Div s th ∧
  From ((Counted s th).raise (0x30 + barnOf th) kTRAP (th.val + engOf th * 2 ^ 24 + cause * 2 ^ 32)) t th

/-- A reserved word traps with ILLEGAL (R54, R41). -/
def Illegal (s : State) (th : Fin 512) (w : Nat) (t : State) : Prop :=
  if (s.thr th).inTrap = false then Traps s th tILLEGAL w (Pc s th) t else Halts s th tILLEGAL t

/-- Command `c` leads to `s'`, in which interrupt requests that rose are signalled (R333); so everything but the `irq` of the next state is
that of `s'`. -/
def Into (c : Instr) (s s' : State) : Prop := exec c s = .next s'.irqSync

/-- Another record of a thread. -/
def ThrIs (s : State) (th : Nat) (x : Thread) : State :=
  { s with brn := { s.brn with thr := s.brn.thr.set (fun _ => Thread.init) th x } }

/-- The time base with another domain `n`. -/
def DomIs (s : State) (n : Nat) (d : Dom) : State := { s with tbu := { s.tbu with dom := s.tbu.dom.set Dom.init n d } }

/-- Action `a` runs next, is of kind `k`, and fewer than four ran on this tick (R139). -/
def RunsNext (s : State) (a : Action) (k : Nat) : Prop :=
  s.dueAct = some a ∧ a.kind = k ∧ (s.tbu.ranTick = s.tick → s.tbu.ranCnt < 4)

/-- The time base once action `a` is taken out to run. -/
def Taken (s : State) (a : Action) : TbuSt :=
  { s.tbu with acts := s.tbu.acts.filter (fun x => x.order != a.order), ranTick := s.tick,
               ranCnt := (if s.tbu.ranTick = s.tick then s.tbu.ranCnt else 0) + 1 }

/-- The state once action `a` is taken out: one that was due on an earlier tick sets DEFER (R139). -/
def Took (s : State) (a : Action) : State :=
  { (if a.deferred then s.sf F.TBU_ACT_STAT_DEFER 1 else s) with tbu := Taken s a }

/-- An action of domain `n` is discarded: ACT_DISCARD set, DISC advanced (R140, R446). -/
def Lost1 (s : State) (n : Nat) : State := (s.sf (F.TBU_DOM_STAT_ACT_DISCARD n) 1).incf F.TBU_ACT_CNT_DISC

/-- As `Issues`, for an access of a space: outside tack it needs a slot, and an access of DRAM a unit of the paddock's DRAM budget. -/
def AccessIssues (s : State) (th : Nat) (srcs : List Nat) (sp : Space) (ld st : Bool) : Prop :=
  Issues s th { word := 0, srcs := srcs, slot := sp != .tack, cls := { mem := sp.isMem, ctl := sp == .ctl, ld := ld, st := st } } ∧
  (sp = .dram → s.canCharge (s.padOf th) 1 1 = true)

/-- No unit operation that is not yet performed uses the tack bytes `[a, a + n)` (R92). -/
def Interlocked (s : State) (th a n : Nat) : Prop :=
  ∀ y ∈ (s.thr th).txns, y.kind = .unit → y.tackLen ≠ 0 → overlap y.tack y.tackLen a n = false

/-- Nothing comes before an access to the tack bytes `[a, a + n)` (R79, R83, R92): no unit operation or access still to be performed uses
them, and no access to memory is an acquire, nor, where this one is a release, open at all. -/
def TackFree (s : State) (th a n : Nat) (rel : Bool) : Prop :=
  Interlocked s th a n ∧ ∀ y ∈ s.openTxns th, y.isAccess = true →
    (y.space = .tack → overlap y.addr y.size a n = false) ∧ (y.space ≠ .ctl → y.acq = false ∧ rel = false)

/-- What the issue of an access costs: for DRAM a unit of the paddock's DRAM budget also (R104). -/
def Paid (s : State) (th : Nat) (sp : Space) : State := if sp = .dram then (Counted s th).charge (s.padOf th) 1 1 else Counted s th

/-- The access `x` stands last among the thread's transactions with the next number, and nothing changes beside it but its cost. -/
def Slot (s : State) (th : Fin 512) (x : Txn) (t : State) : Prop :=
  RegsStay s t th ∧ Div t th = FreedDiv th x.rd (Div s th) ∧ From (Paid s th x.space) t th ∧
  t.thr th = { Ran s th (Next s th) with txns := Freed x.rd (s.thr th).txns ++ [{ x with id := (s.thr th).nextId, since := s.tick }],
                                         nextId := (s.thr th).nextId + 1 }

/-- Bytes `[a, a + n)` hold `v`, every other byte is as in `b`, and the protected word has new check bits (R442). -/
def Stored (b t : State) (a n v : Nat) : Prop :=
  t.rdN a n = v ∧ (∀ c, c < a ∨ a + n ≤ c → t.rd8 c = b.rd8 c) ∧ t.ecc = (b.setEcc a .ok).ecc

/-- The loads and stores, each with the binary logarithm of its size (R61). -/
def LoadRow (c : LdOp → Instr) (k : Nat) (u : Bool) : Prop :=
  (c, k, u) ∈ [(Instr.lb, 0, false), (.lh, 1, false), (.lw, 2, false), (.ld, 3, false), (.lbu, 0, true), (.lhu, 1, true), (.lwu, 2, true)]
def StoreRow (c : StOp → Instr) (k : Nat) : Prop := (c, k) ∈ [(Instr.sb, 0), (.sh, 1), (.sw, 2), (.sd, 3)]
def AmoRow (c : AmoOp → Instr) (op : Nat) : Prop :=
  (c, op) ∈ [(Instr.amoadd, 0), (.amoswap, 1), (.amocas, 2), (.amomin, 3), (.amomax, 4), (.amominu, 5), (.amomaxu, 6)]

/-- The effective addresses, the bytes of an atomic, and the registers it reads (R61, R62). -/
def LdEa (s : State) (o : LdOp) : Nat := (Rv s o.th o.rs1 + o.imm.signExtend 64).toNat
def StEa (s : State) (o : StOp) : Nat := (Rv s o.th o.rs1 + o.imm.signExtend 64).toNat
def AmoN (o : AmoOp) : Nat := if o.sz then 8 else 4
def AmoSrcs (op : Nat) (o : AmoOp) : List Nat := if op = 2 then [o.rs1, o.rs2, o.rd] else [o.rs1, o.rs2]

/-- What a load returns: `n` bytes, sign- or zero-extended. -/
def Loaded (n v : Nat) (u : Bool) : Word := if u then BitVec.ofNat 64 v else (BitVec.ofNat (8 * n) v).signExtend 64

/-- The unit operations, each with its opcode and FN (R55). -/
def UnitRow (c : UnOp → Instr) (op fn : Nat) : Prop :=
  (c, op, fn) ∈ [(Instr.frmGet, 0x10, 0), (.frmNew, 0x10, 1), (.frmHdr, 0x10, 2), (.frmLd, 0x10, 3), (.frmSt, 0x10, 4), (.frmPut, 0x10, 5),
    (.frmDrop, 0x10, 6), (.frmTs, 0x10, 7), (.qGet, 0x11, 0), (.qPut, 0x11, 1), (.qSig, 0x11, 2), (.tmRd, 0x12, 0), (.tmSched, 0x12, 1),
    (.tmWait, 0x12, 2), (.tmCan, 0x12, 3), (.ltxOpen, 0x13, 0), (.ltxPut, 0x13, 1), (.ltxCput, 0x13, 2), (.ltxCommit, 0x13, 3),
    (.ltxAbort, 0x13, 4), (.ltxPin, 0x13, 5), (.ltxGet, 0x13, 6), (.ltxUnpin, 0x13, 7), (.sxRx, 0x14, 0), (.sxTx, 0x14, 1),
    (.sxKey, 0x14, 2), (.sxKa, 0x14, 3), (.evLog, 0x15, 0)]

/-- The registers of an operation's argument group, and what they hold as it issues. -/
def groupRegs (op fn : Nat) (o : UnOp) : List Nat := (List.range (unitArgs op fn)).map (fun i => o.rs.val + i)
def groupOf (s : State) (op fn : Nat) (o : UnOp) : List Nat := (groupRegs op fn o).map (fun r => ((Start s o.th).g o.th r).toNat)

/-- The tack range that an operation names, by engine address (R65). -/
def areaOf (s : State) (op fn : Nat) (o : UnOp) : Option (Nat × Nat) := s.tackArea op fn (groupOf s op fn o)

/-- The memory address of tack byte `a` of the thread's engine. -/
def Tack (th : Fin 512) (a : Nat) : Nat := tackBase (barnOf th) (engOf th) + a

/-- A unit operation issues: its word is no reserved one, nothing holds it, and no access of the thread to its tack bytes waits (R92). -/
def UnitIssues (s : State) (op fn : Nat) (o : UnOp) : Prop :=
  Issues s o.th { word := 0, srcs := groupRegs op fn o, slot := true, cls := { unit := true, ld := true, st := true } } ∧
  unitWf op fn o.rs o.k.toNat = true ∧
  ∀ ta n, areaOf s op fn o = some (ta, n) → ∀ y ∈ s.openTxns o.th, y.isAccess = true → y.space = .tack →
    overlap y.addr y.size (Tack o.th ta) n = false

/-- The operation in its slot, as its unit meets it. -/
def Slotted (s : State) (op fn : Nat) (o : UnOp) : State :=
  let b := Counted s o.th
  let a := (areaOf s op fn o).getD (0, 0)
  (b.wrReg o.th o.rd (b.g o.th o.rd)).pushTxn o.th { Txn.blank with
    kind := .unit, op := op, args := fn :: o.k.toNat :: groupOf s op fn o, rd := o.rd, dst := o.rd, waits := mayWait op fn o.k.toNat,
    tack := Tack o.th a.1, tackLen := a.2, ea := Pc s o.th }

/-- A waiting operation of a thread is answered (R66): its result is ready, and the thread leaves WAIT. -/
def Answered (s : State) (th : Nat) (id st v : Nat) : State :=
  ThrIs s th { s.thr th with st := if (s.thr th).st = 2 then 1 else (s.thr th).st,
                             txns := (s.thr th).txns.map (fun x => if x.id == id then { x with res := some (st, v) } else x) }

/-- The special registers of a thread (R43, R44): number and value. -/
def Specials (s : State) (th : Nat) : List (Nat × Nat) :=
  [(0, th), (1, if s.brn.padWritten then s.padOf th else 0), (2, b2n (s.thr th).inTrap + 2 * b2n (!(s.thr th).errs.isEmpty)),
   (3, (s.thr th).epc), (4, (s.thr th).cause), (5, (s.thr th).tval), (6, (s.thr th).scratch),
   (7, if s.brn.padWritten then s.brn.cyc.getD (barnOf th) 0 else 0), (8, (s.thr th).instret + 1),
   (9, ((s.thr th).txns.filter (fun x => !x.late)).length), (10, (Counted s th).issueLeft th)]

/-- Fields of paddock `p` that a refill writes (R109), and what they hold after it. -/
def PadRefilled (s t : State) (p : Nat) : Prop :=
  (∀ k < 5, t.gf (F.BRN_PAD_LEFT_LEFT p k) = s.gf (F.BRN_PAD_BUD_BUDGET p k) ∧
    t.gf (F.BRN_PAD_EXH_COUNT p k) = (if bit (s.pad p).exh k then min (s.gf (F.BRN_PAD_EXH_COUNT p k) + 1) (2 ^ 32 - 1)
      else s.gf (F.BRN_PAD_EXH_COUNT p k))) ∧
  (∀ o, (∀ k < 5, o ≠ R.BRN_PAD_LEFT p k ∧ o ≠ R.BRN_PAD_EXH p k) → o ≠ R.BRN_PAD_STAT p → t.reg o = s.reg o)

/-- The YIELDED threads of paddock `p` are in RUN, every other thread and everything else but registers and the paddock's record is as
before (R109, R111). -/
def PadFrame (s t : State) (p : Nat) : Prop :=
  t = { s with regs := t.regs, brn := { s.brn with thr := t.brn.thr, pad := t.brn.pad, padWritten := t.brn.padWritten }, irq := t.irq } ∧
  (∀ u : Fin 512, t.thr u = if (s.thr u).st = 3 ∧ s.padOf u = p then { s.thr u with st := 1 } else s.thr u) ∧ ∀ q, q ≠ p → t.pad q = s.pad q

/-- LFT with another record, and with another sweep on channel `c`. -/
def LftIs (s : State) (l : LftSt) : State := { s with lft := l }
def SweepIs (s : State) (c : Nat) (w : Sweep) : State :=
  LftIs s { s.lft with sweeps := s.lft.sweeps.set (fun _ => Sweep.init) c w }

/-- Bytes that are not those of the resume header are as before, and nothing else of memory differs (R148). -/
def HeaderOnly (s t : State) : Prop := (∀ a, a < s.hdrAddr ∨ s.hdrAddr + 32 ≤ a → t.rd8 a = s.rd8 a) ∧ t.host = s.host

/-- Formatting has started in `t` (R147): the header names no loft, every slot is zero, no epoch is open. -/
def Formatted (s t : State) : Prop :=
  t.bf F.LFT_STAT_FORMATTING = true ∧ t.bf F.LFT_STAT_READY = false ∧ t.bf F.LFT_STAT_RESUMED = false ∧ t.bf F.LFT_STAT_EXHAUSTED = false ∧
  t.reg R.LFT_EPOCH_LO = 0 ∧ (∀ o, o ≠ R.LFT_STAT → o ≠ R.LFT_EPOCH_LO → t.reg o = s.reg o) ∧ t.header = none ∧
  t.lft = { s.lft with headers := t.lft.headers, sealed := 0, opn := none, closed := [], writes := [], work := 1, repl := [], next := none } ∧
  (∀ a, a < s.hdrAddr ∨ s.hdrAddr + 32 ≤ a →
    t.rd8 a = if dramBase + s.loftRegion.1 ≤ a ∧ a < dramBase + s.loftRegion.1 + s.loftRegion.2 then 0 else s.rd8 a) ∧
  t = { s with regs := t.regs, mem := t.mem, ecc := t.ecc, lft := t.lft, free := s.free + 4, irq := t.irq }

/-- A delivery of a sweep on channel `c`: to its queue, or for a re-synchronisation to the partner (R167, R273). -/
def SweepOut (s : State) (c : Nat) (l : List Byte) : State :=
  if (s.sweep c).rsync then { s with outbox := s.outbox ++ [⟨.replSweep, 0, l⟩] } else (s.deliver (s.gf (F.LFT_SWP_Q_QUEUE c)) l).1

/-- The sweep on channel `c` may deliver: there is room in its queue, or link 0 is up. -/
def SweepRoom (s : State) (c : Nat) : Prop :=
  if (s.sweep c).rsync then s.bf (F.VOX_LINK_STAT_UP 0) = true else s.queueSpace (s.gf (F.LFT_SWP_Q_QUEUE c)) = true

/-- QM with another record. -/
def QmIs (s : State) (q : QmSt) : State := { s with qm := q }

/-- An Ethernet port with another record. -/
def PortIs (s : State) (p : Nat) (q : Port) : State := { s with eth := s.eth.set (fun _ => Port.init) p q }

/-- Nothing differs but registers, ports, frames, rounds, and what leaves toward the lines, the host and the FCU. -/
def NetFrame (s t : State) : Prop :=
  t = { s with regs := t.regs, eth := t.eth, yrd := t.yrd, sch := t.sch, qm := t.qm, host := t.host, fcu := t.fcu, outbox := t.outbox, irq := t.irq }

/-- Nothing differs but registers and port `p`. -/
def PortFrame (s t : State) (p : Nat) : Prop :=
  t = { s with regs := t.regs, eth := t.eth, irq := t.irq } ∧ ∀ q, q ≠ p → t.port q = s.port q

/-- The time held of port `p` follows its holds; when the last ends, the quanta that passed and are not counted yet advance counter 42
(R188, R200). -/
def HeldTime (s t : State) (p : Nat) : Prop :=
  (t.port p).heldSince = (if (t.port p).heldNow = true then some ((s.port p).heldSince.getD s.tick) else none) ∧
  t.ethCnt p 42 = (if (t.port p).heldNow = true then s.ethCnt p 42 else (s.ethCnt p 42 + (s.quantaNow p - (s.port p).heldQ)) % 2 ^ 40) ∧
  t.bf (F.ETH_FC_STAT_RX_PAUSED p) = (t.port p).pause.isSome ∧
  ∀ i < 8, bit (t.gf (F.ETH_FC_STAT_PFC_RX_HELD p)) i = ((t.port p).pfc.getD i none).isSome

/-- A hold timer of `q` quanta, in ticks from now (R188): none for 0. -/
def Timer (s : State) (p q : Nat) : Option (Nat × Nat) := if q = 0 then none else some (s.tick, s.tick + ceilDiv (q * s.lineTime p 64) 40)

/-- A hold timer that has not run out. -/
def Running (s : State) (x : Option (Nat × Nat)) : Option (Nat × Nat) := x.bind (fun y => if y.2 ≤ s.tick then none else some y)

/-- What leaves the MAC of port `p` reaches the partner, or with a returned line the port's own receive path (R181). -/
def OnWire (s t : State) (p : Nat) (k : OutKind) (d out : List Byte) : Prop :=
  (s.looped p = false → t.outbox = s.outbox ++ [⟨k, p, out⟩] ∧ (t.port p).loop = (s.port p).loop) ∧
  (s.looped p = true → t.outbox = s.outbox ∧ (t.port p).loop = (s.port p).loop ++ [⟨k, .whole, d, false, s.timeNow⟩])

/-- A MAC control frame `d` goes out: at once on a free line, else at the next frame or fragment boundary (R189, R190). -/
def ControlOut (s t : State) (p c : Nat) (op : Nat) (d : List Byte) : Prop :=
  (s.canSend p = false → t.outbox = s.outbox ∧ (t.port p).ctl = (s.port p).ctl ∧ (t.port p).loop = (s.port p).loop ∧ t.ethCnt p c = s.ethCnt p c) ∧
  (s.canSend p = true → (s.port p).tx.isSome = true → t.outbox = s.outbox ∧ (t.port p).ctl = (s.port p).ctl ++ [(op, d)] ∧
    t.ethCnt p c = s.ethCnt p c) ∧
  (s.canSend p = true → (s.port p).tx = none → OnWire s t p .ethPause d (withFcs d false) ∧ (t.port p).ctl = (s.port p).ctl ∧
    (t.port p).free = max (s.port p).free s.tick + s.lineTicks p 84 ∧ t.ethCnt p c = (s.ethCnt p c + 1) % 2 ^ 40)

/-- The conditions of mode `m` for the link of port `p` under the reports `c` (R178), with TX_EN, RX_EN and the power rail. -/
def LinkMeets (s : State) (p m : Nat) (c : LinkCond) : Prop :=
  s.bf (F.ETH_CTL_TX_EN p) = true ∧ s.bf (F.ETH_CTL_RX_EN p) = true ∧ (6 ≤ p → bit (s.gf F.PWR_RAIL_STAT_GOOD) 1 = true) ∧
  (s.looped p = true ∨
   (m = 1 ∧ c.lock = true ∧ c.localFault = false ∧ c.remoteFault = false ∧ (s.port p).cond.remoteFault = false ∧
     ∀ x, (s.port p).rfLast = some x → x + 250000 ≤ s.tick) ∨
   (m = 2 ∧ c.lock = true ∧ (s.bf (F.ETH_MODE_AN_EN p) = true → c.anDone = true ∧ c.remoteFault = false)) ∨
   ((m = 3 ∨ m = 4) ∧ c.lock = true ∧ (s.bf (F.ETH_MODE_AN_EN p) = true → c.speed.map Fin.val = some m)) ∨
   (5 ≤ m ∧ s.bf (F.ETH_MODE_INBAND p) = true ∧ c.speed.map Fin.val = some m) ∨
   (5 ≤ m ∧ s.bf (F.ETH_MODE_INBAND p) = false ∧ s.bf (F.ETH_CTL_LINK_FORCE p) = true))

/-- The reports say a speed other than that of mode `m`, where the mode takes the speed from them (R179). -/
def WrongSpeed (s : State) (p m : Nat) (c : LinkCond) : Prop :=
  ((((m = 3 ∨ m = 4) ∧ s.bf (F.ETH_MODE_AN_EN p) = true) ∨ (5 ≤ m ∧ s.bf (F.ETH_MODE_INBAND p) = true)) ∧ ∃ v, c.speed = some v ∧ v.val ≠ m)

/-- The port has taken the reports `c`: its record and its status bits, MODE_MISMATCH where `wrong`. -/
def Heeded (s : State) (p : Nat) (c : LinkCond) (wrong : Bool) : State :=
  let u := (PortIs s p { s.port p with cond := c, rfLast := if c.remoteFault || (s.port p).cond.remoteFault then some s.tick else (s.port p).rfLast }).sfs
    [(F.ETH_STAT_PCS_LOCK p, b2n c.lock), (F.ETH_STAT_LOCAL_FAULT p, b2n c.localFault),
     (F.ETH_STAT_REMOTE_FAULT p, b2n c.remoteFault), (F.ETH_STAT_AN_DONE p, b2n c.anDone)]
  if wrong then u.sf (F.ETH_INT_STAT_MODE_MISMATCH p) 1 else u

/-- The port has taken the reports, and shows whether shedding has changed it. -/
def Reported (s : State) (p : Nat) (c : LinkCond) (wrong : Bool) : State := (Heeded s p c wrong).sf (F.ETH_STAT_SHED p) (b2n (s.portShed p))

/-- Frame `f` finds its cells in the yard: `x` is the state with it, `h` its handle (R205, R206). -/
def Yarded (u : State) (p : Nat) (f : Frame) (x : State) (h : Nat) : Prop :=
  ∃ y, u.bf F.YRD_CTL_EN = true ∧ u.newFrame f false = some (y, h) ∧ x = y.flowCheck p

/-- Frame `f` finds no cell, or YRD does not run. -/
def Refused (u : State) (f : Frame) : Prop := u.bf F.YRD_CTL_EN = false ∨ u.newFrame f false = none

/-- What becomes of a frame with an error, `v` at the end (R184): discarded, or delivered flagged to the thread of ETH_ERR_DST. -/
def Flagged (u : State) (p : Nat) (d : List Byte) (st : BitVec 256) (v : State) : Prop :=
  let f := u.rxProto p d st true
  (u.bf (F.ETH_ERR_DST_ERR_FWD p) = false ∧ v = u) ∨
  (u.bf (F.ETH_ERR_DST_ERR_FWD p) = true ∧ Refused u f ∧ v = u.ethInc p 21) ∨
  (u.bf (F.ETH_ERR_DST_ERR_FWD p) = true ∧ ∃ x h, Yarded u p f x h ∧ v = (x.ethInc p 20).deliverTo (u.gf (F.ETH_ERR_DST_THREAD p)) h none)

/-- What becomes of a MAC control frame, `v` at the end (R183, R188). -/
def Controlled (u : State) (p : Nat) (d : List Byte) (v : State) : Prop :=
  let op := beNat (sliceB d 14 2)
  let mine := sliceB d 0 6 = [0x01, 0x80, 0xC2, 0x00, 0x00, 0x01]
  (mine ∧ op = 1 ∧ v = u.pauseAct p (.pause (BitVec.ofNat 16 (beNat (sliceB d 16 2))))) ∨
  (mine ∧ op = 0x101 ∧ v = u.pauseAct p (.pfc (BitVec.ofNat 8 (beNat (sliceB d 16 2)))
    ((List.range 8).map (fun i => BitVec.ofNat 16 (beNat (sliceB d (18 + 2 * i) 2)))))) ∨
  (¬ (mine ∧ (op = 1 ∨ op = 0x101)) ∧ v = u.ethInc p 15)

/-- What becomes of a whole frame `d` without its FCS, `v` at the end: the rows of R183 and R184 in order. -/
def Arrives (u : State) (p : Nat) (d : List Byte) (badFcs symErr : Bool) (st : BitVec 256) (v : State) : Prop :=
  let n := d.length + 4
  let lim := u.gf (F.ETH_MAXLEN_MAXLEN p) + 4
  (n < 64 ∧ v = u.ethInc p 18) ∨ (9604 < n ∧ v = u.ethInc p 19) ∨
  (64 ≤ n ∧ n ≤ 9604 ∧ lim < n ∧ Flagged (u.ethInc p 19) p (d.take (lim - 4)) st v) ∨
  (64 ≤ n ∧ n ≤ 9604 ∧ n ≤ lim ∧ symErr = true ∧ Flagged (u.ethInc p 17) p d st v) ∨
  (64 ≤ n ∧ n ≤ 9604 ∧ n ≤ lim ∧ symErr = false ∧ badFcs = true ∧ Flagged (u.ethInc p 16) p d st v) ∨
  (64 ≤ n ∧ n ≤ 9604 ∧ n ≤ lim ∧ symErr = false ∧ badFcs = false ∧ beNat (sliceB d 12 2) = 0x8808 ∧ Controlled u p d v) ∨
  (64 ≤ n ∧ n ≤ 9604 ∧ n ≤ lim ∧ symErr = false ∧ badFcs = false ∧ beNat (sliceB d 12 2) ≠ 0x8808 ∧
    ((Refused u (u.rxProto p d st false) ∧ v = u.ethInc p 21) ∨
     ∃ x h, Yarded u p (u.rxProto p d st false) x h ∧ v = (x.rxCount p d).classify h))

/-- The port's record of a frame in reassembly. -/
def RxIs (s : State) (p : Nat) (a : Option Assy) : State := PortIs s p { s.port p with rx := a }

/-- An open reassembly of port `p` is given up (R194). -/
def GaveUp (s : State) (p : Nat) : State :=
  match (s.port p).rx with
  | none => s
  | some a => ((RxIs s p none).ethInc p 26).dropCells a.h

/-- The state with reassembly `a`, classified once 128 bytes are in the yard (R208). -/
def Assembling (u : State) (p : Nat) (a : Assy) : State :=
  match a.h, a.cls with
  | some h, none => if a.data.length < 128 then RxIs u p (some a) else
      RxIs ((RxIs u p (some a)).lookUp h).1 p (some { a with cls := some ((RxIs u p (some a)).lookUp h).2 })
  | _, _ => RxIs u p (some a)

/-- The entry of the running list of port `p` is taken (R235, R251): OPER_IDX, and a report of one that fails its parity. -/
def Entered (s : State) (p : Nat) : State :=
  let u := (s.sf (F.SCH_GCL_STAT_OPER_IDX p) (s.gclIdx p)).setGcl p { s.gcl p with cyc := s.gclCycle p }
  if s.sch.bad.get (fun _ => false) (2048 * p + 1024 * s.gf (F.SCH_GCL_STAT_OPER_BANK p) + s.gclIdx p) = true then
    (u.sf F.SCH_STAT_MEM_UE 1).raise 0x19 kPARITY 0 else u

/-- The result of a request for a swap (R237). -/
def SwapRes (u : State) (p r : Nat) : State :=
  u.sfs [(F.SCH_GCL_STAT_RES_VALID p, 1), (F.SCH_GCL_STAT_RES p, r), (F.SCH_GCL_STAT_RES_TAG p, u.gf (F.SCH_GCL_STAT_RES_TAG p) + 1)]

/-- The hold of port `p`, as SCH and as ETH show it (R244). -/
def HoldIs (u : State) (p : Nat) (at_ : Option (Nat × Nat)) (b : Nat) : State :=
  (u.setGcl p { u.gcl p with holdAt := at_ }).sfs [(F.SCH_GCL_STAT_HOLD p, b), (F.ETH_PRE_STAT_HOLD p, b)]

/-- RED runs: the device does, and SH4 has not stopped RED. -/
def RedRuns (s : State) : Prop := s.stopped = false ∧ s.red.stopped = false

/-- RED with another record. -/
def RedIs (s : State) (r : RedSt) : State := { s with red := r }

/-- RED once it has heard word `w` on path `p` (R263); and where the word is no reason to take the partner for lost (R264). -/
def HeardRaw (s : State) (p : HbPath) (w : Nat) : State :=
  (RedIs s (match p with
    | .wire => { s.red with wireAt := some s.tick, wireRep := false, peerShed := bits w 8 6, peerDiv := bit w 12 }
    | .vox => { s.red with voxAt := some s.tick, voxRep := false, peerShed := bits w 8 6, peerDiv := bit w 12 })).sf
  F.RED_ROLE_PARTNER_ROLE (bits w 5 3)
def Heard (s : State) (p : HbPath) (w : Nat) : State := (HeardRaw s p w).sf F.RED_ROLE_PARTNER_LOST 0

/-- The stream's recovery record after a frame with sequence number `q` (R262), and whether the frame passes: counters and history. -/
def Recovered (r x : RecSt) (win tick q : Nat) (ok : Bool) : Prop :=
  let d := sgn 16 (q + 65536 - r.recov)
  (r.takeAny = true ∧ ok = true ∧ x = { r with recov := q, hist := [q], takeAny := false, pass := sat32 (r.pass + 1), last := tick }) ∨
  (r.takeAny = false ∧ (win ≤ d ∨ d ≤ -(win : Int)) ∧ ok = false ∧ x = { r with rogue := sat32 (r.rogue + 1) }) ∨
  (r.takeAny = false ∧ 0 < d ∧ d < win ∧ ok = true ∧ x.recov = q ∧ x.pass = sat32 (r.pass + 1) ∧ x.last = tick ∧ q ∈ x.hist ∧
    (∀ y ∈ x.hist, y = q ∨ y ∈ r.hist)) ∨
  (r.takeAny = false ∧ -(win : Int) < d ∧ d ≤ 0 ∧ q ∈ r.hist ∧ ok = false ∧ x = { r with dup := sat32 (r.dup + 1) }) ∨
  (r.takeAny = false ∧ -(win : Int) < d ∧ d ≤ 0 ∧ q ∉ r.hist ∧ ok = true ∧
    x = { r with hist := r.hist ++ [q], pass := sat32 (r.pass + 1), last := tick })

/-- The bus at a command: `u` is the state once the frame in progress has been carried on, and ZTT has power (R288, R308, R391). -/
def Zat (s u : State) : Prop :=
  s.stopped = false ∧ u = s.zTxStep ∧ u.gf F.PWR_STAT_SH ≠ 4 ∧ u.gf F.PWR_STAT_PS ≠ 4

/-- ZTT with another record. -/
def ZttIs (s : State) (z : ZttSt) : State := { s with ztt := z }

/-- What a frame `l` on the channels `cs` leaves as; the channels of a frame `x`, and their end before its last bit (R288). -/
def Sent (cs : List Nat) (l : Nat → List Byte) : List Out := cs.map (fun c => ⟨.zttFrame, c, l c⟩)
def On (en : List Bool) : List Nat := (List.range 2).filter (fun c => en.getD c false)
def Cuts (x : ZTx) : List Out := (On x.chans).map (fun c => ⟨.zttCut, c, []⟩)

/-- A command of the bus has touched registers of ZTT, its record, the recorder's queue, what leaves the device, and nothing else. -/
def ZttFrame (u t : State) : Prop :=
  t = { u with regs := t.regs, ztt := t.ztt, evr := t.evr, outbox := t.outbox, irq := t.irq }

/-- The bus once a frame on channel `o.chan` has been heard (R282); and once it proved valid. -/
def ZHeardIs (u : State) (o : ZRx) : State :=
  ZttIs u { u.ztt with edge := some (max (u.tick - o.ago) (u.ztt.edge.getD 0)), listen := max (u.tick - o.ago) u.ztt.listen }
def ZValidIs (u : State) (o : ZRx) : State :=
  let v := (ZHeardIs u o).incf (F.ZTT_CNT_COUNT o.chan 0)
  ZttIs v { v.ztt with rq := setAt u.ztt.rq o.node (bit (o.byte 2) 6) }

/-- The node has adopted reference `o`, heard at `u` (R281, R291, R298). -/
def Adopted (u t : State) (o : ZRx) : Prop :=
  t.gf F.ZTT_CYCLE_CYCLE = o.cycle ∧ t.gf F.ZTT_CYCLE_MCOUNT = o.mcount ∧ t.gf F.ZTT_STAT_MODE = o.mode ∧ t.bf F.ZTT_STAT_SWITCH_PEND = o.sw ∧
  t.gf F.ZTT_STAT_ANN_MODE = o.nextMode ∧ t.ztt.s = some (u.zRefS o) ∧ t.ztt.missRun = 0 ∧
  t.ztt.refGot = some (o.chan.val, o.bytes.take (o.bytes.length - 4))

/-- The current basic cycle's parameters are those of mode `m` for a start at `at_` (R283, R284). -/
def Loaded0 (v t : State) (at_ : Int) : Prop :=
  (t.ztt.ncyc, t.ztt.nwin, t.ztt.base, t.ztt.cycBt) = v.zMode (t.gf F.ZTT_STAT_MODE) at_ ∧
  t.ztt.l0 = bits (v.zEff (R.ZTT_WIN_TIME (t.ztt.base + t.gf F.ZTT_CYCLE_CYCLE * t.ztt.nwin)) at_) 31 16 ∧ t.ztt.prevEnd = t.ztt.l0

/-- The first waiting admin command is `c`, of OP `op`, QM can execute and answer it, and the OP of the one behind it, if any, has a row in
R323 (R322, R323). -/
def Front (s : State) (c : AdmCmd) (op : Nat) : Prop :=
  s.stopped = false ∧ s.qmRuns = true ∧ (c.fromRegs = true ∨ (s.pairOf admPair).cqFree ≠ 0) ∧ fieldB c.data 0 1 = op ∧
  ∃ rest, s.qm.cmds = c :: rest ∧ ∀ d ∈ rest.head?, 1 ≤ fieldB d.data 0 1 ∧ fieldB d.data 0 1 ≤ 7

/-- Pair `i` has entered ERROR with a status (R321): its work is gone, and where no write waits its index word has been written and its vector
signalled (R99, R332). -/
def PairFailed (s t : State) (i st : Nat) : Prop :=
  let q := t.pairOf i
  q.state = 4 ∧ q.err = st ∧ q.ents = [] ∧ q.d2h = [] ∧ q.tsWait = [] ∧ (∀ j, j ≠ i → t.pairOf j = s.pairOf j) ∧
  t.fcu.inbox = s.fcu.inbox ++ [⟨0x1E, if st = 0x16 then kTIMEOUT else kPROTOCOL, 0, false, s.tick⟩] ∧
  (s.postsGo = true → q.idxDue = false ∧ q.unsig = 0 ∧ t.hostB (s.pairOf i).idxAddr 4 = leBytes 2 q.cqP ++ leBytes 2 (s.pairOf i).sqC ∧
    ((s.pairOf i).noInt = false → bit t.irq.stat (s.pairOf i).vector = true)) ∧
  (s.postsGo = false → q.idxDue = true ∧ max 1 (s.pairOf i).coalCnt ≤ q.unsig ∧ t.host = s.host ∧ t.irq = s.irq) ∧
  t = { s with regs := t.regs, qm := { s.qm with pair := t.qm.pair, posted := t.qm.posted }, host := t.host, irq := t.irq, eth := t.eth,
               fcu := { s.fcu with inbox := t.fcu.inbox }, evr := t.evr, lft := t.lft, vox := t.vox }

/-- The messages whose vectors are no longer masked have left (R333). -/
def Unmasked (y : State) : State :=
  if y.msixMode = true ∧ y.qm.funcMask = false ∧ y.bf F.QM_PCIE_STAT_BME = true then
    let out := (List.range 64).filter (fun v => bit y.irq.pend v && !bit y.qm.vecMask v)
    { y with irq := { y.irq with pend := out.foldl (fun m v => setBits m v v 0) y.irq.pend, sent := y.irq.sent ++ out } }
  else y

/-- The host's queues are gone, and its accesses in flight have ended: loads fail, stores vanish (R313). -/
def HostGone (s t : State) : Prop :=
  t.qm.pair = [] ∧ t.qm.posted = [] ∧ t.qm.cmds = s.qm.cmds.filter (·.fromRegs) ∧ t.qm.iq = s.qm.iq ∧ t.qm.held = s.qm.held ∧
  t.bf F.QM_PCIE_STAT_FLR_EV = true ∧
  (∀ th, (∀ x ∈ (t.thr th).txns, x.space ≠ .host) ∧
    (∀ x ∈ (s.thr th).txns, x.space = .host → x.kind ≠ .store → ⟨x.id, x.dst, x.ea, x.space, x.kind == .amo⟩ ∈ (t.thr th).errs)) ∧
  t = { s with regs := t.regs, qm := t.qm, brn := { s.brn with thr := t.brn.thr, orphans := s.brn.orphans.filter (fun o => o.2.space != .host) },
               lft := t.lft, vox := t.vox, evr := t.evr, gctl := t.gctl, irq := { s.irq with stat := t.irq.stat, prev := t.irq.prev, pend := t.irq.pend, sent := t.irq.sent } }


/-- SAX with another record. -/
def SaxIs (s : State) (x : SaxSt) : State := { s with sax := x }

/-- SAX at a command: the device runs, and `u` is the state once waiting records and a promotion have been dealt with (R350, R351). -/
def Sat (s u : State) : Prop := s.stopped = false ∧ u = saxSync s

/-- A timer of session `i` that stands at `d` may fire (R338, R347, R351): the table is ready, SAX is neither fenced nor shed, the session is
OPEN, the time has come, and fewer than 4,096 events went out in this millisecond. -/
def Fires (u : State) (i d : Nat) : Prop :=
  u.saxReady = true ∧ u.saxHeld = false ∧ (u.sess i).opn = true ∧ d ≤ u.tick ∧ (u.sax.ms = u.tick / 250000 → u.sax.msCnt < 4096)

/-- The record of a timer event in its millisecond (R348). -/
def Fired (u : State) : State :=
  SaxIs u { u.sax with ms := u.tick / 250000, msCnt := (if u.sax.ms = u.tick / 250000 then u.sax.msCnt else 0) + 1 }


/-- The FCU with another record. -/
def FcuIs (s : State) (f : FcuSt) : State := { s with fcu := f }

/-- Message `m` of an assigned source is the next the FCU takes: the earliest cycle, then the lowest source, then the lowest kind (R356). -/
def NextFault (s : State) (m : FaultMsg) : Prop :=
  s.stopped = false ∧ m ∈ s.fcu.inbox ∧ m.src < 64 ∧ m.kind < 16 ∧ ∀ x ∈ s.fcu.inbox, x.before m = false

/-- The messages taken together with `m`, and those that stay. -/
def together (s : State) (m : FaultMsg) : List FaultMsg := s.fcu.inbox.filter (sameFault m)
def leftOver (s : State) (m : FaultMsg) : List FaultMsg := s.fcu.inbox.filter (fun x => !sameFault m x)

/-- The only reaction that starts now is `r` (R358). -/
def Reacts (s : State) (r : React) : Prop :=
  s.stopped = false ∧ r.due ≤ s.tick ∧ s.fcu.react.filter (fun x => x.due == r.due) = [r] ∧ ∀ x ∈ s.fcu.react, x.due ≤ s.tick → r.due ≤ x.due

/-- The safe state, entered for `cause` from `s` (R366): every fenceable source fenced, ERR_N asserted, debug at level 0, links down, TXEN low,
TOUT pins at IDLE; memory and threads stand as they did. -/
def IsSafe (s t : State) (cause : Nat) : Prop :=
  t.safe = true ∧ t.gf F.FCU_STAT_SAFE_CAUSE = cause ∧ (∀ k : Fin 64, fenceable k = true → t.fenced k = true) ∧ t.errPin = true ∧
  t.dbgLevel = 0 ∧ t.ztt.tx = none ∧ (∀ p : Fin 8, t.ethLink p = false) ∧ (∀ l : Fin 2, t.linkUp l = false) ∧
  (∀ j : Fin 8, t.tbu.train.getD j none = none ∧ (s.tbu.tout.length = 8 → t.toutLevel j = t.bf (F.TBU_TOUT_CTL_IDLE j))) ∧
  t = { s with regs := t.regs, eth := t.eth, yrd := t.yrd, sch := t.sch, qm := t.qm, host := t.host, fcu := t.fcu, vox := t.vox, ztt := t.ztt,
               tbu := { s.tbu with tout := t.tbu.tout, train := t.tbu.train }, evr := t.evr, outbox := t.outbox, irq := t.irq }

/-- The registers that a write in the safe state does not reach (R366): every row that is a write of one, but for HOLD, the cursors and the
cold and warm resets. -/
def Discarded (c : Instr) : Prop :=
  c ∈ [Instr.evrBlockReset, .ftLookup, .icinv, .lftBlockReset, .loftDisable, .loftFormat, .loftResume, .promote, .qmBlockReset, .redBlockReset,
    .redEnable, .resync, .retentionClr, .safe, .saxBlockReset, .schBlockReset, .sealNow, .snap, .voxBlockReset, .yrdBlockReset, .zttBlockReset] ∨
  (∃ x, c = .abort x ∨ c = .start x) ∨ (∃ x, c = .apply x) ∨ (∃ x, c = .barnReset x) ∨ (∃ x, c = .cancel x ∨ c = .cntClr x ∨ c = .portReset x ∨ c = .swap x ∨ c = .reacq x) ∨
  (∃ x y, c = .capturePop x y) ∨ (∃ x, c = .challenge x ∨ c = .debugClose x ∨ c = .password x ∨ c = .response x) ∨
  (∃ x y, c = .revoke x y ∨ c = .svnEn x y) ∨ (∃ x, c = .clear x) ∨ (∃ x y, c = .commit x y) ∨ (∃ x y, c = .cqDoorbell x y ∨ c = .sqDoorbell x y) ∨
  (∃ x, c = .disable x) ∨ (∃ x, c = .csDataWrite x ∨ c = .fqSel x ∨ c = .fwRaise x ∨ c = .go x ∨ c = .kernelSignature x ∨ c = .psMaxWrite x ∨
    c = .redSel x ∨ c = .saxSel x ∨ c = .shpSel x ∨ c = .spillEnable x) ∨
  (∃ x y, c = .domStep x y ∨ c = .gclEnable x y) ∨ (∃ x y, c = .domainDisable x y ∨ c = .domainEnable x y ∨ c = .ethModeWrite x y ∨
    c = .incrHiWrite x y ∨ c = .incrLoWrite x y ∨ c = .portEnable x y) ∨
  (∃ x y, c = .fenceLift x y ∨ c = .fenceSet x y) ∨ (∃ x y, c = .force x y) ∨ (∃ x y, c = .fqCfgWrite x y) ∨
  (∃ x, c = .ftInvalidate x ∨ c = .ftRead x ∨ c = .ftWrite x) ∨ (∃ x y z, c = .mapWrite x y z) ∨ (∃ x y z, c = .padConfigWrite x y z) ∨
  (∃ x y, c = .perEnClear x y ∨ c = .perEnSet x y) ∨ (∃ x, c = .pin x ∨ c = .unpin x) ∨ (∃ x, c = .pinChange x) ∨
  (∃ x, c = .replica x ∨ c = .saxEnable x ∨ c = .zttEnable x) ∨ (∃ x y, c = .shThrWrite x y) ∨ (∃ x, c = .switch x) ∨
  (∃ x y z w, c = .threadPcWrite x y z w) ∨ (∃ x y z w, c = .threadRun x y z w ∨ c = .threadStop x y z w) ∨ (∃ x y z, c = .toutConfig x y z) ∨
  (∃ x y, c = .yrdPoolWrite x y)

/-- The recorder with another record. -/
def EvrIs (s : State) (e : EvrSt) : State := { s with evr := e }

/-- Record `r` is the next offered one: the least WRITER, the first of it (R373). -/
def Offers (s : State) (r : ERec) : Prop :=
  s.stopped = false ∧ s.evr.offered.find? (fun x => x.writer == r.writer) = some r ∧ ∀ x ∈ s.evr.offered, r.writer ≤ x.writer

/-- Cursor `c`. -/
def Cur (s : State) (c : Nat) : Nat := s.evr.cur.getD c 0

/-- Sequence `q` is where a cursor may stand: the head, or a readable record (R378). -/
def Stands (s : State) (q : Nat) : Prop := q = s.evr.head ∨ (s.recAt q).isSome = true


/-- What a cold reset with a cause leaves of `s` (R394, R396): reset values everywhere, but for the retention domain, the fuses, the levels of
pins and rails, and what the model keeps of the world outside. -/
def ColdFrom (s t : State) (cause : Nat) : Prop :=
  (∀ off, off ≠ R.PWR_RAIL_STAT → off ≠ R.PWR_TJ_LIMIT → off ≠ R.SEC_STAT → t.reg off = (resetAt off).toNat) ∧
  t.reg R.PWR_RAIL_STAT = s.reg R.PWR_RAIL_STAT ∧ t.gf F.PWR_TJ_LIMIT_LIMIT = (if s.gctl.fuses.grade = 2 then 0x7D else 0x69) ∧
  t.dbgLevel = s.gctl.fuses.startLevel ∧ t.mem = [] ∧ (∀ i, (t.thr i).st = 0) ∧ (∀ k : Fin 64, t.fenced k = false) ∧ t.safe = false ∧
  t = { State.reset with
    regs := t.regs, host := s.host, tick := s.tick, free := s.free, outbox := s.outbox, pending := s.pending, irq := t.irq,
    evr := { EvrSt.init with ret := s.evr.ret, winStart := s.tick }, pwr := { PwrSt.init with psSince := s.tick },
    sec := { SecSt.init with fails := s.sec.fails, waitEnd := s.sec.waitEnd, relWait := s.sec.relWait, bsr := s.sec.bsr, extest := s.sec.extest },
    gctl := { GctlSt.init with
      inReset := true, rstLow := s.gctl.rstLow, frzLow := s.gctl.frzLow, brown := s.gctl.brown, relFrom := s.tick, fuses := s.gctl.fuses,
      dramMiB := s.gctl.dramMiB, dramOk := s.gctl.dramOk, perst := s.gctl.perst, cause := cause,
      froze := if s.gctl.inReset = true then s.gctl.froze else s.gctl.frozen, wasSafe := if s.gctl.inReset = true then s.gctl.wasSafe else s.safe } }

/-- A write of GCTL_RST_CTL by `w` arrives at `u`, the state once an access from outside has woken the device (R386, R395). -/
def Asks (s u : State) (w : Writer) : Prop :=
  s.stopped = false ∧ u = wakeBy w s ∧ s.asks w = true ∧ (w = .jtag → s.dbgLevel = 2)

/-- GCTL with another record. -/
def GctlIs (s : State) (g : GctlSt) : State := { s with gctl := g }

/-- The ROM's phase. -/
def Phase (s : State) (n : Nat) : State := GctlIs s { s.gctl with phase := n }

/-- The ROM has failed with `code`: the status shows it, and the FCU hears it from `src` unless it is the failure reported last (R403). -/
def Reports (s : State) (code src det : Nat) : State :=
  let r := s.sf F.GCTL_BOOT_STAT_CODE code
  if s.gctl.lastFail = code then r
  else FcuIs (GctlIs r { s.gctl with lastFail := code }) { s.fcu with inbox := s.fcu.inbox ++ [⟨src, 9, det % 2 ^ 64, false, s.tick⟩] }

/-- SEC with another record. -/
def SecIs (s : State) (x : SecSt) : State := { s with sec := x }

/-- A debug command by `w` reaches SEC (R413): from the host, an open management port or JTAG. -/
def Debugs (s : State) (w : Writer) : Prop :=
  Runs s ∧ (w = .host ∨ (w = .mgmt ∧ s.mgmtOn = true) ∨ w = .jtag)

/-- A debug command ends with a result (R413): VALID, the next tag, and the data cleared. -/
def Over (s : State) (res : Nat) : State :=
  (((SecIs s { s.sec with data := [] }).sf F.SEC_DBG_RES_VALID 1).sf F.SEC_DBG_RES_TAG (s.gf F.SEC_DBG_RES_TAG + 1)).sf F.SEC_DBG_RES_RESULT res

/-- The count of failures after a success, and after one more failure: from the third on there is a wait (R414). -/
def Cleared (s : State) : State := SecIs s { s.sec with fails := 0, waitEnd := none }
def Erred (s : State) : State :=
  let f := min 255 (s.sec.fails + 1)
  SecIs s { s.sec with fails := f, waitEnd := if f < 3 then s.sec.waitEnd else some (s.tick + min (60 * 2 ^ (f - 3)) 61440 * 250000000) }

/-- A fuse command ends with a result (R419). -/
def FuseOver (s : State) (res : Nat) : State :=
  ((s.sf F.SEC_FUSE_RES_VALID 1).sf F.SEC_FUSE_RES_TAG (s.gf F.SEC_FUSE_RES_TAG + 1)).sf F.SEC_FUSE_RES_RESULT res

/-- The commands of the TAP. -/
def Tapped (c : Instr) : Prop :=
  c ∈ [Instr.idcode, .extest, .bypass] ∨ (∃ v, c = .samplePreload v) ∨ (∃ w a v, c = .secAccess w a v ∨ c = .regAccess w a v) ∨
  (∃ a, c = .diagRead a ∨ c = .memRead a) ∨ ∃ x, c = .frzChain x

/-- A fuse command by `w` reaches SEC, is a command, and none is being programmed (R419); `u` is the state once the device has woken. -/
def FuseAsked (s u : State) (w : Writer) (v : Nat) : Prop :=
  Runs s ∧ u = wakeBy w s ∧ s.asks w = true ∧ fuseWriter w u = true ∧ v / 2 ^ 24 % 256 = 0x5C ∧ u.sec.fuse = none

/-- An access by JTAG with instruction `ir` goes through: its first effect is to shift the previous result out (R410). -/
def Shifts (s : State) (ir : Nat) : State := s.endExtest.emit .jtag ir s.accessOut

/-- The access register with a new result. -/
def Holds (s : State) (r : Option Nat) : State :=
  SecIs s { s.sec with jtagData := r.getD 0, jtagValid := r.isSome }

/-- A record of source `src` offered to EVR (R373): four wait at most, and none arises while EVR has no power. -/
def Recorded (s : State) (src code a0 a1 : Nat) : EvrSt :=
  if 4 ≤ waitingOf (0x8000 + src) s.evr.offered then s.evr
  else { s.evr with offered := s.evr.offered ++ [s.mkRec code (0x8000 + src) a0 a1] }

/-- A change of the shed level has touched registers, ports and their frames, what leaves the device, waiting records, and nothing else. -/
def ShedFrame (s t : State) : Prop :=
  t = { s with regs := t.regs, eth := t.eth, yrd := t.yrd, sch := t.sch, qm := t.qm, host := t.host, fcu := t.fcu, outbox := t.outbox, irq := t.irq,
               evr := { s.evr with offered := t.evr.offered } }

/-- The time spent in the power state just left has been counted (R387). -/
def PsCounted (s t : State) : Prop :=
  t.pwr.psSince = s.tick ∧ t.pwr.hot = s.pwr.hot ∧
  t.pwr.psTicks = setAt s.pwr.psTicks (s.gf F.PWR_STAT_PS) (s.pwr.psTicks.getD (s.gf F.PWR_STAT_PS) 0 + (s.tick - s.pwr.psSince))

end Sys2Proof.Claims

section
open Sys2Proof Sys2Proof.Machine Sys2Proof.Claims

/-- R52, R53: the integer register instructions, each value written from the table of the chapter. The tables of immediate, bit-field and constant operations (spec/03). The fields of a bit-field immediate are pos in [11:6] and
len − 1 in [5:0]. -/
def Obligations.IntegerResults : Prop :=
  (∀ (s : State) (o : RRR), IssuesReg s o.th [o.rs1, o.rs2] →
    let a := Rv s o.th o.rs1
    let b := Rv s o.th o.rs2
    let R := fun (v : Word) => Result s o.th o.rd v (Next s o.th)
    Does (.add (.op o)) s (R (a + b)) ∧ Does (.sub o) s (R (a - b)) ∧ Does (.and o) s (R (a &&& b)) ∧ Does (.or o) s (R (a ||| b)) ∧
    Does (.xor o) s (R (a ^^^ b)) ∧ Does (.andn o) s (R (a &&& ~~~b)) ∧ Does (.sll o) s (R (a <<< (b.toNat % 64))) ∧
    Does (.srl o) s (R (a >>> (b.toNat % 64))) ∧ Does (.sra o) s (R (a.sshiftRight (b.toNat % 64))) ∧
    Does (.slt o) s (R (One (a.toInt < b.toInt))) ∧ Does (.sltu o) s (R (One (a.toNat < b.toNat))) ∧
    Does (.min o) s (R (if a.toInt ≤ b.toInt then a else b)) ∧ Does (.max o) s (R (if a.toInt ≤ b.toInt then b else a)) ∧
    Does (.minu o) s (R (if a.toNat ≤ b.toNat then a else b)) ∧ Does (.maxu o) s (R (if a.toNat ≤ b.toNat then b else a)) ∧
    Does (.addw o) s (R (Low32 (a + b))) ∧ Does (.subw o) s (R (Low32 (a - b))) ∧ Does (.sllw o) s (R (Low32 (a <<< (b.toNat % 32)))) ∧
    Does (.srlw o) s (R (BitVec.signExtend 64 (a.setWidth 32 >>> (b.toNat % 32)))) ∧
    Does (.sraw o) s (R (BitVec.signExtend 64 ((a.setWidth 32).sshiftRight (b.toNat % 32)))) ∧
    Does (.mul o) s (R (a * b)) ∧ Does (.mulh o) s (R (BitVec.ofInt 64 (a.toInt * b.toInt / 2 ^ 64))) ∧
    Does (.mulhu o) s (R (BitVec.ofNat 64 (a.toNat * b.toNat / 2 ^ 64)))) ∧
  (∀ (s : State) (o : RR), IssuesReg s o.th [o.rs1] →
    let a := Rv s o.th o.rs1
    let R := fun (v : Nat) => Result s o.th o.rd (BitVec.ofNat 64 v) (Next s o.th)
    Does (.clz o) s (fun t => ∃ n, R n t ∧ a.toNat < 2 ^ (64 - n) ∧ n ≤ 64 ∧ (n < 64 → 2 ^ (63 - n) ≤ a.toNat)) ∧
    Does (.ctz o) s (fun t => ∃ n, R n t ∧ n ≤ 64 ∧ (∀ i < n, a.toNat.testBit i = false) ∧ (n < 64 → a.toNat.testBit n = true)) ∧
    Does (.popc o) s (R ((List.range 64).filter (fun i => a.toNat.testBit i)).length)) ∧
  (∀ (s : State) (o : RRI), IssuesReg s o.th [o.rs1] →
    let a := Rv s o.th o.rs1
    let i := o.imm.signExtend 64
    let n := o.imm.toNat
    let pos := n / 64
    let len := n % 64 + 1
    let R := fun (v : Word) => Result s o.th o.rd v (Next s o.th)
    Does (.addi o) s (R (a + i)) ∧ Does (.andi o) s (R (a &&& o.imm.setWidth 64)) ∧ Does (.ori o) s (R (a ||| o.imm.setWidth 64)) ∧
    Does (.xori o) s (R (a ^^^ o.imm.setWidth 64)) ∧ Does (.slti o) s (R (One (a.toInt < i.toInt))) ∧
    Does (.sltiu o) s (R (One (a.toNat < i.toNat))) ∧ Does (.addwi o) s (R (Low32 (a + i))) ∧
    let Bad := fun (op fn : Nat) => Illegal s o.th (encB op o.rd o.rs1 fn n)
    (n < 64 → Does (.slli o) s (R (a <<< n)) ∧ Does (.srli o) s (R (a >>> n)) ∧ Does (.srai o) s (R (a.sshiftRight n))) ∧
    (64 ≤ n → Does (.slli o) s (Bad 2 6) ∧ Does (.srli o) s (Bad 2 7) ∧ Does (.srai o) s (Bad 2 8)) ∧
    (64 < pos + len → Does (.extu o) s (Bad 3 0) ∧ Does (.exts o) s (Bad 3 1) ∧ Does (.ins o) s (Bad 3 2)) ∧
    (n = 0 ∨ 3 < n → Does (.bswap o) s (Bad 3 3)) ∧
    (pos + len ≤ 64 → Does (.extu o) s (R (BitVec.ofNat 64 (a.toNat / 2 ^ pos % 2 ^ len))) ∧
      Does (.exts o) s (R (BitVec.ofInt 64 (if (a.toNat / 2 ^ pos).testBit (len - 1) then ((a.toNat / 2 ^ pos % 2 ^ len : Nat) : Int) - (2 ^ len : Nat)
        else ((a.toNat / 2 ^ pos % 2 ^ len : Nat) : Int))))) ∧
    (1 ≤ n → n ≤ 3 → Does (.bswap o) s (fun t => ∃ v, Result s o.th o.rd v (Next s o.th) t ∧
      ∀ k, v.toNat / 256 ^ k % 256 = if k < 2 ^ n then a.toNat / 256 ^ (2 ^ n - 1 - k) % 256 else 0))) ∧
  (∀ (s : State) (o : RRI), IssuesReg s o.th [o.rs1, o.rd] → o.imm.toNat / 64 + (o.imm.toNat % 64 + 1) ≤ 64 →
    Does (.ins o) s (fun t => ∃ v, Result s o.th o.rd v (Next s o.th) t ∧ ∀ k < 64, v.toNat.testBit k =
      if o.imm.toNat / 64 ≤ k ∧ k ≤ o.imm.toNat / 64 + o.imm.toNat % 64 then (Rv s o.th o.rs1).toNat.testBit (k - o.imm.toNat / 64)
      else (Rv s o.th o.rd).toNat.testBit k)) ∧
  (∀ (s : State) (o : RI), IssuesReg s o.th [] →
    Does (.lui o) s (Result s o.th o.rd (o.imm.signExtend 64 <<< 12) (Next s o.th)) ∧
    Does (.luih o) s (Result s o.th o.rd (o.imm.signExtend 64 <<< 32) (Next s o.th))) ∧
  (∀ (s : State) (th : Fin 512), s.eccOf (codeBase + Pc s th) ≠ .ce →
    Counted s th = (if s.bf (F.BRN_PAD_MODE_PER_EN (s.padOf th)) = true ∧ s.gf (F.BRN_PAD_LEFT_LEFT (s.padOf th) 0) ≠ 2 ^ 32 - 1 then
        (ThrIs (Start s th) th (Ran s th (Pc s th))).sf (F.BRN_PAD_LEFT_LEFT (s.padOf th) 0) (s.gf (F.BRN_PAD_LEFT_LEFT (s.padOf th) 0) - 1)
      else ThrIs (Start s th) th (Ran s th (Pc s th))))

/-- R59, R443. Division of integers rounds toward zero; the cycles until delivery are the model's `divCycles`. -/
def Obligations.DivisionResults : Prop :=
  (∀ (s : State) (o : RRR), IssuesReg s o.th [o.rs1, o.rs2] → Div s o.th = none →
    let a := Rv s o.th o.rs1
    let b := Rv s o.th o.rs2
    let D := fun (v : Word) (m : Nat) (t : State) => RegsStay s t o.th ∧ Div t o.th = some ⟨o.th, o.rd, v.toNat, s.cycles o.th + m⟩ ∧
      t.thr o.th = { Ran s o.th (Next s o.th) with txns := Freed o.rd (s.thr o.th).txns } ∧ From (Counted s o.th) t o.th
    Does (.div o) s (D (if b = 0 then BitVec.allOnes 64 else BitVec.ofInt 64 (a.toInt.tdiv b.toInt)) (divCycles a.toInt.natAbs b.toInt.natAbs)) ∧
    Does (.divu o) s (D (if b = 0 then BitVec.allOnes 64 else BitVec.ofNat 64 (a.toNat / b.toNat)) (divCycles a.toNat b.toNat)) ∧
    Does (.rem o) s (D (if b = 0 then a else BitVec.ofInt 64 (a.toInt.tmod b.toInt)) (divCycles a.toInt.natAbs b.toInt.natAbs)) ∧
    Does (.remu o) s (D (if b = 0 then a else BitVec.ofNat 64 (a.toNat % b.toNat)) (divCycles a.toNat b.toNat))) ∧
  (∀ (s : State) (b : Fin 8) (e : Fin 16) (d : Divider), s.stopped = false → s.brn.div.get (fun _ => none) (b.val * 16 + e.val) = some d →
    d.rd < 32 → d.due ≤ s.cycles d.th →
    Does (.divideResult b e) s (fun t => t.brn.div.get (fun _ => none) (b.val * 16 + e.val) = none ∧
      (∀ i, i ≠ b.val * 16 + e.val → t.brn.div.get (fun _ => none) i = s.brn.div.get (fun _ => none) i) ∧
      (∀ (u : Nat) (r : Fin 32), t.g u r = if u = d.th ∧ r.val = d.rd ∧ d.rd ≠ 0 then BitVec.ofNat 64 d.val else s.g u r) ∧
      t = { s with brn := { s.brn with div := t.brn.div, gpr := t.brn.gpr }, irq := t.irq }))

/-- R60: targets count words from the address of the branch itself and are not range-checked. -/
def Obligations.BranchesAndJumps : Prop :=
  (∀ (s : State) (o : BrOp), IssuesReg s o.th [o.rs1, o.rs2] →
    let a := Rv s o.th o.rs1
    let b := Rv s o.th o.rs2
    let dest := (((Pc s o.th : Int) + o.off.toInt * 4) % (2 ^ 64 : Nat)).toNat
    let B := fun (p : Prop) [Decidable p] => Goes s o.th (if p then dest else Next s o.th)
    Does (.beq o) s (B (a = b)) ∧ Does (.bne o) s (B (a ≠ b)) ∧ Does (.blt o) s (B (a.toInt < b.toInt)) ∧
    Does (.bge o) s (B (b.toInt ≤ a.toInt)) ∧ Does (.bltu o) s (B (a.toNat < b.toNat)) ∧ Does (.bgeu o) s (B (b.toNat ≤ a.toNat))) ∧
  (∀ (s : State) (o : BrOp), IssuesReg s o.th [o.rs1] →
    Does (.jr o) s (Result s o.th o.rs2 (BitVec.ofNat 64 (Next s o.th))
      (((((Rv s o.th o.rs1).toNat : Int) + o.off.toInt * 4) % (2 ^ 64 : Nat)).toNat / 4 * 4))) ∧
  (∀ (s : State) (o : JmpOp), IssuesReg s o.th [] →
    let dest := (((Pc s o.th : Int) + o.off.toInt * 4) % (2 ^ 64 : Nat)).toNat
    Does (.j o) s (Goes s o.th dest) ∧ Does (.jl o) s (Result s o.th 31 (BitVec.ofNat 64 (Next s o.th)) dest))

/-- R63, R209. `crc32Of`, `crc32cOf` and `crc16Of` take the start value and the bytes, byte 0 first. -/
def Obligations.HashAndCrcResults : Prop :=
  (∀ (s : State) (o : RRR), IssuesReg s o.th [o.rs1, o.rs2] →
    let a := Rv s o.th o.rs1
    let b := Rv s o.th o.rs2
    let x0 := a ^^^ ((b <<< 29) ||| (b >>> 35))
    let x1 := (x0 ^^^ (x0 >>> 31)) * 0x9E3779B97F4A7C15
    let x2 := (x1 ^^^ (x1 >>> 29)) * 0xD6E8FEB86659FD93
    Does (.hashMix o) s (Result s o.th o.rd (x2 ^^^ (x2 >>> 32)) (Next s o.th)) ∧
    Does (.hashFlow o) s (Result s o.th o.rd (BitVec.ofNat 64 (crc32cOf (s.reg R.YRD_HASH_SEED)
      (leBytes 16 (a.toNat + 2 ^ 64 * b.toNat)))) (Next s o.th))) ∧
  (∀ (s : State) (o : CrcOp), IssuesReg s o.th [o.rs1, o.rs2] →
    let a := (Rv s o.th o.rs1).toNat
    let l := leBytes (o.nb.val + 1) (Rv s o.th o.rs2).toNat
    let R := fun (v : Nat) => Result s o.th o.rd (BitVec.ofNat 64 v) (Next s o.th)
    Does (.crc32 o) s (R (crc32Of (a % 2 ^ 32) l)) ∧ Does (.crc32c o) s (R (crc32cOf (a % 2 ^ 32) l)) ∧
    Does (.crc16 o) s (R (crc16Of (a % 2 ^ 16) l)))

/-- R31 to R35, R56: the space of an access of `n` bytes, or its trap. `reach` is the model's name for the map. -/
def Obligations.EngineAddressMap : Prop :=
  ∀ (s : State) (th : Fin 512) (ea n : Nat) (amo store : Bool),
    (ea % n ≠ 0 → s.reach th ea n amo store = .trap tALIGN) ∧
    (ea % n = 0 → ea < 0x8000 → s.reach th ea n amo store = .ok .tack (tackBase (barnOf th) (engOf th) + ea)) ∧
    (ea % n = 0 → 0x100000000 ≤ ea → ea < 0x100080000 →
      s.reach th ea n amo store = .ok .barn (barnBase (barnOf th) + (ea - 0x100000000))) ∧
    (∀ b < 8, ∀ o < 0x80000, ea = barnBase b + o → ea % n = 0 → s.reach th ea n amo store = .ok .barn ea) ∧
    (∀ o < 0x4000000, ea = ctlBase + o → ea % n = 0 → s.reach th ea n amo store =
      if n = 8 then .trap tSIZE else if amo then .trap tATOMIC_SPACE else if store ∧ s.ctlWr th = false then .trap tACCESS else .ok .ctl o) ∧
    (∀ o, o < s.usable → ea = dramBase + o → ea % n = 0 → s.reach th ea n amo store = .ok .dram ea) ∧
    (∀ o < 2 ^ 38, ea = hostWindow + o → ea % n = 0 → s.reach th ea n amo store =
      if amo then .trap tATOMIC_SPACE else if s.hostEn th = true ∧ s.bme = true then .ok .host (o + s.gf F.BRN_HOST_BASE_BASE * 2 ^ 38)
      else .trap tACCESS) ∧
    (2 ^ 40 ≤ ea → ea % n = 0 → s.reach th ea n amo store = .trap tADDR_FAULT)

/-- R36, R61, R62, R104. An access of tack that the device does not perform at issue (`late`) waits beside the slots (log 30). -/
def Obligations.AccessesTakeSlots : Prop :=
  (∀ (s : State) (o : LdOp) (sp : Space) (a k : Nat) (u : Bool) (c : LdOp → Instr), LoadRow c k u →
    s.reach o.th (LdEa s o) (2 ^ k) false false = .ok sp a → (sp = .tack → o.late = true ∧ Interlocked s o.th a (2 ^ k)) →
    AccessIssues s o.th [o.rs1] sp true false →
    Does (c o) s (Slot s o.th { Txn.blank with kind := .load, space := sp, addr := a, size := 2 ^ k, rd := o.rd, dst := o.rd, signed := !u,
                                               acq := o.aq, ea := LdEa s o, late := sp == .tack })) ∧
  (∀ (s : State) (o : StOp) (sp : Space) (a k : Nat) (c : StOp → Instr), StoreRow c k →
    s.reach o.th (StEa s o) (2 ^ k) false true = .ok sp a → (sp = .tack → o.late = true ∧ Interlocked s o.th a (2 ^ k)) →
    AccessIssues s o.th [o.rs1, o.rs] sp false true →
    Does (c o) s (Slot s o.th { Txn.blank with kind := .store, space := sp, addr := a, size := 2 ^ k, rel := o.rl, ea := StEa s o,
                                               data := (Rv s o.th o.rs).toNat % 2 ^ (8 * 2 ^ k), late := sp == .tack })) ∧
  (∀ (s : State) (o : AmoOp) (sp : Space) (a op : Nat) (c : AmoOp → Instr), AmoRow c op →
    s.reach o.th (Rv s o.th o.rs1).toNat (AmoN o) true false = .ok sp a → (sp = .tack → o.late = true ∧ Interlocked s o.th a (AmoN o)) →
    AccessIssues s o.th (AmoSrcs op o) sp true true →
    Does (c o) s (Slot s o.th { Txn.blank with kind := .amo, space := sp, addr := a, size := AmoN o, rd := o.rd, dst := o.rd, signed := true,
                                               op := op, acq := o.aq, rel := o.rl, ea := (Rv s o.th o.rs1).toNat,
                                               data := (Rv s o.th o.rs2).toNat % 2 ^ (8 * AmoN o),
                                               cmp := (Rv s o.th o.rd).toNat % 2 ^ (8 * AmoN o), late := sp == .tack })) ∧
  (∀ (s : State) (o : LdOp) (a k : Nat) (u : Bool) (c : LdOp → Instr), LoadRow c k u →
    s.reach o.th (LdEa s o) (2 ^ k) false false = .ok .dram a → s.canCharge (s.padOf o.th) 1 1 = false →
    Issues s o.th { word := 0, srcs := [o.rs1], slot := true, cls := { mem := true, ld := true } } → Into (c o) s (s.exhaust (s.padOf o.th) 1))

/-- R23, R31, R35, R40, R61, R62, R442: tack takes no slot, and the access is performed at issue. R38, R56: the order of the causes is
`reach`'s, which EngineAddressMap states. -/
def Obligations.TackAccessesAndTraps : Prop :=
  (∀ (s : State) (o : LdOp) (a k : Nat) (u : Bool) (c : LdOp → Instr), LoadRow c k u → o.late = false →
    s.reach o.th (LdEa s o) (2 ^ k) false false = .ok .tack a → AccessIssues s o.th [o.rs1] .tack true false →
    TackFree s o.th a (2 ^ k) false →
    let b := (Counted s o.th).memError a o.th
    (s.eccOf a ≠ .ue → Does (c o) s (ResultOn b s o.th o.rd (Loaded (2 ^ k) (s.rdN a (2 ^ k)) u) (Next s o.th))) ∧
    (s.eccOf a = .ue → Does (c o) s (fun t => RegsStay s t o.th ∧ Div t o.th = FreedDiv o.th o.rd (Div s o.th) ∧ From b t o.th ∧
      t.thr o.th = { Ran s o.th (Next s o.th) with txns := Freed o.rd (s.thr o.th).txns, nextId := (s.thr o.th).nextId + 1,
                                                   errs := (s.thr o.th).errs ++ [⟨(s.thr o.th).nextId, o.rd, LdEa s o, .tack, false⟩] }))) ∧
  (∀ (s : State) (o : StOp) (a k : Nat) (c : StOp → Instr), StoreRow c k → o.late = false →
    s.reach o.th (StEa s o) (2 ^ k) false true = .ok .tack a → AccessIssues s o.th [o.rs1, o.rs] .tack false true →
    TackFree s o.th a (2 ^ k) o.rl →
    let b := if k = 3 then Counted s o.th else (Counted s o.th).memError a o.th
    (s.eccOf a ≠ .ue ∨ k = 3 → Does (c o) s (fun t => GoesOn { b with mem := t.mem, ecc := t.ecc } s o.th (Next s o.th) t ∧
      Stored b t a (2 ^ k) ((Rv s o.th o.rs).toNat % 2 ^ (8 * 2 ^ k)))) ∧
    (s.eccOf a = .ue → k ≠ 3 → Does (c o) s (GoesOn b s o.th (Next s o.th)))) ∧
  (∀ (s : State) (o : AmoOp) (a op : Nat) (c : AmoOp → Instr), AmoRow c op → o.late = false →
    s.reach o.th (Rv s o.th o.rs1).toNat (AmoN o) true false = .ok .tack a → AccessIssues s o.th (AmoSrcs op o) .tack true true →
    let old := s.rdN a (AmoN o)
    let new := amoNew op (8 * AmoN o) old ((Rv s o.th o.rs2).toNat % 2 ^ (8 * AmoN o)) ((Rv s o.th o.rd).toNat % 2 ^ (8 * AmoN o))
    TackFree s o.th a (AmoN o) (o.rl && (op != 2 || old == (Rv s o.th o.rd).toNat % 2 ^ (8 * AmoN o))) → s.eccOf a ≠ .ue →
    let b := (Counted s o.th).memError a o.th
    Does (c o) s (fun t => ResultOn { b with mem := t.mem, ecc := t.ecc } s o.th o.rd (Loaded (AmoN o) old false) (Next s o.th) t ∧
      (∀ v, new = some v → Stored b t a (AmoN o) v) ∧ (new = none → t.mem = s.mem ∧ t.ecc = s.ecc))) ∧
  (∀ (s : State) (o : LdOp) (cause k : Nat) (u : Bool) (c : LdOp → Instr), LoadRow c k u →
    s.reach o.th (LdEa s o) (2 ^ k) false false = .trap cause → IssuesReg s o.th [o.rs1] →
    Does (c o) s (fun t => if (s.thr o.th).inTrap = false then Traps s o.th cause (LdEa s o) (Pc s o.th) t else Halts s o.th cause t)) ∧
  (∀ (s : State) (o : StOp) (cause k : Nat) (c : StOp → Instr), StoreRow c k →
    s.reach o.th (StEa s o) (2 ^ k) false true = .trap cause → IssuesReg s o.th [o.rs1, o.rs] →
    Does (c o) s (fun t => if (s.thr o.th).inTrap = false then Traps s o.th cause (StEa s o) (Pc s o.th) t else Halts s o.th cause t)) ∧
  (∀ (s : State) (o : AmoOp) (cause op : Nat) (c : AmoOp → Instr), AmoRow c op →
    s.reach o.th (Rv s o.th o.rs1).toNat (AmoN o) true false = .trap cause → IssuesReg s o.th (AmoSrcs op o) →
    Does (c o) s (fun t => if (s.thr o.th).inTrap = false then Traps s o.th cause (Rv s o.th o.rs1).toNat (Pc s o.th) t
      else Halts s o.th cause t)) ∧
  (∀ (s : State) (th : Fin 512) (ea n : Nat) (amo store : Bool) (cause : Nat), s.reach th ea n amo store = .trap cause →
    cause = if ea % n ≠ 0 then tALIGN else if ctlBase ≤ ea ∧ ea < ctlBase + 0x4000000 then
        (if n = 8 then tSIZE else if amo then tATOMIC_SPACE else tACCESS)
      else if hostWindow ≤ ea ∧ ea < 2 ^ 40 then (if amo then tATOMIC_SPACE else tACCESS) else tADDR_FAULT)

/-- R23, R35, R37, R39, R50, R51, R62, R77 to R86, R442. An access completes once its target can take it and nothing comes before it; one of a
thread that was reset is carried through. An access to a barn that PS2 has gated wakes it. R62 and the table of atomics. -/
def Obligations.AccessesComplete : Prop :=
  (∀ (s : State) (th : Fin 512) (x : Txn) (ok : Bool), s.stopped = false → s.findTxn th x.id = some (x, false) →
    x.kind = .load ∨ x.kind = .amo → s.mayPerform th x ok = true → x.rd < 32 →
    let p := (s.wakeBarn x).perform th x ok
    Does (.loadComplete ⟨th, x.id⟩ ok) s (fun t => (∀ u, u ≠ th.val → t.thr u = p.1.thr u) ∧
      (∀ v, p.2 = some v →
        (∀ (u : Fin 512) (r : Fin 32), t.g u r = if u = th ∧ r.val = x.rd ∧ x.rd ≠ 0 then extend x.size v x.signed else p.1.g u r) ∧
        t.thr th = { p.1.thr th with txns := (p.1.thr th).txns.filter (fun y => y.id != x.id) } ∧
        t = { p.1 with brn := { p.1.brn with thr := t.brn.thr, gpr := t.brn.gpr }, irq := t.irq }) ∧
      (p.2 = none →
        t.thr th = { p.1.thr th with txns := (p.1.thr th).txns.filter (fun y => y.id != x.id),
                                     errs := (p.1.thr th).errs ++ [⟨x.id, x.dst, x.ea, x.space, x.kind == .amo⟩] } ∧
        t = { p.1 with brn := { p.1.brn with thr := t.brn.thr }, irq := t.irq }))) ∧
  (∀ (s : State) (th : Fin 512) (x : Txn) (ok : Bool), s.stopped = false → s.findTxn th x.id = some (x, true) →
    x.kind = .load ∨ x.kind = .amo → s.mayPerform th x ok = true →
    let p := (s.wakeBarn x).perform th x ok
    Into (.loadComplete ⟨th, x.id⟩ ok) s { p.1 with brn := { p.1.brn with
      orphans := p.1.brn.orphans.filter (fun o => !(o.1 == th.val && o.2.id == x.id)) } }) ∧
  (∀ (s : State) (th : Fin 512) (x : Txn) (ok : Bool), x.space ≠ .ctl → x.space ≠ .host →
    let e := s.memError x.addr th
    let f := e.loadVal x.addr x.size
    (x.kind ≠ .amo → s.perform th x ok = if s.eccOf x.addr = .ue then (e, none) else (f.1, some f.2)) ∧
    (x.kind = .amo → s.eccOf x.addr = .ue → s.perform th x ok = (e, none)) ∧
    (x.kind = .amo → s.eccOf x.addr ≠ .ue → (s.perform th x ok).2 = some f.2 ∧
      (amoNew x.op (8 * x.size) f.2 x.data x.cmp = none → (s.perform th x ok).1 = f.1) ∧
      ∀ v, amoNew x.op (8 * x.size) f.2 x.data x.cmp = some v → v < 256 ^ x.size → Stored f.1 (s.perform th x ok).1 x.addr x.size v ∧
        (s.perform th x ok).1 = { f.1 with mem := (s.perform th x ok).1.mem, ecc := (s.perform th x ok).1.ecc })) ∧
  (∀ (s : State) (a n : Nat), s.loadVal a n =
    if s.saxTable a then ({ s with free := s.free + 1 }, s.freeBits.toNat % 2 ^ (8 * n)) else (s, s.rdN a n)) ∧
  (∀ (s : State) (th : Fin 512) (x : Txn) (ok : Bool), (x.space = .host → s.perform th x ok = (s, if ok then some (leNat (s.hostB x.addr x.size)) else none)) ∧
    (x.space = .ctl → s.perform th x ok = ((ctlRead (x.addr / 4 * 4) s).1,
      some ((ctlRead (x.addr / 4 * 4) s).2 / 2 ^ (8 * (x.addr % 4)) % 2 ^ (8 * x.size))))) ∧
  (∀ (s : State) (th : Fin 512) (x : Txn), s.stopped = false → s.findTxn th x.id = some (x, false) → x.kind = .store →
    x.space ≠ .ctl → x.space ≠ .host → s.mayPerform th x true = true → x.data < 256 ^ x.size →
    let w := s.wakeBarn x
    let b := ThrIs (if x.size = 8 then w else w.memError x.addr th) th { s.thr th with txns := (s.thr th).txns.filter (fun y => y.id != x.id) }
    (s.eccOf x.addr ≠ .ue ∨ x.size = 8 → Does (.storeAccept ⟨th, x.id⟩) s (fun t => Stored b t x.addr x.size x.data ∧
      t = { b with mem := t.mem, ecc := t.ecc, irq := t.irq })) ∧
    (s.eccOf x.addr = .ue → x.size ≠ 8 → Into (.storeAccept ⟨th, x.id⟩) s b)) ∧
  (∀ (s : State) (th : Fin 512) (x : Txn), s.stopped = false → s.findTxn th x.id = some (x, false) → x.kind = .store →
    s.mayPerform th x true = true →
    let b := ThrIs s th { s.thr th with txns := (s.thr th).txns.filter (fun y => y.id != x.id) }
    (x.space = .host → Into (.storeAccept ⟨th, x.id⟩) s (b.hostW x.addr (leBytes x.size x.data))) ∧
    (x.space = .ctl → x.size = 4 → Into (.storeAccept ⟨th, x.id⟩) s (ctlWrite (.thread th) x.addr x.data b))) ∧
  (∀ (s : State) (th : Fin 512) (x : Txn) (ok : Bool), s.stopped = false → s.mayPerform th x ok = false →
    (∃ o, s.findTxn th x.id = some (x, o)) → Into (.loadComplete ⟨th, x.id⟩ ok) s s ∧ (ok = true → Into (.storeAccept ⟨th, x.id⟩) s s)) ∧
  (∀ (w : Nat) (a b e : BitVec w), 0 < w →
    amoNew 0 w a.toNat b.toNat e.toNat = some (a + b).toNat ∧ amoNew 1 w a.toNat b.toNat e.toNat = some b.toNat ∧
    amoNew 2 w a.toNat b.toNat e.toNat = (if a = e then some b.toNat else none) ∧
    amoNew 3 w a.toNat b.toNat e.toNat = some (if b.toInt < a.toInt then b else a).toNat ∧
    amoNew 4 w a.toNat b.toNat e.toNat = some (if a.toInt < b.toInt then b else a).toNat ∧
    amoNew 5 w a.toNat b.toNat e.toNat = some (if b.toNat < a.toNat then b else a).toNat ∧
    amoNew 6 w a.toNat b.toNat e.toNat = some (if a.toNat < b.toNat then b else a).toNat)

/-- R50, R87 to R91. The kinds are 0 memory, 1 IO, 2 FRM, 3 LOFT. The accesses of a thread that are still to be performed (`openTxns`) are
those in its slots and those carried through a reset. -/
def Obligations.FencesHoldAndPass : Prop :=
  (∀ (s : State) (o : FenceOp) (kind : Nat) (c : Instr), (kind = 0 ∧ c = Instr.fence o) ∨ (kind = 1 ∧ c = Instr.fenceIo o) →
    (o.mask ≠ 0 → Issues s o.th { word := 0, srcs := [], slot := true, fence := some (kind, o.mask.toNat) } →
      (fenceMet (s.openTxns o.th) (s.thr o.th).nextId kind o.mask.toNat = true → Does c s (Goes s o.th (Next s o.th))) ∧
      (fenceMet (s.openTxns o.th) (s.thr o.th).nextId kind o.mask.toNat = false → Does c s (Slot s o.th { Txn.blank with
        kind := .fence, op := kind, data := o.mask.toNat, ea := Pc s o.th }))) ∧
    (o.mask = 0 → IssuesReg s o.th [] → Does c s (Illegal s o.th (encF 0x0B 0 0 (kind * 16) 0)))) ∧
  (∀ (s : State) (th : Fin 512) (kind : Nat) (c : Instr), (kind = 2 ∧ c = Instr.fenceFrm th) ∨ (kind = 3 ∧ c = Instr.fenceLoft th) →
    Issues s th { word := 0, srcs := [], slot := true, fence := some (kind, 0) } →
    (fenceMet (s.openTxns th) (s.thr th).nextId kind 0 = true → Does c s (Goes s th (Next s th))) ∧
    (fenceMet (s.openTxns th) (s.thr th).nextId kind 0 = false → Does c s (Slot s th { Txn.blank with
      kind := .fence, op := kind, ea := Pc s th }))) ∧
  (∀ (s : State) (th : Fin 512) (x : Txn), s.stopped = false → (s.thr th).txns.find? (fun y => y.id == x.id && y.kind == .fence) = some x →
    (fenceMet (s.openTxns th) x.id x.op x.data = true → (∀ e ∈ (s.thr th).errs, e.id < x.id → fenceOrders x.op x.data e = false) →
      Into (.fenceComplete ⟨th, x.id⟩) s (ThrIs s th { s.thr th with txns := (s.thr th).txns.filter (fun y => y.id != x.id) })) ∧
    (fenceMet (s.openTxns th) x.id x.op x.data = false ∨
        ((s.thr th).st = 1 ∧ ∃ e ∈ (s.thr th).errs, e.id < x.id ∧ fenceOrders x.op x.data e = true) →
      Into (.fenceComplete ⟨th, x.id⟩) s s)) ∧
  (∀ (l : List Txn) (id kind mask : Nat), fenceMet l id kind mask = true ↔ ∀ y ∈ l, y.id < id →
    let rw := kind < 2 ∧ ((y.kind = .unit ∧ kind = 1) ∨ (y.kind = .amo ∧ (y.space ≠ .ctl ∨ kind = 1)))
    (kind < 2 ∧ (mask.testBit 0 ∨ mask.testBit 1) → ¬ rw ∧ ¬ (y.kind = .load ∧ (y.space ≠ .ctl ∨ kind = 1))) ∧
    (kind < 2 ∧ (mask.testBit 2 ∨ mask.testBit 3) → ¬ rw ∧ ¬ (y.kind = .store ∧ (y.space ≠ .ctl ∨ kind = 1))) ∧
    (kind = 2 → ¬ (y.kind = .unit ∧ (y.op = 0x10 ∨ y.op = 0x14))) ∧ (3 ≤ kind → ¬ (y.kind = .unit ∧ y.op = 0x13)))

/-- R54 to R56, R64 to R66, R92, R107. `Claims.Slotted` is the state in which the unit meets the operation. -/
def Obligations.UnitOperationsAreTaken : Prop :=
  (∀ (c : UnOp → Instr) (op fn : Nat), UnitRow c op fn → ∀ (s : State) (o : UnOp), UnitIssues s op fn o →
    (∀ ta n, areaOf s op fn o = some (ta, n) → ta % 8 = 0 ∧ ta + n ≤ 0x8000) →
    let u := (Slotted s op fn o).unitTry o.th (s.thr o.th).nextId
    Into (c o) s (if mayWait op fn o.k.toNat then u else u.goto o.th ((u.thr o.th).pc + 4))) ∧
  (∀ (c : UnOp → Instr) (op fn : Nat), UnitRow c op fn → ∀ (s : State) (o : UnOp) (ta n : Nat), UnitIssues s op fn o →
    areaOf s op fn o = some (ta, n) → (s.thr o.th).inTrap = false →
    (ta % 8 ≠ 0 → Does (c o) s (Traps s o.th tALIGN ta (Pc s o.th))) ∧
    (ta % 8 = 0 → 0x8000 < ta + n → Does (c o) s (Traps s o.th tADDR_FAULT ta (Pc s o.th)))) ∧
  (∀ (c : UnOp → Instr) (op fn : Nat), UnitRow c op fn → ∀ (s : State) (o : UnOp), IssuesReg s o.th [] →
    unitWf op fn o.rs o.k.toNat = false → Does (c o) s (Illegal s o.th (encF op o.rd o.rs fn o.k.toNat))) ∧
  (∀ (s s2 : State) (th : Fin 512) (x : Txn) (fn k : Nat) (a : List Nat) (r : Option (Nat × Nat)), (s.thr th).txn x.id = some x →
    x.args = fn :: k :: a → x.res = none → s.unitStays th x.op fn a = false → s.padDue (s.padOf th) = false →
    (s.thr th).unitBehind x = false → runUnit th x.op fn k a s = (s2, r) →
    (∀ st v, r = some (st, v) → s.unitTry th x.id = Answered s2 th x.id st v) ∧
    (r = none →
      let w := ThrIs s2 th { s2.thr th with st := if (s2.thr th).st = 1 then 2 else (s2.thr th).st }
      s.unitTry th x.id = if x.op = 0x11 ∧ (a.getD 0 0, th.val) ∉ s2.brn.qWait then
        { w with brn := { w.brn with qWait := s2.brn.qWait ++ [(a.getD 0 0, th.val)] } } else w)) ∧
  (∀ (s : State) (th : Fin 512) (x : Txn) (fn k : Nat) (a : List Nat), (s.thr th).txn x.id = some x → x.args = fn :: k :: a →
    s.unitStays th x.op fn a = true ∨ (s.thr th).unitBehind x = true → s.unitTry th x.id = s) ∧
  (∀ (th : Thread) (x : Txn), th.unitBehind x = true ↔ ∃ y ∈ th.txns, y.kind = .unit ∧ y.id < x.id ∧ y.res = none ∧
    ∃ h, h ∈ x.handles ∧ h ∈ y.handles)

/-- R64, R66, R70, R71. An operation that its unit held is tried again as its result is asked for. -/
def Obligations.UnitResultsReachRegisters : Prop :=
  (∀ (s : State) (th : Fin 512) (x : Txn) (st v : Nat), s.stopped = false → (s.thr th).txn x.id = some x → x.res = some (st, v) → x.rd < 32 →
    Does (.unitResult ⟨th, x.id⟩) s (fun t =>
      (∀ (u : Fin 512) (r : Fin 32), t.g u r = if u = th ∧ r.val = x.rd ∧ x.rd ≠ 0 then BitVec.ofNat 64 (st + v * 256) else s.g u r) ∧
      t.thr th = { s.thr th with txns := (s.thr th).txns.filter (fun y => y.id != x.id), pc := if x.waits then Pc s th + 4 else Pc s th } ∧
      (∀ u, u ≠ th.val → t.thr u = s.thr u) ∧
      t = { s with brn := { s.brn with thr := t.brn.thr, gpr := t.brn.gpr }, irq := t.irq })) ∧
  (∀ (s : State) (th : Fin 512) (x : Txn), s.stopped = false → (s.thr th).txn x.id = some x → x.res = none →
    (s.inWait th x = true → Into (.unitResult ⟨th, x.id⟩) s s) ∧
    (s.inWait th x = false → (∃ y, ((s.unitTry th x.id).thr th).txn x.id = some y ∧ y.res = none) →
      Into (.unitResult ⟨th, x.id⟩) s (s.unitTry th x.id))) ∧
  (∀ (s : State) (th : Fin 512) (x : Txn) (v : Nat), s.stopped = false → (s.thr th).waitTxn = some x → x.op = 0x12 →
    timeOperand (x.args.getD 1 0) (x.args.getD 2 0) (x.args.getD 3 0) = some v →
    (s.domOk (x.args.getD 1 0) = true → v ≤ (s.dom (x.args.getD 1 0)).val → Into (.tmWaitEnd th) s (Answered s th x.id 0 0)) ∧
    ((s.dom (x.args.getD 1 0)).val < v → Into (.tmWaitEnd th) s s)) ∧
  (∀ (s : State) (th : Fin 512) (x : Txn), s.stopped = false → (s.thr th).waitTxn = some x → x.op = 0x10 → s.yrdFenced = false →
    (∀ s2 h, frmGet th (Tack th (x.args.getD 2 0)) s = some (s2, h) → Into (.waitSatisfied th) s (Answered s2 th x.id 0 h)) ∧
    (frmGet th (Tack th (x.args.getD 2 0)) s = none → Into (.waitSatisfied th) s s)) ∧
  (∀ (s : State) (th : Fin 512) (x : Txn) (q ta left : Nat) (l : List Byte) (s2 : State), s.stopped = false → (s.thr th).waitTxn = some x →
    x.op = 0x11 → x.args = [0, 1, q, ta] → s.qFenced = false → s.dramUp = true → s.dramIdle cQM = true →
    s.brn.qWait.find? (fun w => w.1 == q) = some (q, th.val) →
    let done (u : State) (st v : Nat) : State :=
      Answered { u with brn := { u.brn with qWait := u.brn.qWait.filter (fun w => w.2 != th.val) } } th x.id st v
    (s.qTake q = (s2, .got l left) → Into (.waitSatisfied th) s (done (s2.wrL (Tack th ta) l) 0 left)) ∧
    (s.qTake q = (s2, .memErr) → Into (.waitSatisfied th) s (done s2 0x26 0)) ∧
    (s.qTake q = (s2, .empty) → Into (.waitSatisfied th) s s2))

/-- R38 to R41, R43, R44, R47, R54, R75, R76, R88, R106, R111. -/
def Obligations.SystemInstructionsAndTraps : Prop :=
  (∀ (s : State) (o : UnOp), o.k = 0 → IssuesReg s o.th [o.rs] →
    Does (.yld o) s (fun t => RegsStay s t o.th ∧ Div t o.th = FreedDiv o.th o.rd (Div s o.th) ∧ From (Counted s o.th) t o.th ∧
      t.thr o.th = { Ran s o.th (Next s o.th) with
        txns := Freed o.rd (s.thr o.th).txns, yieldRd := some o.rd.val, yieldAt := s.brn.cyc.getD (barnOf o.th) 0,
        st := if o.rs = 0 ∨ (Counted s o.th).issueLeft o.th < (Rv s o.th o.rs).toNat then 3 else (s.thr o.th).st })) ∧
  (∀ (s : State) (th r : Nat), (s.thr th).yieldRd = some r →
    Start s th = (ThrIs s th { s.thr th with yieldRd := none }).setG th r (BitVec.ofNat 64 (s.issueLeft th))) ∧
  (∀ (s : State) (th : Fin 512), s.stopped = false → (s.thr th).st = 3 → s.bf (F.BRN_PAD_MODE_PER_EN (s.padOf th)) = false →
    (s.thr th).yieldAt + 1024 ≤ s.brn.cyc.getD (barnOf th) 0 → Into (.yieldResume th) s (ThrIs s th { s.thr th with st := 1 })) ∧
  (∀ (s : State) (th : Fin 512) (rd : Fin 32) (k : Fin 64), IssuesReg s th [] →
    (∀ p ∈ Specials s th, k.val = p.1 → Does (.sysRds th rd k) s (Result s th rd (BitVec.ofNat 64 p.2) (Next s th))) ∧
    (10 < k.val → Does (.sysRds th rd k) s (Illegal s th (encF 0x17 rd 0 0 k)))) ∧
  (∀ (s : State) (th : Fin 512) (rs : Fin 32) (k : Fin 64), IssuesReg s th [rs] →
    let v := (Rv s th rs).toNat
    (3 ≤ k.val → k.val ≤ 6 → Does (.sysWrs th rs k) s (fun t => RegsStay s t th ∧ Div t th = Div s th ∧ From (Counted s th) t th ∧
      t.thr th = { Ran s th (Next s th) with
        epc := if k.val = 3 then v else (s.thr th).epc, cause := if k.val = 4 then v % 16 else (s.thr th).cause,
        tval := if k.val = 5 then v else (s.thr th).tval, scratch := if k.val = 6 then v else (s.thr th).scratch })) ∧
    (k.val < 3 ∨ 6 < k.val → Does (.sysWrs th rs k) s (Illegal s th (encF 0x17 0 rs 0x100 k)))) ∧
  (∀ (s : State) (th : Fin 512) (code : BitVec 8), IssuesReg s th [] →
    Does (.sysTrap th code) s (fun t => if (s.thr th).inTrap = false then Traps s th tSYSCALL code.toNat (Next s th) t
      else Halts s th tSYSCALL t)) ∧
  (∀ (s : State) (th : Fin 512), IssuesReg s th [] →
    ((s.thr th).inTrap = true → Does (.sysRet th) s (fun t => RegsStay s t th ∧ Div t th = Div s th ∧ From (Counted s th) t th ∧
      t.thr th = { Ran s th ((s.thr th).epc / 4 * 4) with inTrap := false })) ∧
    ((s.thr th).inTrap = false → Does (.sysRet th) s (Illegal s th (encF 0x17 0 0 0x300 0)))) ∧
  (∀ (s : State) (th : Fin 512) (w : BitVec 32), reservedWord w.toNat = true → IssuesReg s th [] →
    Does (.add (.reserved th w)) s (Illegal s th w.toNat)) ∧
  (∀ (s : State) (o : RRR), s.stopped = false → s.mayIssue o.th = true →
    (s.canCharge (s.padOf o.th) 0 1 = false → Into (.add (.op o)) s (s.exhaust (s.padOf o.th) 0)) ∧
    (s.canCharge (s.padOf o.th) 0 1 = true → fenceDue ((Start s o.th).thr o.th) = none → (Start s o.th).fetchBad o.th = true →
      (s.thr o.th).inTrap = false →
      let b := if 0x1FFFFC < Pc s o.th then Start s o.th else (Start s o.th).memError (codeBase + Pc s o.th) o.th
      Into (.add (.op o)) s (ThrIs b o.th { s.thr o.th with
        yieldRd := none, inTrap := true, epc := Pc s o.th, cause := tFETCH_FAULT, tval := Pc s o.th,
        pc := Handler s o.th tFETCH_FAULT })) ∧
    (∀ e, Fetches s o.th → dueErr ((Start s o.th).thr o.th) { word := 0, srcs := [o.rs1, o.rs2] } = some e → (s.thr o.th).inTrap = false →
      (Start s o.th).waitsIssue o.th { word := 0, srcs := [o.rs1, o.rs2] } = false →
      Into (.add (.op o)) s (ThrIs ((Start s o.th).chargeIssue o.th) o.th { s.thr o.th with
        yieldRd := none, redeliver := false, errs := (s.thr o.th).errs.filter (fun x => x.id != e.id),
        inTrap := true, epc := Pc s o.th, cause := tLOAD_ERROR, tval := e.ea, pc := Handler s o.th tLOAD_ERROR }))) ∧
  (∀ (s : State) (th : Fin 512) (e : LoadErr) (f : Txn), s.stopped = false → s.mayIssue th = true → s.canCharge (s.padOf th) 0 1 = true →
    fenceDue (s.thr th) = some (e, f) → (s.thr th).inTrap = false →
    Into (.loadError ⟨th, e.id⟩) s (ThrIs ((Start s th).chargeIssue th) th { s.thr th with
      yieldRd := none, redeliver := false, errs := (s.thr th).errs.filter (fun x => x.id != e.id),
      txns := (s.thr th).txns.filter (fun y => y.id != f.id),
      inTrap := true, epc := f.ea, cause := tLOAD_ERROR, tval := e.ea, pc := Handler s th tLOAD_ERROR })) ∧
  (∀ (s : State) (th : Fin 512) (e : LoadErr), s.stopped = false → s.mayIssue th = true → s.canCharge (s.padOf th) 0 1 = true →
    fenceDue (s.thr th) = none → (s.thr th).redeliver = true → dueErr (s.thr th) { word := 0, srcs := [] } = some e →
    (s.thr th).inTrap = false →
    Into (.loadError ⟨th, e.id⟩) s (ThrIs ((Start s th).chargeIssue th) th { s.thr th with
      yieldRd := none, redeliver := false, errs := (s.thr th).errs.filter (fun x => x.id != e.id),
      inTrap := true, epc := Pc s th, cause := tLOAD_ERROR, tval := e.ea, pc := Handler s th tLOAD_ERROR }))

/-- R13, R45 to R48, R50. A start before the boot ROM is done is discarded (log 132). -/
def Obligations.ThreadsStartAndStop : Prop :=
  (∀ (s : State) (b : Fin 8) (e : Fin 16) (k : Fin 4) (p : Fin 32), Runs s → s.bf (F.BRN_STAT_RST_BUSY b) = false →
    let th := thrIdx b e k
    let w := s.sfs [(F.BRN_THR_CTL_PADDOCK b e k, p.val), (F.BRN_THR_CTL_RUN b e k, 1)]
    s.bf F.GCTL_BOOT_STAT_DONE = true → s.bf (F.BRN_CTL_EN b) = true → bit (s.gf (F.BRN_ENG_DIS_DIS b)) e = false →
    ((s.thr th).st = 0 → Into (.threadRun b e k p) s (ThrIs w th { s.thr th with st := 1, instret := 0 })) ∧
    ((s.thr th).st = 1 ∨ (s.thr th).st = 2 ∨ (s.thr th).st = 3 → s.padOf th = p → Into (.threadRun b e k p) s w)) ∧
  (∀ (s : State) (b : Fin 8) (e : Fin 16) (k : Fin 4) (p : Fin 32), Runs s →
    let th := thrIdx b e k
    s.bf (F.BRN_STAT_RST_BUSY b) = true ∨ (s.padOf th ≠ p ∧ (s.thr th).st ≠ 0) ∨ s.bf F.GCTL_BOOT_STAT_DONE = false ∨
      s.bf (F.BRN_CTL_EN b) = false ∨ bit (s.gf (F.BRN_ENG_DIS_DIS b)) e = true ∨ (s.thr th).st = 4 ∨ (s.thr th).st = 5 →
    Into (.threadRun b e k p) s (s.sf (F.BRN_STAT_CFG_REJ b) 1)) ∧
  (∀ (s : State) (b : Fin 8) (e : Fin 16) (k : Fin 4) (p : Fin 32), Runs s → s.bf (F.BRN_STAT_RST_BUSY b) = false →
    let th := thrIdx b e k
    let w := s.sfs [(F.BRN_THR_CTL_PADDOCK b e k, p.val), (F.BRN_THR_CTL_RUN b e k, 0)]
    let x : Thread := { s.thr th with st := 4, fromHalt := (s.thr th).st == 5, txns := (s.thr th).txns.filter (fun x => !x.waiting) }
    let u (y : Thread) : State := { ThrIs w th y with brn := { (ThrIs w th y).brn with qWait := s.brn.qWait.filter (fun q => q.2 != th) } }
    (s.padOf th = p → ((s.thr th).st = 1 ∨ (s.thr th).st = 2 ∨ (s.thr th).st = 5 ∨ ((s.thr th).st = 3 ∧ x.txns ≠ [])) →
      Into (.threadStop b e k p) s (u x)) ∧
    (s.padOf th = p → (s.thr th).st = 3 → x.txns = [] →
      Does (.threadStop b e k p) s (fun t => t.thr th = { x with
          st := 0, fromHalt := false, redeliver := (s.thr th).redeliver || !(s.thr th).errs.isEmpty } ∧
        (∀ v, v ≠ th → t.thr v = s.thr v) ∧ t = { u x with brn := { (u x).brn with thr := t.brn.thr }, irq := t.irq })) ∧
    ((s.thr th).st = 0 ∨ ((s.thr th).st = 4 ∧ s.padOf th = p) → Into (.threadStop b e k p) s w)) ∧
  (∀ (s : State) (th : Fin 512), s.stopped = false →
    ((s.thr th).st = 4 → (s.thr th).txns = [] → Into (.drainComplete th) s (ThrIs s th { s.thr th with
      st := 0, inTrap := (s.thr th).inTrap && !(s.thr th).fromHalt, fromHalt := false,
      redeliver := (s.thr th).redeliver || !(s.thr th).errs.isEmpty })) ∧
    ((s.thr th).st ≠ 4 ∨ (s.thr th).txns ≠ [] → Into (.drainComplete th) s s)) ∧
  (∀ (s : State) (b : Fin 8) (e : Fin 16) (k : Fin 4) (v : BitVec 32), Runs s →
    ((s.thr (thrIdx b e k)).st = 0 →
      Into (.threadPcWrite b e k v) s (ThrIs s (thrIdx b e k) { s.thr (thrIdx b e k) with pc := v.toNat / 4 % 2 ^ 19 * 4 })) ∧
    ((s.thr (thrIdx b e k)).st ≠ 0 → Into (.threadPcWrite b e k v) s (s.sf (F.BRN_STAT_CFG_REJ b) 1)))

/-- R23, R29, R30, R50, R442, R444. What a barn's reset keeps of a thread beside R50's list, and a second one while it runs, are logs 140 and
138 of the model. -/
def Obligations.BarnResetAndCodeStore : Prop :=
  (∀ (s : State) (b : Fin 8), Runs s → s.bf (F.BRN_STAT_RST_BUSY b) = false →
    Does (.barnReset b) s (fun t => t.bf (F.BRN_STAT_RST_BUSY b) = true ∧ t.brn.rstEnd.getD b none = some (s.brn.cyc.getD b 0 + 256) ∧
      (∀ (u : Fin 512) (r : Fin 32), t.g u r = if barnOf u = b.val then 0 else s.g u r) ∧
      (∀ u, t.thr u = if barnOf u = b.val then { Thread.init with pc := (s.thr u).pc, lastPc := (s.thr u).lastPc, instret := (s.thr u).instret,
                                                                  nextId := (s.thr u).nextId } else s.thr u) ∧
      (∀ (u : Fin 512) (x : Txn), x ∈ (s.thr u).txns → barnOf u = b.val → x.isAccess = true →
        (u.val, { x with granted := true }) ∈ t.brn.orphans) ∧ (∀ w ∈ t.brn.qWait, w ∈ s.brn.qWait ∧ (barnOf w.2 = b.val → s.thr w.2 = Thread.init)) ∧
      (∀ w ∈ s.brn.qWait, barnOf w.2 ≠ b.val → w ∈ t.brn.qWait) ∧
      t.gf (F.BRN_ECC_CNT_UE b) = 0 ∧ t.gf (F.BRN_ECC_CNT_CE b) = 0 ∧ (0x30 + b.val) ∈ t.fcu.inReset ∧ t.fenced (0x30 + b) = false ∧
      t = { s with brn := t.brn, regs := t.regs, yrd := t.yrd, eth := t.eth, lft := t.lft,
                   fcu := { s.fcu with inReset := t.fcu.inReset }, irq := t.irq })) ∧
  (∀ (s : State) (b : Fin 8), Runs s → s.bf (F.BRN_STAT_RST_BUSY b) = true → Into (.barnReset b) s s) ∧
  (∀ (s : State) (b : Fin 8) (c : Nat), s.stopped = false → s.brn.rstEnd.getD b none = some c →
    (c ≤ s.brn.cyc.getD b 0 →
      Into (.barnResetEnd b) s (({ s with
        brn := { s.brn with rstEnd := setAt s.brn.rstEnd b none },
        fcu := { s.fcu with inReset := s.fcu.inReset.filter (· != 0x30 + b.val),
                            tail := s.fcu.tail.filter (·.1 != 0x30 + b.val) ++ [(0x30 + b.val, s.tick + 250 * s.gf F.FCU_CFG_CASCADE_TAIL)] }
        } : State).sf (F.BRN_STAT_RST_BUSY b) 0)) ∧
    (s.brn.cyc.getD b 0 < c → Into (.barnResetEnd b) s s)) ∧
  (∀ (s : State) (v : BitVec 32), Runs s →
    let a := codeBase + s.gf F.BRN_CS_ADDR_ADDR * 4
    (s.bf F.BRN_CS_CTL_WR_EN = true →
      Does (.csDataWrite v) s (fun t => Stored s t a 4 v.toNat ∧ t.gf F.BRN_CS_ADDR_ADDR = (s.gf F.BRN_CS_ADDR_ADDR + 1) % 2 ^ 19 ∧
        (∀ o, o ≠ R.BRN_CS_ADDR → t.reg o = s.reg o) ∧ t = { s with regs := t.regs, mem := t.mem, ecc := t.ecc, irq := t.irq })) ∧
    (s.bf F.BRN_CS_CTL_WR_EN = false → Into (.csDataWrite v) s s)) ∧
  (∀ (s : State), s.stopped = false →
    Into .csDataRead s (((s.memError (codeBase + s.gf F.BRN_CS_ADDR_ADDR * 4) 0).emit .hostRead 0
      (leBytes 4 (s.rdN (codeBase + s.gf F.BRN_CS_ADDR_ADDR * 4) 4))))) ∧
  (∀ (s : State), Runs s → s.bf F.BRN_CS_CTL_ICINV_BUSY = false → Into .icinv s (s.sf F.BRN_CS_CTL_ICINV_BUSY 1)) ∧
  (∀ (s : State), Runs s → s.bf F.BRN_CS_CTL_ICINV_BUSY = true → Into .icinv s { s with brn := { s.brn with icAgain := true } }) ∧
  (∀ (s : State), s.stopped = false →
    (s.brn.icAgain = true → Into .icinvDone s { s with brn := { s.brn with icAgain := false } }) ∧
    (s.brn.icAgain = false → Into .icinvDone s (s.sf F.BRN_CS_CTL_ICINV_BUSY 0)))

/-- R108 to R111, R113, R116, R119. R115, R116, R118, R440, R445. Which active leaf is granted within the bounds of R445 is the sender's
choice (log 34). -/
def Obligations.PaddockPeriodsAndGrants : Prop :=
  (∀ (s : State) (p : Fin 32) (v : Nat), s.stopped = false → (s.pad p).next = some v → s.bf (F.BRN_PAD_MODE_PER_EN p) = true →
    let n := s.gf (F.BRN_PAD_MODE_DOMAIN p)
    let len := max 1 (s.gf (F.BRN_PAD_LEN_LEN p))
    (s.domOk n = true → v ≤ s.whole n →
      Does (.periodBoundary p) s (fun t => PadRefilled s t p ∧ PadFrame s t p ∧ t.brn.padWritten = s.brn.padWritten ∧
        t.reg (R.BRN_PAD_STAT p) = (s.sf (F.BRN_PAD_STAT_FALLBACK p) 0).reg (R.BRN_PAD_STAT p) ∧
        ∃ m, t.pad p = { next := some m, fbNext := none, exh := 0 } ∧ s.whole n < m ∧ m ≤ s.whole n + len ∧ (m - v) % len = 0 ∧ v < m)) ∧
    (s.domOk n = false ∨ s.whole n < v → Into (.periodBoundary p) s s)) ∧
  (∀ (s : State) (p : Fin 32) (v : Nat), s.stopped = false → (s.pad p).fbNext = some v → (s.pad p).next = none →
    let len := 1000 * max 1 (s.gf F.BRN_PAD_GCTL_FALLBACK_LEN)
    (v ≤ s.whole 0 →
      Does (.fallbackBoundary p) s (fun t => PadRefilled s t p ∧ PadFrame s t p ∧ t.brn.padWritten = s.brn.padWritten ∧
        t.reg (R.BRN_PAD_STAT p) = s.reg (R.BRN_PAD_STAT p) ∧
        ∃ m, t.pad p = { next := none, fbNext := some m, exh := 0 } ∧ s.whole 0 < m ∧ m ≤ s.whole 0 + len ∧ (m - v) % len = 0 ∧ v < m)) ∧
    (s.whole 0 < v → Into (.fallbackBoundary p) s s)) ∧
  (∀ (s : State) (p : Fin 32) (v : BitVec 32), Runs s → s.bf F.BRN_CS_CTL_LOCK = false → s.bf (F.BRN_PAD_MODE_PER_EN p) = false →
    (bit v.toNat 1 && bit v.toNat 2) = false → bits v.toNat 23 20 ≠ 0 → s.padLenOk p (bits v.toNat 10 8) = true →
    Does (.perEnSet p v) s (fun t => t.bf (F.BRN_PAD_MODE_PER_EN p) = true ∧ t.gf (F.BRN_PAD_MODE_WEIGHT p) = bits v.toNat 23 20 ∧
      t.gf (F.BRN_PAD_MODE_DOMAIN p) = bits v.toNat 10 8 ∧ t.bf (F.BRN_PAD_MODE_BE p) = bit v.toNat 2 ∧
      t.bf (F.BRN_PAD_MODE_PRIV p) = bit v.toNat 1 ∧ (∀ k < 5, t.gf (F.BRN_PAD_LEFT_LEFT p k) = s.gf (F.BRN_PAD_BUD_BUDGET p k)) ∧
      t.brn.padWritten = true ∧ t = { s with regs := t.regs, brn := { s.brn with thr := t.brn.thr, pad := t.brn.pad, padWritten := true }, irq := t.irq } ∧
      (∀ o, o ≠ R.BRN_PAD_MODE p → o ≠ R.BRN_PAD_STAT p → (∀ k < 5, o ≠ R.BRN_PAD_LEFT p k ∧ o ≠ R.BRN_PAD_EXH p k) → t.reg o = s.reg o) ∧
      (s.domOk (bits v.toNat 10 8) = true → (∀ u, t.thr u = s.thr u) ∧ t.reg (R.BRN_PAD_STAT p) = s.reg (R.BRN_PAD_STAT p) ∧
        t.pad p = { s.pad p with next := some (t.firstBoundary p), fbNext := none }) ∧
      (s.domOk (bits v.toNat 10 8) = false → PadFrame s t p ∧ t.bf (F.BRN_PAD_STAT_FALLBACK p) = true ∧
        t.pad p = { next := none, fbNext := some (s.whole 0 + 1000 * max 1 (s.gf F.BRN_PAD_GCTL_FALLBACK_LEN)), exh := 0 }))) ∧
  (∀ (s : State) (p : Fin 32) (v : BitVec 32), Runs s → s.bf F.BRN_CS_CTL_LOCK = false → s.bf (F.BRN_PAD_MODE_PER_EN p) = true →
    (bit v.toNat 1 && bit v.toNat 2) = false → bits v.toNat 23 20 ≠ 0 →
    Does (.perEnClear p v) s (fun t => t.bf (F.BRN_PAD_MODE_PER_EN p) = false ∧ (∀ k < 5, t.gf (F.BRN_PAD_LEFT_LEFT p k) = 0) ∧
      t.bf (F.BRN_PAD_STAT_FALLBACK p) = false ∧ t.pad p = PadSt.init ∧ PadFrame s t p ∧
      (∀ o, o ≠ R.BRN_PAD_MODE p → o ≠ R.BRN_PAD_STAT p → (∀ k < 5, o ≠ R.BRN_PAD_LEFT p k) → t.reg o = s.reg o))) ∧
  (∀ (s : State) (p : Fin 32) (v : BitVec 32), Runs s → s.bf F.BRN_CS_CTL_LOCK = false →
    let w : State := { s with brn := { s.brn with padWritten := true } }
    (s.bf (F.BRN_PAD_MODE_PER_EN p) = false →
      Into (.padConfigWrite p .len v) s (w.sf (F.BRN_PAD_LEN_LEN p) v.toNat) ∧
      Into (.padConfigWrite p .phase v) s (w.sf (F.BRN_PAD_PHASE_PHASE p) v.toNat)) ∧
    (s.bf (F.BRN_PAD_MODE_PER_EN p) = true →
      Into (.padConfigWrite p .len v) s (w.sf (F.BRN_PAD_STAT_CFG_REJ p) 1) ∧
      Into (.padConfigWrite p .phase v) s (w.sf (F.BRN_PAD_STAT_CFG_REJ p) 1)) ∧
    ((bit v.toNat 1 && bit v.toNat 2) = true ∨ bits v.toNat 23 20 = 0 ∨
        (s.bf (F.BRN_PAD_MODE_PER_EN p) = true ∧ bit v.toNat 0 = true ∧ bits v.toNat 10 8 ≠ s.gf (F.BRN_PAD_MODE_DOMAIN p)) →
      Into (.padConfigWrite p .mode v) s (w.sf (F.BRN_PAD_STAT_CFG_REJ p) 1))) ∧
  (∀ (s : State) (th : Fin 512) (x : Txn), s.stopped = false → s.rank (s.padOf th) = 2 →
    (s.thr th).txns.find? (fun x => x.space == .dram && !x.granted && !x.told &&
      decide (x.since + max 1 (s.gf F.BRN_PAD_GCTL_PRIV_WAIT_MAX) < s.tick)) = some x →
    Into (.privLate th) s (((ThrIs s th { s.thr th with txns := (s.thr th).txns.map (fun y => if y.id == x.id then { y with told := true } else y) }).sf
      (F.BRN_PAD_STAT_PRIV_LATE (s.padOf th)) 1).raise 0x30 kTIMEOUT (s.padOf th + th.val * 2 ^ 16))) ∧
  (∀ (s : State) (th : Fin 512) (x : Tier), s.stopped = false → (s.thr th).dramLeaf = true → s.dramUp = true →
    (s.rank (s.padOf th) = 2 ∨ s.privWaits = false) → x = (if s.rank (s.padOf th) = 2 then s.arbSync.arb.priv else s.arbSync.arb.norm) →
    (s.tick < x.since + s.sampleTicks ∨ (x.add th).fair = true →
      Does (.dramGrant (.thread th)) s (fun t => t.thr th = { s.thr th with txns := grantFirst (s.thr th).txns } ∧
        (∀ u, u ≠ th.val → t.thr u = s.thr u) ∧ t.arb.req = s.arb.req ∧
        t = { s with brn := { s.brn with thr := t.brn.thr }, arb := t.arb, irq := t.irq } ∧
        (x.since + s.sampleTicks ≤ s.tick →
          let y := if s.rank (s.padOf th) = 2 then t.arb.priv else t.arb.norm
          y = x.add th ∨ (y.leaves ≠ x.leaves ∧ y.since = s.tick ∧ y.got = [])))) ∧
    (x.since + s.sampleTicks ≤ s.tick → (x.add th).fair = false → Into (.dramGrant (.thread th)) s s)) ∧
  (∀ (s : State) (l : DramLeaf) (k : Nat), s.stopped = false → (l, k) ∈ [(.lft, 0), (.sax, 1), (.evr, 2), (.qm, 3)] →
    s.dramIdle k = false → s.dramUp = true → s.privWaits = false →
    (s.tick < s.arbSync.arb.norm.since + s.sampleTicks ∨ (s.arbSync.arb.norm.add (512 + k)).fair = true) →
    Does (.dramGrant l) s (fun t => t.arb.req = setAt s.arb.req k (s.arb.req.getD k 0 - 1) ∧ t = { s with arb := t.arb, irq := t.irq })) ∧
  (∀ (x y : Tier) (l w : Nat), x.leaves = y.leaves → x.inShare = true → y.inShare = true → (l, w) ∈ x.leaves →
    ((y.gotBy l : Int) - x.gotBy l) * x.weight - (w : Int) * ((y.total : Int) - x.total) ≤ 7 * x.weight ∧
    -(7 * (x.weight : Int)) ≤ ((y.gotBy l : Int) - x.gotBy l) * x.weight - (w : Int) * ((y.total : Int) - x.total)) ∧
  (∀ (l : List Txn), l.any (fun x => x.space == .dram && !x.granted) = true → ∃ pre x post, l = pre ++ x :: post ∧
    pre.all (fun y => !(y.space == .dram && !y.granted)) = true ∧ x.space = .dram ∧ x.granted = false ∧
    grantFirst l = pre ++ { x with granted := true } :: post) ∧
  (∀ (s : State) (off : BitVec 32), s.stopped = false → s.bf F.DMC_CTL_SCRUB_EN = true → s.dramUp = true → off.toNat < s.usable →
    let a := dramBase + off.toNat / 8 * 8
    (s.eccOf a = .ce → Does (.scrub off) s (fun t => t.ecc = (s.setEcc a .ok).ecc ∧ t.bf F.DMC_STAT_MEM_CE = true ∧
      (∃ m, t.fcu.inbox = s.fcu.inbox ++ [m] ∧ m.src = 0x22 ∧ m.kind = kCE) ∧
      t = { s.memError a 0 with ecc := t.ecc, irq := t.irq })) ∧
    (s.eccOf a = .ue → Into (.scrub off) s (s.memError a 0)) ∧ (s.eccOf a = .ok → Into (.scrub off) s s))

/-- R122. Only domains 0 to 3 have an increment. -/
def Obligations.TimeDomainIncrements : Prop :=
  (∀ (s : State) (n : Fin 8) (v : BitVec 32), Runs s → n.val < 4 →
    Into (.incrLoWrite n v) s (DomIs s n { s.dom n with low := some v.toNat })) ∧
  (∀ (s : State) (n : Fin 8) (v : BitVec 32) (x : Nat), Runs s → n.val < 4 →
    x = v.toNat % 256 * 2 ^ 32 + (s.dom n).low.getD ((s.dom n).incr % 2 ^ 32) →
    (0x3FEF9DB23 ≤ x → x ≤ 0x4010624DD → Into (.incrHiWrite n v) s (DomIs s n { s.dom n with low := none, incr := x })) ∧
    (x < 0x3FEF9DB23 ∨ 0x4010624DD < x →
      Into (.incrHiWrite n v) s ((DomIs s n { s.dom n with low := none }).sf (F.TBU_DOM_STAT_RATE_REFUSED n) 1))) ∧
  (∀ (s : State) (n : Fin 4), s.ctlValue (R.TBU_DOM_INCR_LO n) = (s.dom n).incr % 2 ^ 32 ∧
    s.ctlValue (R.TBU_DOM_INCR_HI n) = (s.dom n).incr / 2 ^ 32 % 2 ^ 8) ∧
  (∀ (s : State) (n : Fin 4), s.domState n ≠ dOFF → s.domState n ≠ dUNLOCKED → (s.dom n).slew = 0 →
    s.tickDom n = DomIs s n { s.dom n with val := ((s.dom n).val + (s.dom n).incr) % (2 ^ 64 * 1000000000 * 2 ^ 32) }) ∧
  (∀ (s : State) (n : Fin 8) (v : BitVec 32), Runs s → 4 ≤ n.val → Into (.incrLoWrite n v) s s ∧ Into (.incrHiWrite n v) s s)

/-- R123, R124, R130, R132, R240, R441. -/
def Obligations.StepsAndReacquire : Prop :=
  (∀ (s : State) (n : Fin 8) (o ns : Int), Runs s → n.val < 4 → s.domState n ≠ dOFF → ns = sgn 32 (s.reg (R.TBU_DOM_STEP_NS n)) →
    o = sgn 32 (s.reg (R.TBU_DOM_STEP_S n)) * 1000000000 + ns →
    let d := s.dom n
    let m := s.mark0 n
    let refused := m.sf (F.TBU_DOM_STAT_STEP_REFUSED n) 1
    let busy := m.sf (F.TBU_DOM_STAT_STEP_BUSY n) 1
    (d.step.isSome = true → Into (.domStep n false) s busy) ∧
    (d.step = none → 1000000000 ≤ ns.natAbs ∨ (d.val : Int) + o * 2 ^ 32 < 0 → Into (.domStep n false) s refused) ∧
    (d.step = none → ns.natAbs < 1000000000 → 0 ≤ (d.val : Int) + o * 2 ^ 32 →
      (s.bf (F.TBU_DOM_STAT_SLEWING n) = true → Into (.domStep n false) s busy) ∧
      (s.bf (F.TBU_DOM_STAT_SLEWING n) = false → s.domState n = dACQUIRE →
        (s.bf (F.TBU_DOM_STAT_FORCED n) = false → o < 0 → Into (.domStep n false) s refused) ∧
        (s.bf (F.TBU_DOM_STAT_FORCED n) = true ∨ 0 ≤ o → Into (.domStep n false) s (DomIs m n { d with step := some (o, s.tick) }))) ∧
      (s.bf (F.TBU_DOM_STAT_SLEWING n) = false → s.domState n ≠ dACQUIRE →
        (s.gf F.TBU_JUMP_LIMIT_LIMIT < o.natAbs ∨ s.gf F.TBU_SLEW_RATE_RATE = 0 → Into (.domStep n false) s refused) ∧
        (o ≠ 0 → o.natAbs ≤ s.gf F.TBU_JUMP_LIMIT_LIMIT → s.gf F.TBU_SLEW_RATE_RATE ≠ 0 →
          Into (.domStep n false) s ((DomIs m n { d with slew := o * 2 ^ 32 }).sf (F.TBU_DOM_STAT_SLEWING n) 1)) ∧
        (o = 0 → s.gf F.TBU_SLEW_RATE_RATE ≠ 0 → Into (.domStep n false) s m)))) ∧
  (∀ (s : State) (n : Fin 8), Runs s → n.val < 4 → s.domState n ≠ dOFF →
    let r := (DomIs (s.mark0 n) n { s.dom n with slew := 0 }).sfs
      [(F.TBU_DOM_STAT_SLEWING n, 0), (F.TBU_DOM_STAT_STATE n, dACQUIRE), (F.TBU_DOM_STAT_FORCED n, 1)]
    Into (.reacq n) s r ∧
    (∀ o : Int, o = sgn 32 (s.reg (R.TBU_DOM_STEP_S n)) * 1000000000 + sgn 32 (s.reg (R.TBU_DOM_STEP_NS n)) → (s.dom n).step = none →
      (sgn 32 (s.reg (R.TBU_DOM_STEP_NS n))).natAbs < 1000000000 → 0 ≤ ((s.dom n).val : Int) + o * 2 ^ 32 →
      Into (.domStep n true) s (DomIs r n { r.dom n with step := some (o, s.tick) }))) ∧
  (∀ (s : State) (n : Fin 8) (again : Bool), Runs s → n.val < 4 → s.domState n = dOFF →
    Into (.reacq n) s (s.sf (F.TBU_DOM_STAT_CFG_REJ n) 1) ∧ Into (.domStep n again) s (s.sf (F.TBU_DOM_STAT_CFG_REJ n) 1)) ∧
  (∀ (s : State) (n : Fin 8) (again : Bool), Runs s → 4 ≤ n.val → Into (.reacq n) s s ∧ Into (.domStep n again) s s) ∧
  (∀ (s : State) (n : Fin 8) (o : Int) (t : Nat), s.stopped = false → (s.dom n).step = some (o, t) → t < s.tick →
    let s' := (DomIs (s.mark0 n) n { s.dom n with step := none, val := (((s.dom n).val : Int) + o * 2 ^ 32).toNat % (2 ^ 64 * 1000000000 * 2 ^ 32) }).sfs
      [(F.TBU_DOM_STAT_STATE n, dTRACK), (F.TBU_DOM_STAT_FORCED n, 0)]
    (o = 0 → Into (.stepApply n) s s') ∧
    (o ≠ 0 → s.bf (F.TBU_DOM_STAT_FORCED n) = false → Into (.stepApply n) s ((n.val :: s'.synAll n).foldl State.stepOn s')) ∧
    (o ≠ 0 → s.bf (F.TBU_DOM_STAT_FORCED n) = true → Into (.stepApply n) s (s'.newEra n (s.whole n)))) ∧
  (∀ (s : State) (n : Fin 8) (o : Int) (t : Nat), s.stopped = false → (s.dom n).step = none ∨ ((s.dom n).step = some (o, t) ∧ s.tick ≤ t) →
    Into (.stepApply n) s s) ∧
  (∀ (s : State) (n : Nat), s.mark0 n = if n = 0 then { s with tbu := { s.tbu with past := s.tbu.past.filter (fun m => s.tick < m.1 + 25000000) ++
    [(s.tick, (s.dom 0).val, s.era 0, s.domState 0 + 8 * b2n (s.bf (F.TBU_DOM_STAT_SLEWING 0)))] } } else s) ∧
  (∀ (s : State) (n : Nat), n < 4 → s.stepOn n = s.gatesStep n) ∧
  (∀ (s : State) (n : Nat), s.synthetic n = true → s.domOk n = true → s.stepOn n = (DomIs s n { s.dom n with val := s.synValue n }).gatesStep n) ∧
  (∀ (s : State) (n : Fin 8), s.stopped = false →
    ((s.dom n).slew = 0 → Into (.slewDone n) s ((s.mark0 n).sf (F.TBU_DOM_STAT_SLEWING n) 0)) ∧ ((s.dom n).slew ≠ 0 → Into (.slewDone n) s s))

/-- R127, R128, R129, R130, R441. A change of EN takes effect at the next tick. A domain that is lost keeps its value, ends its slew and discards its actions. -/
def Obligations.DomainsStartAndAreLost : Prop :=
  (∀ (s : State) (n : Fin 8) (v : BitVec 32), Runs s → 1 ≤ n.val → n.val < 4 → s.bf F.TBU_CTL_LOCK = false →
    let s1 := s.sfs [(F.TBU_DOM_CTL_LATE_POLICY n, bits v.toNat 1 1), (F.TBU_DOM_CTL_EN n, 1)]
    let s0 := s.sfs [(F.TBU_DOM_CTL_LATE_POLICY n, bits v.toNat 1 1), (F.TBU_DOM_CTL_EN n, 0)]
    Into (.domainEnable n v) s (DomIs s1 n { s.dom n with turn := if s.domState n = dOFF then some true else none }) ∧
    Into (.domainDisable n v) s (DomIs s0 n { s.dom n with turn := if s.domState n = dOFF then none else some false })) ∧
  (∀ (s : State) (n : Nat), 1 ≤ n → n < 4 →
    ((s.dom n).turn = none → s.turnDom n = s) ∧
    ((s.dom n).turn = some true → s.turnDom n =
      let u := (DomIs s n { s.dom n with turn := none }).sfs [(F.TBU_DOM_STAT_STATE n, dACQUIRE), (F.TBU_DOM_STAT_FORCED n, 0)]
      ((u.logRec 5 0x0052 (n + dACQUIRE * 8) (u.whole n)).regain n).synFollow n false) ∧
    ((s.dom n).turn = some false → s.turnDom n = ((DomIs s n { s.dom n with turn := none }).lostCore n dOFF).synFollow n false)) ∧
  (∀ (s : State) (v : BitVec 32), Runs s → s.bf F.TBU_CTL_LOCK = false →
    Into (.domainEnable 0 v) s (s.sf (F.TBU_DOM_CTL_LATE_POLICY 0) (bits v.toNat 1 1)) ∧
    Into (.domainDisable 0 v) s (s.sf (F.TBU_DOM_CTL_LATE_POLICY 0) (bits v.toNat 1 1))) ∧
  (∀ (s : State) (n : Fin 8) (v : BitVec 32), Runs s → 4 ≤ n.val → s.bf F.TBU_CTL_LOCK = false →
    let src := bits v.toNat 6 4
    let w (en : Nat) : State := s.sfs [(F.TBU_DOM_CTL_EDGE n, bits v.toNat 12 12), (F.TBU_DOM_CTL_SYN_SRC n, bits v.toNat 10 8),
      (F.TBU_DOM_CTL_SRC n, src), (F.TBU_DOM_CTL_LATE_POLICY n, bits v.toNat 1 1), (F.TBU_DOM_CTL_EN n, en)]
    (5 ≤ src → Into (.domainEnable n v) s (s.sf (F.TBU_DOM_STAT_CFG_REJ n) 1) ∧ Into (.domainDisable n v) s (s.sf (F.TBU_DOM_STAT_CFG_REJ n) 1)) ∧
    (src < 5 → s.bf (F.TBU_DOM_CTL_EN n) = false → s.domEnBad n src (bits v.toNat 10 8) = false →
      (src ≠ 4 → Into (.domainEnable n v) s ((DomIs (w 1) n { s.dom n with rate := 0 }).domLost n dUNLOCKED)) ∧
      (src = 4 → Into (.domainEnable n v) s (((w 1).synSync false n).synFollow n false)) ∧ Into (.domainDisable n v) s (w 0)) ∧
    (src < 5 → s.bf (F.TBU_DOM_CTL_EN n) = true → s.gf (F.TBU_DOM_CTL_SRC n) = src → Into (.domainDisable n v) s ((w 0).domLost n dOFF))) ∧
  (∀ (s : State) (n : Fin 8) (v : BitVec 32), Runs s → s.bf F.TBU_CTL_LOCK = true → Into (.domainEnable n v) s s ∧ Into (.domainDisable n v) s s) ∧
  (∀ (s : State) (n code : Nat), n < 8 → code = dOFF ∨ code = dUNLOCKED →
    let t := s.lostCore n code
    (t.dom n).val = (s.dom n).val ∧ (t.dom n).slew = 0 ∧ (t.dom n).step = none ∧
    t.tbu.acts = s.tbu.acts.filter (fun a => a.dom != n)) ∧
  (∀ (s : State) (n : Fin 8), s.stopped = false → 4 ≤ n.val → s.synthetic n = false → s.domState n = dLOCKED →
    max 1 (s.gf (F.TBU_COORD_CFG_HOLD_CYC n)) * 2 ^ 80 ≤ (s.tick - (s.dom n).lastEv.getD 0) * (s.dom n).rate * s.gridDiv n →
    Into (.coordLost n) s (((DomIs s n { s.dom n with holdAt := s.tick }).sf (F.TBU_DOM_STAT_STATE n) dHOLDOVER).synFollow n false)) ∧
  (∀ (s : State) (n : Fin 8), s.stopped = false → 4 ≤ n.val → s.synthetic n = false → s.domState n = dHOLDOVER →
    max 1 (s.gf (F.TBU_COORD_CFG_HOLD_MAX n)) * 2 ^ 80 ≤ (s.tick - (s.dom n).holdAt) * (s.dom n).rate →
    Into (.holdoverExpire n) s ((s.lostCore n dUNLOCKED).synFollow n false)) ∧
  (∀ (s : State) (e : RefEdge) (st : Nat), s.stopped = false →
    Into (.referenceEvent ⟨e, st⟩) s ((((s.refTo e st 4).refTo e st 5).refTo e st 6).refTo e st 7)) ∧
  (∀ (s : State) (e : RefEdge) (st n : Nat),
    st < s.gf (F.TBU_COORD_CFG_FILT n) ∨ s.bf (F.TBU_DOM_CTL_EN n) = false ∨ s.domState n = dOFF → s.refTo e st n = s) ∧
  (∀ (s : State) (n : Fin 8) (rising : Bool) (e : Int) (dt st : Nat), 4 ≤ n.val → s.gf (F.TBU_COORD_CFG_FILT n) ≤ st → s.bf (F.TBU_DOM_CTL_EN n) = true →
    s.gf (F.TBU_DOM_CTL_SRC n) = 1 → rising = !s.bf (F.TBU_DOM_CTL_EDGE n) → s.domState n = dLOCKED →
    e = ((((s.dom n).val + 2 ^ 79) % 2 ^ 80 : Nat) : Int) - 2 ^ 79 → dt = s.tick - (s.dom n).lastEv.getD 0 →
    (s.gf (F.TBU_COORD_PMIN_PMIN n) ≤ dt → e.natAbs ≤ 2 ^ 80 / 8 →
      let t := s.refTo (.mains rising) st n
      (t.dom n).lastEv = some s.tick ∧ (t.dom n).rejects = 0 ∧ (t.dom n).val = (s.dom n).val ∧ t.domState n = dLOCKED ∧
      (s.gf (F.TBU_COORD_PMAX_PMAX n) < dt → (t.dom n).rate = (s.dom n).rate) ∧
      (dt ≤ s.gf (F.TBU_COORD_PMAX_PMAX n) → dt ≠ 0 → (t.dom n).rate =
        ((s.dom n).rate + (((2 ^ 80 / dt : Nat) : Int) - (s.dom n).rate) / (2 ^ s.gf (F.TBU_COORD_CFG_RGAIN n) : Nat)).toNat) ∧
      (t.dom n).corr = -e / ((2 ^ s.gf (F.TBU_COORD_CFG_PGAIN n) : Nat) : Int)) ∧
    (2 ^ 80 / 8 < e.natAbs → (s.dom n).rejects < 2 →
      (s.refTo (.mains rising) st n).dom n = { s.dom n with rejects := (s.dom n).rejects + 1 }))

/-- R133, R139. R129, R134, R136. -/
def Obligations.SnapshotsCapturesAndPulses : Prop :=
  (∀ (s : State), Runs s → s.tbu.snapAt = none → s.tbu.snapValid = none →
    Into .snap s { s.sf F.TBU_CTL_SNAP_VALID 0 with tbu := { s.tbu with snapAt := some (s.tick + 1) } }) ∧
  (∀ (s : State), Runs s → s.tbu.snapAt.isSome = true ∨ s.tbu.snapValid.isSome = true → Into .snap s s) ∧
  (∀ (s : State) (t : Nat), s.stopped = false → s.tbu.snapAt = some t → t ≤ s.tick →
    Does .snapCapture s (fun u =>
      u = { s with tbu := { s.tbu with snapAt := none, snapValid := some (s.tick + 3), snap := u.tbu.snap }, irq := u.irq } ∧
      (∀ n < 8, u.tbu.snap.getD n 0 = (stampParts n (s.dom n).val).1 + (stampParts n (s.dom n).val).2.1 * 2 ^ 64 +
        (stampParts n (s.dom n).val).2.2 * 2 ^ 96 + (s.domState n + s.era n * 2 ^ 16) * 2 ^ 128))) ∧
  (∀ (s : State) (t : Nat), s.stopped = false → s.tbu.snapValid = some t → t ≤ s.tick →
    Into .snapValid s (({ s with tbu := { s.tbu with snapValid := none } } : State).sfs
      [(F.TBU_CTL_SNAP_VALID, 1), (F.TBU_CTL_SNAP_TAG, s.gf F.TBU_CTL_SNAP_TAG + 1)])) ∧
  (∀ (s : State), s.stopped = false → s.tbu.snapAt = none → Into .snapCapture s s) ∧
  (∀ (s : State) (a : Action), s.stopped = false → RunsNext s a 10 →
    (s.tbu.snapAt = none → s.tbu.snapValid = none → Does .actionSnap s (fun u =>
      u = { (Took s a).sf F.TBU_CTL_SNAP_VALID 0 with
        tbu := { Taken s a with snapAt := none, snapValid := some (s.tick + 3), snap := u.tbu.snap }, irq := u.irq } ∧
      (∀ n < 8, u.tbu.snap.getD n 0 = (stampParts n (s.dom n).val).1 + (stampParts n (s.dom n).val).2.1 * 2 ^ 64 +
        (stampParts n (s.dom n).val).2.2 * 2 ^ 96 + (s.domState n + s.era n * 2 ^ 16) * 2 ^ 128))) ∧
    (s.tbu.snapAt.isSome = true ∨ s.tbu.snapValid.isSome = true → Into .actionSnap s (Took s a))) ∧
  (∀ (s : State) (i : Fin 8) (rising : Bool) (st : Nat), s.stopped = false → s.bf (F.TBU_CAP_CTL_EN i) = true → s.vioA = true →
    bit (s.gf (F.TBU_CAP_CTL_EDGE i)) (if rising then 0 else 1) = true → s.gf (F.TBU_CAP_CTL_FILT i) ≤ st →
    let tag := s.tbu.capTag.getD i 0
    let l := s.tbu.cap.getD i []
    let next := setAt s.tbu.capTag i ((tag + 1) % 256)
    let new : Capture := ⟨tag, BitVec.ofNat 256 (leNat (s.stampNow (s.gf (F.TBU_CAP_CTL_DOM i)) 3 i tag))⟩
    let u : State := { s with tbu := { s.tbu with capTag := next, cap := setAt s.tbu.cap i (l ++ [new]) } }
    (l.length < 16 → s.bf (F.TBU_CAP_CTL_QEN i) = false → Into (.captureEdge i ⟨rising, st⟩) s u) ∧
    (l.length < 16 → s.bf (F.TBU_CAP_CTL_QEN i) = true →
      Into (.captureEdge i ⟨rising, st⟩) s ((u.postEvent (s.gf (F.TBU_CAP_Q_QUEUE i)) (i * 256 + tag) 5).1.wake 4)) ∧
    (16 ≤ l.length → Into (.captureEdge i ⟨rising, st⟩) s
      ((({ s with tbu := { s.tbu with capTag := next } } : State).sf (F.TBU_CAP_STAT_OVF i) 1).incf (F.TBU_CAP_STAT_OVF_CNT i)))) ∧
  (∀ (s : State) (i : Fin 8) (rising : Bool) (st : Nat), s.stopped = false →
    s.bf (F.TBU_CAP_CTL_EN i) = false ∨ bit (s.gf (F.TBU_CAP_CTL_EDGE i)) (if rising then 0 else 1) = false ∨
      st < s.gf (F.TBU_CAP_CTL_FILT i) ∨ s.vioA = false → Into (.captureEdge i ⟨rising, st⟩) s s) ∧
  (∀ (s : State) (j : Fin 8) (v : BitVec 32), Runs s →
    let s1 := s.sfs [(F.TBU_TOUT_CTL_IDLE j, bits v.toNat 8 8), (F.TBU_TOUT_CTL_DOM j, bits v.toNat 6 4), (F.TBU_TOUT_CTL_MODE j, bits v.toNat 1 0)]
    (bits v.toNat 1 0 = 3 → Into (.toutConfig j .ctl v) s (s.sf (F.TBU_DOM_STAT_CFG_REJ (bits v.toNat 6 4)) 1)) ∧
    (bits v.toNat 1 0 = 1 → Into (.toutConfig j .ctl v) s { s1 with tbu := { s.tbu with train := setAt s.tbu.train j none } }) ∧
    (bits v.toNat 1 0 = 0 → Into (.toutConfig j .ctl v) s
      { s1 with tbu := { s.tbu with train := setAt s.tbu.train j none, tout := setAt s.tbu.tout j (bit v.toNat 8) } }) ∧
    (bits v.toNat 1 0 = 2 → ∃ b, Into (.toutConfig j .ctl v) s
      { s1 with tbu := { s.tbu with train := setAt s.tbu.train j (some b), tout := setAt s.tbu.tout j (bit v.toNat 8) } } ∧
      (0 < s.gf (F.TBU_TOUT_PER_PER j) → b % s.gf (F.TBU_TOUT_PER_PER j) = s.gf (F.TBU_TOUT_PHASE_PHASE j) % s.gf (F.TBU_TOUT_PER_PER j) ∧
      (s.dom (bits v.toNat 6 4)).val + max 16 (s.gf F.TBU_LEAD_LEAD) * (if bits v.toNat 6 4 < 4 then 4 * 2 ^ 32 else s.rateOf (bits v.toNat 6 4)) ≤
        b * wholeUnit (bits v.toNat 6 4))) ∧
    Into (.toutConfig j .phase v) s (s.sf (F.TBU_TOUT_PHASE_PHASE j) v.toNat) ∧
    (let d := s.gf (F.TBU_TOUT_CTL_DOM j)
     (v.toNat ≤ s.gf (F.TBU_TOUT_WID_WID j) ∨ v.toNat < s.fourTicks d → Into (.toutConfig j .per v) s (s.sf (F.TBU_DOM_STAT_CFG_REJ d) 1)) ∧
     (s.gf (F.TBU_TOUT_WID_WID j) < v.toNat → s.fourTicks d ≤ v.toNat → Into (.toutConfig j .per v) s (s.sf (F.TBU_TOUT_PER_PER j) v.toNat)) ∧
     (s.gf (F.TBU_TOUT_PER_PER j) ≤ v.toNat → Into (.toutConfig j .wid v) s (s.sf (F.TBU_DOM_STAT_CFG_REJ d) 1)) ∧
     (v.toNat < s.gf (F.TBU_TOUT_PER_PER j) → s.fourTicks d ≤ s.gf (F.TBU_TOUT_PER_PER j) →
       Into (.toutConfig j .wid v) s (s.sf (F.TBU_TOUT_WID_WID j) v.toNat)))) ∧
  (∀ (s : State) (j : Fin 8) (b : Nat), Runs s → s.tbu.train.getD j none = some b → s.gf (F.TBU_TOUT_CTL_MODE j) = 2 →
    let n := s.gf (F.TBU_TOUT_CTL_DOM j)
    let idle := s.bf (F.TBU_TOUT_CTL_IDLE j)
    let pos := (s.whole n - b) % s.gf (F.TBU_TOUT_PER_PER j)
    let out := fun v => Into (.toutTrainEdge j) s { s with tbu := { s.tbu with tout := setAt s.tbu.tout j v } }
    (s.domOk n = false ∨ s.whole n < b → out idle) ∧
    (s.domOk n = true → b ≤ s.whole n → 0 < s.gf (F.TBU_TOUT_PER_PER j) → out (if pos < s.gf (F.TBU_TOUT_WID_WID j) then !idle else idle)))

/-- R135. -/
def Obligations.CaptureFifosPop : Prop :=
  (∀ (s : State) (i : Fin 8) (c : Capture) (cs : List Capture) (tag : BitVec 8), Runs s → s.tbu.cap.getD i [] = c :: cs →
    (c.tag = tag.toNat → Into (.capturePop i tag) s { s with tbu := { s.tbu with cap := setAt s.tbu.cap i cs } }) ∧
    (c.tag ≠ tag.toNat → Into (.capturePop i tag) s s)) ∧
  (∀ (s : State) (i : Fin 8) (tag : BitVec 8), Runs s → s.tbu.cap.getD i [] = [] → Into (.capturePop i tag) s s) ∧
  (∀ (s : State) (i w : Fin 8), ctlTouch (R.TBU_CAP_HEAD i) s = s ∧ ctlTouch (R.TBU_CAP_W i w) s = s ∧
    (s.tbu.cap.getD i [] = [] → s.ctlValue (R.TBU_CAP_HEAD i) = 0 ∧ s.ctlValue (R.TBU_CAP_W i w) = 0) ∧
    (∀ c cs, s.tbu.cap.getD i [] = c :: cs → s.ctlValue (R.TBU_CAP_HEAD i) = 2 ^ 31 + c.tag % 256 ∧
      s.ctlValue (R.TBU_CAP_W i w) = c.stamp.toNat / 2 ^ (32 * w.val) % 2 ^ 32))

/-- R139, R140, R142, R446. -/
def Obligations.DueActionsRun : Prop :=
  (∀ (s : State) (a : Action), Runs s → s.toutMode a.pin = 1 →
    let out := fun v => { Took s a with tbu := { Taken s a with tout := setAt s.tbu.tout a.pin v } }
    (RunsNext s a 1 → Into .toutHigh s (out true)) ∧ (RunsNext s a 2 → Into .toutLow s (out false)) ∧
    (RunsNext s a 3 → Into .toutToggle s (out (!s.toutLevel a.pin))) ∧
    (RunsNext s a 4 → Into .toutPulse s { Took s a with tbu := { (out (!s.toutLevel a.pin)).tbu with
      pulses := s.tbu.pulses ++ [(s.tick + a.arg, a.pin, a.dom)] } })) ∧
  (∀ (s : State) (a : Action) (k : Nat) (c : Instr), (k, c) ∈ [(1, Instr.toutHigh), (2, .toutLow), (3, .toutToggle), (4, .toutPulse)] → Runs s →
    s.toutMode a.pin ≠ 1 → RunsNext s a k → Into c s (Lost1 (Took s a) a.dom)) ∧
  (∀ (s : State) (a : Action) (k : Nat) (c : Instr), (k, c) ∈ [(1, Instr.toutHigh), (2, .toutLow), (3, .toutToggle)] → s.stopped = false →
    s.safe = true → RunsNext s a k → Into c s (Took s a)) ∧
  (∀ (s : State) (j : Fin 8) (p : Nat × Nat × Nat) (l : List (Nat × Nat × Nat)), s.stopped = false →
    s.tbu.pulses.filter (fun p => p.2.1 == j.val && decide (p.1 ≤ s.tick)) = p :: l →
    let u : State := { s with tbu := { s.tbu with pulses := s.tbu.pulses.erase p } }
    let first := s.dueAct.isSome = true ∧ (s.tbu.ranTick = s.tick → s.tbu.ranCnt < 4)
    (first → Into (.pulseSecondInversion j) s s) ∧
    (¬ first → s.safe = true → Into (.pulseSecondInversion j) s u) ∧
    (¬ first → s.safe = false → s.toutMode j = 1 →
      Into (.pulseSecondInversion j) s { s with tbu := { u.tbu with tout := setAt s.tbu.tout j (!s.toutLevel j) } }) ∧
    (¬ first → s.safe = false → s.toutMode j ≠ 1 → Into (.pulseSecondInversion j) s (Lost1 u p.2.2))) ∧
  (∀ (s : State) (a : Action), s.stopped = false → RunsNext s a 8 →
    let u := Took s a
    let e := leBytes 6 a.arg ++ leBytes 2 a.thread ++ leBytes 8 (s.whole 0) ++ leBytes 2 (s.era 0) ++ List.replicate 14 0
    let wait := s.heldOff a.queue = true ∨ ∃ w ∈ s.qm.held, w.1 = a.queue
    (wait → Into .qsig s { u with qm := { s.qm with held := s.qm.held ++ [(a.queue, e, [F.TBU_DOM_STAT_ACT_DISCARD a.dom, F.TBU_ACT_CNT_DISC])] } }) ∧
    (¬ wait → (u.deliverNow a.queue e).2 = true → Into .qsig s (u.deliverNow a.queue e).1) ∧
    (¬ wait → (u.deliverNow a.queue e).2 = false → Into .qsig s (Lost1 (u.deliverNow a.queue e).1 a.dom))) ∧
  (∀ (s : State) (a : Action), s.stopped = false → RunsNext s a 9 →
    Into .regWr s (ctlWrite .tbu (a.arg / 4 % 2 ^ 24 * 4) (a.arg / 2 ^ 32 % 2 ^ 32) (Took s a))) ∧
  (∀ (s : State), s.stopped = false → ∀ c ∈ [Instr.toutHigh, .toutLow, .toutToggle, .toutPulse, .qsig, .regWr, .actionSnap],
    s.dueAct = none ∨ (s.tbu.ranTick = s.tick ∧ 4 ≤ s.tbu.ranCnt) → Into c s s) ∧
  (∀ (s : State), s.stopped = false →
    Does .tbuBlockReset s (fun t => t.tbu.acts = [] ∧ (5, s.tick + 250 * s.gf F.FCU_CFG_CASCADE_TAIL) ∈ t.fcu.tail ∧
      (∀ n < 4, n = 0 ∨ s.bf (F.TBU_DOM_CTL_EN n) = true →
        (t.dom n).val = 0 ∧ t.domState n = dACQUIRE ∧ t.era n = (s.era n + 1) % 2 ^ 16 ∧ (t.dom n).slew = 0 ∧ (t.dom n).step = none) ∧
      (∀ n < 8, 4 ≤ n → s.bf (F.TBU_DOM_CTL_EN n) = true → s.synthetic n = false → (t.dom n).val = 0 ∧ t.domState n = dUNLOCKED) ∧
      t.mem = s.mem ∧ t.host = s.host ∧ t.ecc = s.ecc ∧ t.qm = s.qm ∧ t.sax = s.sax ∧ t.ztt = s.ztt ∧ t.red = s.red ∧ t.yrd = s.yrd ∧ t.sec = s.sec ∧
      t.gctl = s.gctl ∧ t.outbox = s.outbox ∧ t.tick = s.tick ∧ t.brn.gpr = s.brn.gpr))

/-- R144, R147 to R149, R170, R171, R174, R447. Where the resume header stands in the auxiliary region is the model's choice (log 43). -/
def Obligations.LoftStartsAndStops : Prop :=
  (∀ (s : State), Runs s → s.bf F.LFT_STAT_RST_BUSY = false → s.bf F.LFT_CTL_EN = false → ∀ p ∈ [(0, Instr.loftFormat), (1, Instr.loftResume)],
    let u := s.sf F.LFT_CTL_RESUME p.1
    let v := LftIs (u.sf F.LFT_CTL_EN 1) { s.lft with enabled := true }
    (s.lftPlaceOk = false → Into p.2 s (u.sf F.LFT_STAT_CFG_REJ 1)) ∧
    (s.lftPlaceOk = true → s.lftShed = false → (p.1 = 0 ∨ s.lft.enabled = false) → Does p.2 s (Formatted v)) ∧
    (s.lftPlaceOk = true → s.lftShed = false → p.1 = 1 → s.lft.enabled = true →
      Into p.2 s (LftIs v { v.lft with work := 2, opn := none, next := none })) ∧
    (s.lftPlaceOk = true → s.lftShed = true →
      Into p.2 s (LftIs v { v.lft with redo := if p.1 = 1 ∧ s.lft.enabled = true then 2 else 1 }))) ∧
  (∀ (s : State), Runs s → s.bf F.LFT_STAT_RST_BUSY = true →
    Into .loftFormat s s ∧ Into .loftResume s s ∧ Into .loftDisable s s ∧ Into .lftBlockReset s s ∧ ∀ on, Into (.replica on) s s) ∧
  (∀ (s : State), s.stopped = false → s.lft.work = 1 → s.lftRuns = true → s.dramUp = true →
    Does .formatDone s (fun t => t.bf F.LFT_STAT_READY = true ∧ t.bf F.LFT_STAT_FORMATTING = false ∧ t.reg R.LFT_EPOCH_LO = 0 ∧
      t.lft = { s.lft with sealed := 0, work := 0, opn := if s.bf F.LFT_CTL_REPLICA then none else some 1,
                           headers := t.lft.headers, next := t.lft.next, ivl := t.lft.ivl } ∧
      t.header = some ⟨0, s.gf F.LFT_CFG_SIZE_LOG2, s.gf F.LFT_LOFT_BASE_BASE, s.gf F.LFT_AUX_BASE_BASE⟩ ∧ HeaderOnly s t ∧
      t = { s with regs := t.regs, mem := t.mem, ecc := t.ecc, lft := t.lft, free := s.free + 4, irq := t.irq })) ∧
  (∀ (s : State), s.stopped = false → s.lft.work ≠ 1 ∨ s.lftRuns = false ∨ s.dramUp = false → Into .formatDone s s) ∧
  (∀ (s : State), s.stopped = false → s.lft.work ≠ 2 ∨ s.lftRuns = false ∨ s.dramUp = false → Into .resumeDone s s) ∧
  (∀ (s : State), s.stopped = false → s.lft.work = 2 → s.lftRuns = true → s.dramUp = true → (∀ i < 4, s.eccOf (s.hdrAddr + 8 * i) = .ok) →
    (∀ top, s.header = some ⟨top, s.gf F.LFT_CFG_SIZE_LOG2, s.gf F.LFT_LOFT_BASE_BASE, s.gf F.LFT_AUX_BASE_BASE⟩ →
      Does .resumeDone s (fun t => t.bf F.LFT_STAT_READY = true ∧ t.bf F.LFT_STAT_RESUMED = true ∧ t.bf F.LFT_STAT_FORMATTING = false ∧
        t.lft = { s.lft with sealed := top, work := 0, closed := [], writes := [], repl := [], cuts := s.lft.cuts ++ [(s.loftRegion.1, top)],
                             opn := if s.bf F.LFT_CTL_REPLICA ∨ top = 2 ^ 40 - 2 then none else some (top + 1),
                             next := t.lft.next, ivl := t.lft.ivl } ∧
        (top = 2 ^ 40 - 2 → t.bf F.LFT_STAT_EXHAUSTED = true) ∧
        t = { s with regs := t.regs, lft := t.lft, fcu := t.fcu, irq := t.irq })) ∧
    ((∀ h, s.header = some h → h.size ≠ s.gf F.LFT_CFG_SIZE_LOG2 ∨ h.base ≠ s.gf F.LFT_LOFT_BASE_BASE) → s.lftPlaceOk = true →
      Does .resumeDone s (Formatted s))) ∧
  (∀ (s : State), s.stopped = false → s.lft.work = 2 → s.lftRuns = true → s.dramUp = true → s.eccOf s.hdrAddr = .ue →
    Does .resumeDone s (fun t => t.bf F.LFT_STAT_FORMATTING = true ∧ t.bf F.LFT_STAT_MEM_UE = true ∧ t.lft.work = 1)) ∧
  (∀ (s : State), Runs s → s.bf F.LFT_STAT_RST_BUSY = false →
    let none16 := List.replicate 16 (none : Option LPin)
    (s.bf F.LFT_CTL_EN = true → Does .loftDisable s (fun t => t.bf F.LFT_CTL_EN = false ∧ t.bf F.LFT_STAT_READY = false ∧
      t.bf F.LFT_STAT_FORMATTING = false ∧ (∀ c < 2, t.swpState c = 0) ∧ (∀ h < 16, t.bf (F.LFT_HVIEW_STAT_VALID h) = false) ∧
      t.lft = { s.lft with txns := [], pins := [], views := none16, held := [], writes := [], closed := [], opn := none, next := none,
                           extra := none, work := 0, redo := 0, repl := [], inbox := [], sweeps := t.lft.sweeps } ∧ t.header = s.header ∧
      t = { s with regs := t.regs, lft := t.lft, vox := t.vox, irq := t.irq })) ∧
    Does .lftBlockReset s (fun t => t.bf F.LFT_STAT_RST_BUSY = true ∧ t.bf F.LFT_CTL_EN = false ∧ t.bf F.LFT_CTL_LOCK = s.bf F.LFT_CTL_LOCK ∧
      t.fenced 0x20 = false ∧ 0x20 ∈ t.fcu.inReset ∧
      t.lft = { s.lft with txns := [], pins := [], views := none16, held := [], writes := [], closed := [], opn := none, next := none,
                           extra := none, work := 0, redo := 0, repl := [], inbox := [], sweeps := [], sealed := 0,
                           vep := List.replicate 16 0 } ∧ t.header = s.header ∧
      (∀ o, R.LFT_CFG ≤ o → o < R.LFT_EPOCH_LO → t.reg o = s.reg o) ∧ (∀ m < 1024, t.reg (R.LFT_MAP_CTL m) = s.reg (R.LFT_MAP_CTL m)) ∧
      t = { s with regs := t.regs, hiCap := t.hiCap, lft := t.lft, vox := t.vox, fcu := { s.fcu with inReset := t.fcu.inReset }, irq := t.irq }) ∧
    (s.bf F.LFT_STAT_READY = true → s.bf F.LFT_CTL_REPLICA = false → Into (.replica true) s (LftIs (s.sf F.LFT_CTL_REPLICA 1) { s.lft with
      opn := none, next := none, extra := none, writes := s.lft.writes.filter (fun w => s.lft.opn != some w.epoch),
      cuts := s.lft.cuts ++ (match s.lft.opn with | some o => [(s.loftRegion.1, o - 1)] | none => []) })) ∧
    (s.bf F.LFT_STAT_READY = true → s.bf F.LFT_CTL_REPLICA = true →
      (s.lft.sealed < 2 ^ 40 - 2 → Does (.replica false) s (fun t => t = { LftIs (s.sf F.LFT_CTL_REPLICA 0) { s.lft with
          opn := some (s.lft.sealed + 1), inbox := [], next := t.lft.next, ivl := s.gf F.LFT_SEAL_CFG_INTERVAL } with irq := t.irq } ∧
        ∃ v, t.lft.next = some v ∧ v % (s.gf F.LFT_SEAL_CFG_INTERVAL * 1000) = 0 ∧
          (s.dom 0).val + max 16 (s.gf F.TBU_LEAD_LEAD) * (4 * 2 ^ 32) ≤ v * 2 ^ 32)) ∧
      (2 ^ 40 - 2 ≤ s.lft.sealed → Into (.replica false) s (LftIs (s.sf F.LFT_CTL_REPLICA 0) { s.lft with inbox := [] }))) ∧
    (∀ on, s.bf F.LFT_STAT_READY = false → s.bf F.LFT_CTL_REPLICA = !on → Into (.replica on) s (s.sf F.LFT_CTL_REPLICA (b2n on))) ∧
    (∀ on, s.bf F.LFT_CTL_REPLICA = on → Into (.replica on) s s)) ∧
  (∀ (s : State), s.stopped = false →
    (s.bf F.LFT_STAT_RST_BUSY = true → Into .lftResetEnd s { s.sf F.LFT_STAT_RST_BUSY 0 with fcu := { s.fcu with
      inReset := s.fcu.inReset.filter (· != 0x20),
      tail := s.fcu.tail.filter (·.1 != 0x20) ++ [(0x20, s.tick + 250 * s.gf F.FCU_CFG_CASCADE_TAIL)] } }) ∧
    (s.bf F.LFT_STAT_RST_BUSY = false → Into .lftResetEnd s s))

/-- R153 to R155, R157, R158, R174, R272, R447. The slot that a write takes where one holds no committed value is log 42. -/
def Obligations.EpochsCloseAndSeal : Prop :=
  (∀ (s : State), Runs s →
    (s.bf F.LFT_STAT_RST_BUSY = false → s.lftShed = false → s.mayBound = true →
      Into .sealNow s (LftIs s { s.lft with extra := some (s.tick + 1) })) ∧
    (s.bf F.LFT_STAT_RST_BUSY = true ∨ s.lftShed = true ∨ s.mayBound = false → Into .sealNow s s)) ∧
  (∀ (s : State) (o v : Nat), s.stopped = false → s.mayBound = true → s.lft.opn = some o → s.lft.lastB ≠ some s.tick →
    (∃ x, s.lft.extra = some x ∧ x ≤ s.tick) ∨ (s.lft.next = some v ∧ v ≤ s.whole 0 ∧ s.lftShed = false) →
    Does .sealBoundary s (fun t => t.lft.lastB = some s.tick ∧ HeaderOnly s t ∧
      t.lft.opn = (if o = 2 ^ 40 - 2 then none else some (o + 1)) ∧ t.lft.writes = s.lft.writes ∧ t.lft.txns = s.lft.txns ∧
      t.lft.pins = s.lft.pins ∧
      (s.dramUp = false → t.lft.closed = s.lft.closed ++ [(o, s.tick)] ∧ t = { s with lft := t.lft, irq := t.irq }) ∧
      (s.dramUp = true → s.lft.closed = [] → (∀ w ∈ s.lft.writes, o < w.epoch) → t.lft.sealed = o ∧ t.lft.closed = []) ∧
      (s.dramUp = true → s.lft.closed = [] → (∃ w ∈ s.lft.writes, w.epoch ≤ o) → t.lft.sealed = s.lft.sealed ∧ t.lft.closed = [(o, s.tick)]) ∧
      t = { s with regs := t.regs, mem := t.mem, ecc := t.ecc, lft := t.lft, free := t.free, fcu := t.fcu, vox := t.vox, outbox := t.outbox,
                   irq := t.irq })) ∧
  (∀ (s : State), s.stopped = false → s.mayBound = false → Into .sealBoundary s s) ∧
  (∀ (s : State) (w : LWrite) (ws : List LWrite), s.stopped = false → s.lft.writes = w :: ws → w.epoch = s.lft.sealed + 1 →
    s.lftRuns = true → s.dramUp = true → s.dramIdle cLFT = true → (∀ i < 8, s.eccOf (s.slotAddr w.point 0 + 8 * i) = .ok) →
    let a := s.slotEpoch w.point 0
    let b := s.slotEpoch w.point 1
    let lost := s.slotLost w.point 0 = true ∨ s.slotLost w.point 1 = true
    let k := if s.slotLost w.point 0 then 0 else if s.slotLost w.point 1 then 1 else if a = w.epoch then 0 else if b = w.epoch then 1
      else if a ≤ b then 0 else 1
    Does .versionWrite s (fun t => t.lft.writes = ws ∧ t.rdN (s.slotAddr w.point k) 32 = w.ver.toNat ∧
      (∀ x, x < s.slotAddr w.point k ∨ s.slotAddr w.point k + 32 ≤ x → t.rd8 x = s.rd8 x) ∧ t.lft.sealed = s.lft.sealed ∧
      t.lft.opn = s.lft.opn ∧ t.lft.closed = s.lft.closed ∧
      (¬ lost → a ≠ w.epoch → b ≠ w.epoch → s.lft.held.length < 524288 → (∃ x ∈ s.livePins, min a b ≤ x.epoch ∧ x.epoch < max a b) →
        ⟨w.point, min a b, max a b - 1, s.slotVer w.point k, false⟩ ∈ t.lft.held) ∧
      (¬ lost → a ≠ w.epoch → b ≠ w.epoch → ∀ c < 2, s.swpState c = 2 → s.isSwept c w.point = false → min a b ≤ (s.sweep c).epoch →
        (s.sweep c).epoch < max a b → (s.sweep c).push.length < 131072 → (w.point, s.slotVer w.point k, false) ∈ (t.sweep c).push) ∧
      t.arb.req = setAt s.arb.req cLFT (s.arb.req.getD cLFT 0 + 2) ∧
      t = { s with regs := t.regs, mem := t.mem, ecc := t.ecc, lft := t.lft, arb := { s.arb with req := t.arb.req }, evr := t.evr, irq := t.irq })) ∧
  (∀ (s : State), s.stopped = false → s.lft.writes = [] ∨ s.lftRuns = false ∨ s.dramUp = false ∨ s.dramIdle cLFT = false →
    Into .versionWrite s s) ∧
  (∀ (s : State) (e t0 : Nat) (r : List (Nat × Nat)), s.stopped = false → s.lft.closed = (e, t0) :: r →
    ((∃ w ∈ s.lft.writes, w.epoch ≤ e) ∨ s.lftRuns = false ∨ s.dramUp = false → Into .epochSeal s s) ∧
    ((∀ w ∈ s.lft.writes, e < w.epoch) → s.lftRuns = true → s.dramUp = true →
      Does .epochSeal s (fun t => (∃ pre x, s.lft.closed = pre ++ x :: t.lft.closed ∧ t.lft.sealed = x.1 ∧
          (∀ y ∈ x :: pre, ∀ w ∈ s.lft.writes, y.1 < w.epoch) ∧ ∀ y ys, t.lft.closed = y :: ys → ∃ w ∈ s.lft.writes, w.epoch ≤ y.1) ∧
        HeaderOnly s t ∧ t.lft.opn = s.lft.opn ∧ t.lft.writes = s.lft.writes ∧
        t = { s with regs := t.regs, mem := t.mem, ecc := t.ecc, lft := t.lft, free := t.free, fcu := t.fcu, vox := t.vox, outbox := t.outbox,
                     irq := t.irq }))) ∧
  (∀ (s : State) (e : BitVec 40) (vs : List (Nat × BitVec 256)) (rs : Bool), s.stopped = false →
    (s.lftReady = false ∨ s.bf F.LFT_CTL_REPLICA = false ∨ 2 ^ 40 - 2 < e.toNat → Into (.replicaEpoch e ⟨vs, rs⟩) s s) ∧
    (s.lftReady = true → s.bf F.LFT_CTL_REPLICA = true → e.toNat ≤ 2 ^ 40 - 2 →
      (s.lftRuns = false ∨ s.dramUp = false ∨ s.dramIdle cLFT = false ∨ s.lft.closed ≠ [] →
        Into (.replicaEpoch e ⟨vs, rs⟩) s (LftIs s { s.lft with inbox := s.lft.inbox ++ [(e.toNat, vs, rs)] })) ∧
      (s.lftRuns = true → s.dramUp = true → s.dramIdle cLFT = true → s.lft.closed = [] → s.lft.inbox = [] →
        (rs = true ∨ s.lft.sealed < e.toNat → Does (.replicaEpoch e ⟨vs, rs⟩) s (fun t => t.lft.sealed = e.toNat ∧ t.lft.opn = s.lft.opn ∧
          t.lft.inbox = [] ∧ t.lft.closed = [] ∧ t.bf F.LFT_CTL_REPLICA = true ∧ t.host = s.host ∧ t.brn = s.brn ∧ t.yrd = s.yrd ∧ t.tbu = s.tbu ∧
          (vs = [] → e.toNat < s.lft.sealed → ∀ p ∈ t.lft.pins, e.toNat < p.epoch → s.tick < p.expiry → p.broken = true))) ∧
        (rs = false → e.toNat ≤ s.lft.sealed → Into (.replicaEpoch e ⟨vs, rs⟩) s (LftIs s { s.lft with inbox := [] })))))

/-- R160 to R165, R169, R175. -/
def Obligations.PinsViewsAndTheMap : Prop :=
  (∀ (s : State) (h : Fin 16), Runs s → s.bf F.LFT_STAT_RST_BUSY = false →
    let held := s.lft.held.filter (fun x => (LftIs s { s.lft with views := setAt s.lft.views h none }).livePins.any
      (fun p => decide (x.lo ≤ p.epoch) && decide (p.epoch ≤ x.hi)))
    let off := LftIs (s.sf (F.LFT_HVIEW_STAT_VALID h) 0) { s.lft with views := setAt s.lft.views h none, held := held }
    let x : LPin := ⟨h, 0, s.lft.sealed, s.tick + 250 * max 1 (min 50000 (s.gf F.LFT_LEASE_LEASE)), false⟩
    (s.pinRefused = false → s.fenced 0x20 = false → Does (.pin h) s (fun t =>
      t.lft = { s.lft with held := held, vep := setAt s.lft.vep h s.lft.sealed, views := setAt s.lft.views h (some x) } ∧
      t.bf (F.LFT_HVIEW_STAT_VALID h) = true ∧ t.gf (F.LFT_HVIEW_STAT_TAG h) = (s.gf (F.LFT_HVIEW_STAT_TAG h) + 1) % 256 ∧
      t.reg (R.LFT_HVIEW_EPOCH_LO h) = s.lft.sealed % 2 ^ 32 ∧
      (∀ o, o ≠ R.LFT_HVIEW_STAT h → o ≠ R.LFT_HVIEW_EPOCH_LO h → t.reg o = s.reg o) ∧
      t = { s with regs := t.regs, lft := t.lft, irq := t.irq })) ∧
    (s.pinRefused = true ∨ s.fenced 0x20 = true → Into (.pin h) s (off.sf F.LFT_STAT_CFG_REJ 1)) ∧ Into (.unpin h) s off) ∧
  (∀ (s : State) (h : Fin 16), Runs s → s.bf F.LFT_STAT_RST_BUSY = true → Into (.pin h) s s ∧ Into (.unpin h) s s) ∧
  (∀ (s : State) (off : BitVec 24) (n : Fin 257), s.stopped = false →
    let h := off.toNat / 2 ^ 20 % 16
    Does (.viewRead off n) s (fun t => ∃ l, t.outbox = s.outbox ++ [⟨.hostRead, 1, l⟩] ∧ l.length = n.val ∧ t.mem = s.mem ∧ t.lft = s.lft ∧
      t.host = s.host ∧ t.ecc = s.ecc ∧ t.brn = s.brn ∧ t.qm = s.qm ∧ t.yrd = s.yrd ∧ t.tbu = s.tbu ∧ t.tick = s.tick ∧
      (s.lft.views.getD h none = none → l = List.replicate n 0xFF) ∧
      (∀ (x : LPin) (s2 : State) (v : BitVec 256), s.lft.views.getD h none = some x → s.pinLive x = true → s.fenced 0x20 = false →
        s.bf F.LFT_STAT_RST_BUSY = false → 1 ≤ n.val → off.toNat % 32 + n ≤ 32 →
        s.gf (F.LFT_HVIEW_BASE_BASE h) * 32768 + off.toNat % 2 ^ 20 / 32 < s.points →
        (s.wake 3).readVer (s.gf (F.LFT_HVIEW_BASE_BASE h) * 32768 + off.toNat % 2 ^ 20 / 32) x.epoch = (s2, .ok v) →
        l = sliceB (leBytes 32 v.toNat) (off.toNat % 32) n))) ∧
  (∀ (s : State), s.stopped = false → Into .leaseExpire s
    (LftIs s { s.lft with held := s.lft.held.filter (fun h => s.livePins.any (fun p => decide (h.lo ≤ p.epoch) && decide (p.epoch ≤ h.hi))) })) ∧
  (∀ (s : State) (m : Fin 1024) (pad : Bool) (v : BitVec 32), Runs s →
    (s.bf F.LFT_STAT_RST_BUSY = true → Into (.mapWrite m pad v) s s) ∧
    (s.bf F.LFT_STAT_RST_BUSY = false → Does (.mapWrite m pad v) s (fun t =>
      t.gf (F.LFT_MAP_CTL_WR m) = (if pad then s.gf (F.LFT_MAP_CTL_WR m) else v.toNat % 2) ∧
      t.gf (F.LFT_MAP_CTL_REPL m) = (if pad then s.gf (F.LFT_MAP_CTL_REPL m) else v.toNat / 2 % 2) ∧
      t.gf (F.LFT_MAP_CTL_SWEEP m) = (if pad then s.gf (F.LFT_MAP_CTL_SWEEP m) else v.toNat / 4 % 2) ∧
      t.reg (R.LFT_MAP_PAD m) = (if pad then v.toNat else s.reg (R.LFT_MAP_PAD m)) ∧
      t.gf (F.LFT_MAP_CTL_VER m) = (s.gf (F.LFT_MAP_CTL_VER m) + 1) % 256 ∧ t.gf F.LFT_MAP_STAT_GEN = (s.gf F.LFT_MAP_STAT_GEN + 1) % 2 ^ 16 ∧
      (t.bf F.LFT_MAP_STAT_SETTLED = true ↔ (∀ x ∈ s.lft.txns, ∀ p ∈ x.puts, s.lft.mapSeq < p.gen) ∧
        ∀ c < 2, s.swpState c = 0 ∨ s.lft.mapSeq < (s.sweep c).gen) ∧
      (∀ o, o ≠ R.LFT_MAP_CTL m → o ≠ R.LFT_MAP_PAD m → o ≠ R.LFT_MAP_STAT → t.reg o = s.reg o) ∧
      t = { s with regs := t.regs, lft := { s.lft with mapSeq := s.lft.mapSeq + 1 }, irq := t.irq })))

/-- R166 to R168, R175, R273. A re-synchronisation sweep goes to the partner and not to a queue. -/
def Obligations.SweepsRunAndEnd : Prop :=
  (∀ (s : State) (c : Fin 2), Runs s →
    let rs := s.gf (F.LFT_SWP_Q_QUEUE c) == s.gf F.VOX_Q_CFG_RSYNC_Q && s.gf F.RED_ROLE_ROLE == 2 && s.bf F.RED_TWIN_CFG_TWIN_EN
    let u := SweepIs (s.sfs [(F.LFT_SWP_STAT_VALID c, 0), (F.LFT_SWP_STAT_STATE c, 1), (F.LFT_SWP_PUSHED_COUNT c, 0),
      (F.LFT_SWP_EMITTED_COUNT c, 0)]) c { Sweep.init with gen := s.lft.mapSeq, rsync := rs }
    (s.bf F.LFT_STAT_RST_BUSY = true → Into (.start c) s s ∧ Into (.abort c) s s) ∧
    (s.bf F.LFT_STAT_RST_BUSY = false → s.swpState c = 0 → s.lftReady = true → s.lftShed = false →
      s.wideQueue (s.gf (F.LFT_SWP_Q_QUEUE c)) = true →
      Into (.start c) s (if rs then u.sfs [(F.VOX_REPL_STAT_RSYNC, 1), (F.VOX_REPL_STAT_BROKEN, 0)] else u)) ∧
    (s.bf F.LFT_STAT_RST_BUSY = false →
      s.swpState c ≠ 0 ∨ s.lftReady = false ∨ s.lftShed = true ∨ s.wideQueue (s.gf (F.LFT_SWP_Q_QUEUE c)) = false →
      Into (.start c) s (s.sf F.LFT_STAT_CFG_REJ 1)) ∧
    (s.bf F.LFT_STAT_RST_BUSY = false → s.swpState c = 1 ∨ s.swpState c = 2 →
      Into (.abort c) s (SweepIs (s.sfs [(F.LFT_SWP_STAT_STATE c, 3), (F.LFT_SWP_STAT_RESULT c, 1)]) c { s.sweep c with push := [] })) ∧
    (s.swpState c = 0 ∨ s.swpState c = 3 → Into (.abort c) s s)) ∧
  (∀ (s : State) (c : Fin 2), s.stopped = false →
    (s.lftRuns = true → s.swpState c = 1 → Does (.sweepClearDone c) s (fun t =>
      t.sweep c = { s.sweep c with epoch := s.lft.sealed, skip := (List.range 1024).filter (fun m => !s.bf (F.LFT_MAP_CTL_SWEEP m)) } ∧
      t.swpState c = 2 ∧ t.gf (F.LFT_SWP_CURSOR_CURSOR c) = 0 ∧ t.gf (F.LFT_SWP_EPOCH_LO_EPOCH c) = s.lft.sealed % 2 ^ 32 ∧
      (∀ o, o ≠ R.LFT_SWP_STAT c → o ≠ R.LFT_SWP_CURSOR c → o ≠ R.LFT_SWP_EPOCH_LO c → o ≠ R.VOX_REPL_STAT → t.reg o = s.reg o) ∧
      t.vox.replBuf = (if (s.sweep c).rsync then s.vox.replBuf.filter (fun r => s.lft.sealed < r.epoch) else s.vox.replBuf) ∧
      t = { s with regs := t.regs, lft := { s.lft with sweeps := t.lft.sweeps }, vox := { s.vox with replBuf := t.vox.replBuf }, irq := t.irq })) ∧
    (s.lftRuns = false ∨ s.swpState c ≠ 1 → Into (.sweepClearDone c) s s)) ∧
  (∀ (s : State) (c : Fin 2), s.stopped = false → s.lftRuns = true → s.dramUp = true → s.dramIdle cLFT = true → s.swpState c = 2 →
    SweepRoom s c →
    (∀ p v e rest, (s.sweep c).push = (p, v, e) :: rest →
      let d := SweepOut s c (s.sweepEntry c p (if e then 0 else v) (if e then 3 else 1) 0)
      Into (.sweepEmit c) s ((SweepIs d c { s.sweep c with push := rest }).incf (F.LFT_SWP_EMITTED_COUNT c))) ∧
    ((s.sweep c).push = [] →
      let cur := s.gf (F.LFT_SWP_CURSOR_CURSOR c)
      let p := s.nextPoint c cur (s.points - cur)
      let q := (s.dramAsk cLFT 1).readVer p (s.sweep c).epoch
      (s.points ≤ p → Into (.sweepEmit c) s (s.sf (F.LFT_SWP_CURSOR_CURSOR c) s.points)) ∧
      (p < s.points → ∀ v f, (q.2 = .ok v ∧ f = 0) ∨ ((∀ x, q.2 ≠ .ok x) ∧ v = 0 ∧ f = 2) →
        Into (.sweepEmit c) s (((SweepOut q.1 c (q.1.sweepEntry c p v f 0)).sf (F.LFT_SWP_CURSOR_CURSOR c) (p + 1)).incf
          (F.LFT_SWP_EMITTED_COUNT c))))) ∧
  (∀ (s : State) (c n p : Nat), p ≤ s.nextPoint c p n ∧ s.nextPoint c p n ≤ p + n ∧
    (∀ i, p ≤ i → i < s.nextPoint c p n → s.isSwept c i = true) ∧
    (s.nextPoint c p n < p + n → s.isSwept c (s.nextPoint c p n) = false)) ∧
  (∀ (s : State) (c : Fin 2), s.stopped = false → s.lftRuns = false ∨ s.dramUp = false ∨ s.dramIdle cLFT = false ∨ s.swpState c ≠ 2 ∨ ¬ SweepRoom s c →
    Into (.sweepEmit c) s s) ∧
  (∀ (s : State) (c : Fin 2) (r : Nat), s.stopped = false → s.lftRuns = true →
    let done := s.swpState c = 2 ∧ (s.sweep c).push = [] ∧ s.points ≤ s.gf (F.LFT_SWP_CURSOR_CURSOR c)
    let u := SweepIs (s.sfs [(F.LFT_SWP_STAT_STATE c, 3), (F.LFT_SWP_STAT_RESULT c, 0)]) c { s.sweep c with push := [] }
    let d := SweepOut s c (s.sweepEntry c 0 0 4 r)
    (done → ¬ SweepRoom s c → Into (.sweepEnd c) s u) ∧ (s.swpState c = 3 → ¬ SweepRoom s c → Into (.sweepEnd c) s s) ∧
    (SweepRoom s c → (done ∧ r = 0) ∨ (s.swpState c = 3 ∧ r = s.gf (F.LFT_SWP_STAT_RESULT c)) →
      Does (.sweepEnd c) s (fun t => t.swpState c = 0 ∧ t.bf (F.LFT_SWP_STAT_VALID c) = true ∧ t.gf (F.LFT_SWP_STAT_RESULT c) = r ∧
        t.gf (F.LFT_SWP_STAT_TAG c) = (s.gf (F.LFT_SWP_STAT_TAG c) + 1) % 256 ∧ t.sweep c = { Sweep.init with epoch := (s.sweep c).epoch } ∧
        t.mem = d.mem ∧ t.host = d.host ∧ t.qm = d.qm ∧ t.lft = { s.lft with sweeps := t.lft.sweeps } ∧ t.yrd = s.yrd ∧ t.brn = s.brn ∧
        ((s.sweep c).rsync = false → t.vox = s.vox ∧ t.outbox = s.outbox))))

/-- R176 to R180, R182, R201, R203. -/
def Obligations.PortsAndLinks : Prop :=
  (∀ (s : State) (p : Fin 8) (v : BitVec 32), Runs s →
    let m := bits v.toNat 2 0
    let sup := m = 0 ∨ (p.val < 2 ∧ 1 ≤ m ∧ m ≤ 4) ∨ (2 ≤ p.val ∧ p.val < 6 ∧ (m = 3 ∨ m = 4)) ∨ (6 ≤ p.val ∧ 5 ≤ m)
    let shed := p.val < 2 → bits v.toNat 6 4 = 2 ∨ bits v.toNat 6 4 = 3
    (s.bf F.ETH_GCTL_LOCK = true → Into (.ethModeWrite p v) s s) ∧
    (s.bf F.ETH_GCTL_LOCK = false → s.bf (F.ETH_CTL_EN p) = true ∨ ¬ sup ∨ ¬ shed →
      Into (.ethModeWrite p v) s (s.sf (F.ETH_STAT_CFG_REJ p) 1)) ∧
    (s.bf F.ETH_GCTL_LOCK = false → s.bf (F.ETH_CTL_EN p) = false → sup → shed →
      Into (.ethModeWrite p v) s (PortIs (s.setReg (R.ETH_MODE p) (v.toNat &&& (if p.val < 2 then 0x177 else if p.val < 6 then 0x107 else 0xF07)))
        p { s.port p with degraded := false }))) ∧
  (∀ (s : State) (p : Fin 8) (v : BitVec 32), Runs s →
    (bit v.toNat 0 = true → s.gf (F.ETH_MODE_MODE p) = 0 → Into (.portEnable p v) s (s.sf (F.ETH_STAT_CFG_REJ p) 1)) ∧
    (bit v.toNat 0 = false ∨ s.gf (F.ETH_MODE_MODE p) ≠ 0 →
      let u := s.setReg (R.ETH_CTL p) (v.toNat &&& (if p.val < 2 then 0x367 else 0x3E7))
      let w := (if s.bf (F.ETH_CTL_EN p) = false ∧ bit v.toNat 0 = true then PortIs u p { s.port p with degraded := false } else u).linkEval p
      let x := if s.gf (F.ETH_CTL_SVC p) = 0 ∧ bits v.toNat 9 8 ≠ 0 ∧ w.ethLink p = false then w.flushOut p else w
      let y := if bit v.toNat 4 then cntClr p x else x
      Into (.portEnable p v) s (if bit v.toNat 3 then portReset p y else y)) ∧
    (bit v.toNat 0 = false → Does (.portEnable p v) s (fun t => t.bf (F.ETH_CTL_EN p) = false ∧ t.ethLink p = false ∧ t.gf (F.ETH_STAT_ACT_MODE p) = 0 ∧
      t.mem = s.mem ∧ t.tbu = s.tbu ∧ t.brn = s.brn))) ∧
  (∀ (s : State) (p : Fin 8) (c : LinkCond) (k : Fin 8 → LinkCond → Instr), Runs s → k = .linkUp ∨ k = .linkDown →
    let m := s.modeNow p
    (m = 0 → Into (k p c) s s) ∧
    (m ≠ 0 → m ≠ s.gf (F.ETH_STAT_ACT_MODE p) → Does (k p c) s (fun t => NetFrame s t ∧ t.gf (F.ETH_STAT_ACT_MODE p) = m ∧
      (t.port p).cond = LinkCond.init ∧ t.bf (F.ETH_STAT_PCS_LOCK p) = false)) ∧
    (m ≠ 0 → m = s.gf (F.ETH_STAT_ACT_MODE p) → ∀ w : Bool, (w = true ↔ WrongSpeed s p m c) →
      (LinkMeets s p m c → s.ethLink p = false →
        Into (k p c) s (((Reported s p c w).sfs [(F.ETH_STAT_LINK p, 1), (F.ETH_INT_STAT_LINK_CHG p, 1)]).verInit p)) ∧
      ((LinkMeets s p m c ↔ s.ethLink p = true) → Into (k p c) s (Reported s p c w)) ∧
      (¬ LinkMeets s p m c → s.ethLink p = true → Does (k p c) s (fun t => NetFrame s t ∧ t.ethLink p = false ∧
        t.bf (F.ETH_INT_STAT_LINK_CHG p) = true ∧ (t.port p).cond = c ∧ (t.port p).sel = none ∧ (t.port p).tx = none ∧ (t.port p).cut = none ∧
        (t.port p).ctl = [] ∧ (t.port p).rx = none ∧ (t.port p).pause = none ∧ (t.port p).pfc = List.replicate 8 none ∧ (t.port p).verEnd = none ∧
        t.ethCnt p 30 = (s.ethCnt p 30 + 1) % 2 ^ 40 ∧
        t.ethCnt p 45 = (s.ethCnt p 45 + b2n (s.port p).tx.isSome + b2n (s.port p).cut.isSome) % 2 ^ 40 ∧
        t.ethCnt p 22 = (s.ethCnt p 22 + b2n (s.port p).rx.isSome) % 2 ^ 40 ∧
        (s.gf (F.ETH_CTL_SVC p) ≠ 0 → ∀ x ∈ t.yrd.toks, x.out ≠ p) ∧
        (s.gf (F.ETH_CTL_SVC p) = 0 → t.yrd.toks = (s.port p).sel.toList ++ s.yrd.toks))))) ∧
  (∀ (s : State) (p : Fin 8), Runs s →
    Does (.cntClr p) s (fun t => (∀ c < 49, t.ethCnt p c = 0 ∧ t.hiCap.get (fun _ => 0) (R.ETH_CNT_HI p c) = 0) ∧
      t.port p = { s.port p with cnt := [] } ∧ (∀ q, q ≠ p.val → t.port q = s.port q) ∧
      (∀ o, t.reg o = if o = R.ETH_HALF_STAT p 0 ∨ o = R.ETH_HALF_STAT p 1 then 0 else s.reg o) ∧
      t = { s with regs := t.regs, eth := t.eth, hiCap := t.hiCap, irq := t.irq })) ∧
  (∀ (s : State) (p : Fin 8), Runs s →
    Does (.portReset p) s (fun t => NetFrame s t ∧ (t.port p).tsq = [] ∧ (t.port p).pause = none ∧ (t.port p).pfc = List.replicate 8 none ∧
      (t.port p).rx = none ∧ (t.port p).verEnd = none ∧ (t.port p).cond = LinkCond.init ∧ t.bf (F.ETH_STAT_PCS_LOCK p) = false ∧
      (s.ethLink p = true → (t.port p).sel = none ∧ (t.port p).tx = none ∧ (t.port p).cut = none) ∧
      t.fenced (0x10 + p) = false ∧ t.fcu.inReset = s.fcu.inReset.filter (· != 0x10 + p.val) ∧
      (∀ o, o = R.ETH_CTL p ∨ o = R.ETH_MODE p ∨ o = R.ETH_MAXLEN p ∨ o = R.ETH_FC_CFG p ∨ o = R.ETH_PRE_CFG p → t.reg o = s.reg o)))

/-- R181, R188 to R191, R198, R200. -/
def Obligations.HoldsAndVerification : Prop :=
  (∀ (s : State) (p : Fin 8) (o : PauseOp), s.stopped = false →
    let s1 := s.ethAdd p 23 64
    let on (m : Nat) : Prop := s.bf (F.ETH_FC_CFG_RX_EN p) = true ∧ s.gf (F.ETH_FC_CFG_FC_MODE p) = m
    (s.bf (F.ETH_CTL_EN p) = false → Into (.pauseReceived p o) s s) ∧
    (s.bf (F.ETH_CTL_EN p) = true → s.receives p = false ∨ s.yrdFenced = true → Into (.pauseReceived p o) s (s1.ethInc p 22)) ∧
    (s.bf (F.ETH_CTL_EN p) = true → s.receives p = true → s.yrdFenced = false →
      (o = .other → Into (.pauseReceived p o) s (s1.ethInc p 15)) ∧
      (∀ q, o = .pause q → ¬ on 1 → Into (.pauseReceived p o) s (s1.ethInc p 13)) ∧
      (∀ m q, o = .pfc m q → ¬ on 2 → Into (.pauseReceived p o) s (s1.ethInc p 14)) ∧
      (∀ q, o = .pause q → on 1 → Does (.pauseReceived p o) s (fun t => PortFrame s t p ∧ HeldTime s t p ∧
        (t.port p).pause = Timer s p q.toNat ∧ (t.port p).pfc = (s.port p).pfc ∧
        t.ethCnt p 13 = (s.ethCnt p 13 + 1) % 2 ^ 40 ∧ t.ethCnt p 23 = (s.ethCnt p 23 + 64) % 2 ^ 40)) ∧
      (∀ m q, o = .pfc m q → on 2 → Does (.pauseReceived p o) s (fun t => PortFrame s t p ∧ HeldTime s t p ∧
        (t.port p).pause = (s.port p).pause ∧
        (∀ i < 8, (t.port p).pfc.getD i none = if bit m.toNat i then Timer s p (q.getD i 0).toNat else (s.port p).pfc.getD i none) ∧
        t.ethCnt p 14 = (s.ethCnt p 14 + 1) % 2 ^ 40 ∧ t.ethCnt p 23 = (s.ethCnt p 23 + 64) % 2 ^ 40)))) ∧
  (∀ (s : State) (p : Fin 8), s.stopped = false → Does (.pauseExpire p) s (fun t => PortFrame s t p ∧ HeldTime s t p ∧
    (t.port p).pause = Running s (s.port p).pause ∧ ∀ i, (t.port p).pfc.getD i none = Running s ((s.port p).pfc.getD i none))) ∧
  (∀ (s : State) (p : Fin 8), s.stopped = false →
    let d := s.gf (F.ETH_FC_CFG_PAUSE_TIME p) * s.lineTime p 64 / 80
    let q := s.gf (F.ETH_FC_CFG_PAUSE_TIME p)
    (s.gf (F.ETH_FC_CFG_FC_MODE p) ≠ 1 → s.gf (F.ETH_FC_CFG_FC_MODE p) ≠ 2 → Into (.pauseRefresh p) s s) ∧
    (s.gf (F.ETH_FC_CFG_FC_MODE p) = 1 →
      (s.bf (F.ETH_FC_STAT_TX_XOFF p) = false ∨ s.tick < (s.port p).xoff + d → Into (.pauseRefresh p) s s) ∧
      (s.bf (F.ETH_FC_STAT_TX_XOFF p) = true → (s.port p).xoff + d ≤ s.tick → Does (.pauseRefresh p) s (fun t =>
        (t.port p).xoff = s.tick ∧ ControlOut s t p 36 1 (s.macControl p 1 (beBytes 2 q)) ∧
        t = { s with regs := t.regs, eth := t.eth, outbox := t.outbox, irq := t.irq }))) ∧
    (s.gf (F.ETH_FC_CFG_FC_MODE p) = 2 → ∀ ch < 256,
      (∀ i < 8, bit ch i = true ↔ bit (s.gf (F.ETH_FC_STAT_PFC_TX_XOFF p)) i = true ∧ (s.port p).xoffP.getD i 0 + d ≤ s.tick) →
      (ch = 0 → Into (.pauseRefresh p) s s) ∧
      (ch ≠ 0 → Does (.pauseRefresh p) s (fun t =>
        (∀ i < 8, (t.port p).xoffP.getD i 0 = if bit ch i then s.tick else (s.port p).xoffP.getD i 0) ∧
        ControlOut s t p 37 0x101 (s.macControl p 0x101 (pfcPayload ch (fun _ => q))) ∧
        t = { s with regs := t.regs, eth := t.eth, outbox := t.outbox, irq := t.irq })))) ∧
  (∀ (s : State) (p : Fin 8), s.stopped = false →
    let busy := s.gf (F.ETH_PRE_STAT_VSTATE p) = 2
    let n := s.gf (F.ETH_PRE_STAT_ATTEMPTS p)
    let sent := fun t : State => OnWire s t p .ethVerify [] [] ∧ t.ethCnt p 40 = (s.ethCnt p 40 + 1) % 2 ^ 40 ∧
      (t.port p).verEnd = some (s.tick + 250000 * max 1 (min 128 (s.gf (F.ETH_PRE_CFG_VERIFY_TIME p)))) ∧
      t.gf (F.ETH_PRE_STAT_ATTEMPTS p) = (n + 1) % 4 ∧ t.gf (F.ETH_PRE_STAT_VSTATE p) = 2 ∧
      t = { s with regs := t.regs, eth := t.eth, outbox := t.outbox, irq := t.irq }
    (busy → (s.port p).verEnd = none → s.canSend p = true → Does (.verifySend p) s sent) ∧
    (¬ busy ∨ (s.port p).verEnd ≠ none ∨ s.canSend p = false → Into (.verifySend p) s s) ∧
    ((s.port p).verEnd = none → Into (.verifyTimeout p) s s) ∧
    (∀ e, (s.port p).verEnd = some e →
      (¬ busy ∨ s.tick < e → Into (.verifyTimeout p) s s) ∧
      (busy → e ≤ s.tick → n < 3 → (s.canSend p = true → Does (.verifyTimeout p) s sent) ∧ (s.canSend p = false → Into (.verifyTimeout p) s s)) ∧
      (busy → e ≤ s.tick → 3 ≤ n → Into (.verifyTimeout p) s ((PortIs s p { s.port p with verEnd := none }).sfs
        [(F.ETH_PRE_STAT_VSTATE p, 4), (F.ETH_INT_STAT_VERIFY_FAIL p, 1)]))) ∧
    (s.receives p = false → Into (.verifyReceived p) s s ∧ Into (.responseReceived p) s s) ∧
    (s.receives p = true →
      let u := s.ethInc p 28
      let v := s.ethInc p 29
      let a := if s.looped p = true then PortIs u p { u.port p with loop := (u.port p).loop ++ [⟨.ethRespond, .whole, [], false, s.timeNow⟩] }
        else u.emit .ethRespond p []
      (s.bf (F.ETH_PRE_CFG_PRE_EN p) = true → Into (.verifyReceived p) s (a.ethInc p 41)) ∧
      (s.bf (F.ETH_PRE_CFG_PRE_EN p) = false → Into (.verifyReceived p) s u) ∧
      (busy → Into (.responseReceived p) s ((PortIs v p { v.port p with verEnd := none }).sfs
        [(F.ETH_PRE_STAT_VSTATE p, 3), (F.ETH_PRE_STAT_ACTIVE p, 1)])) ∧
      (¬ busy → Into (.responseReceived p) s v))) ∧
  (∀ (s : State) (p : Fin 8), s.stopped = false →
    let h := 250000 * s.gf (F.ETH_TSQ_CFG_HOLD_MS p)
    let old := fun e : TsEnt => e.st ≠ 0 ∧ e.since + h ≤ s.tick
    (h ≠ 0 → (∃ e ∈ (s.port p).tsq, old e) → Does (.tsqExpire p) s (fun t => PortFrame s t p ∧
      (t.port p).tsq = (s.port p).tsq.filter (fun e => decide (¬ old e)) ∧ t.bf (F.ETH_INT_STAT_TSQ_EXPIRE p) = true ∧
      t.ethCnt p 47 = (s.ethCnt p 47 + ((s.port p).tsq.filter (fun e => decide (old e))).length) % 2 ^ 40)) ∧
    (h = 0 ∨ (∀ e ∈ (s.port p).tsq, ¬ old e) → Into (.tsqExpire p) s s))

/-- R183, R184, R186, R187, R192 to R195, R206, R221, R230, R231, R242, R245. -/
def Obligations.FramesInAndOut : Prop :=
  (∀ (s : State) (o : RxOp), s.stopped = false → s.bf (F.ETH_CTL_EN o.port) = false → Into (.receiveFrame o) s s) ∧
  (∀ (s : State) (o : RxOp), s.stopped = false → s.bf (F.ETH_CTL_EN o.port) = true →
    let p := o.port.val
    let u := s.ethAdd p 23 (o.data.length + 4)
    let st := u.rxStamp p o.ago
    (s.receives p = false ∨ s.yrdFenced = true →
      (o.kind = .whole ∨ o.kind = .unknown → Into (.receiveFrame o) s (u.ethInc p 22)) ∧
      (∀ fin, o.kind = .start fin → Into (.receiveFrame o) s ((GaveUp u p).ethInc p 22)) ∧
      (∀ c fin, o.kind = .cont c fin → ((s.port p).rx = none → Into (.receiveFrame o) s u) ∧
        (∀ a, (s.port p).rx = some a → Into (.receiveFrame o) s (((RxIs u p none).ethInc p 22).dropCells a.h)))) ∧
    (s.receives p = true → s.yrdFenced = false →
      (o.kind = .whole → Does (.receiveFrame o) s (fun t => ∃ v, Arrives u p o.data o.badFcs o.symErr st v ∧ t = v.irqSync)) ∧
      (o.kind = .unknown → Into (.receiveFrame o) s (u.ethInc p 27)) ∧
      (o.kind = .start true → o.badFcs = true → Into (.receiveFrame o) s ((GaveUp u p).ethInc p 26)) ∧
      (o.kind = .start true → o.badFcs = false →
        Does (.receiveFrame o) s (fun t => ∃ v, Arrives (GaveUp u p) p o.data false o.symErr st v ∧ t = v.irqSync)) ∧
      (o.kind = .start false →
        let g := GaveUp u p
        (Refused g (g.rxProto p o.data st false) → Into (.receiveFrame o) s (RxIs (g.ethInc p 21) p (some ⟨none, o.data, 0, st, o.symErr, none⟩))) ∧
        (∀ x h, Yarded g p (g.rxProto p o.data st false) x h →
          Into (.receiveFrame o) s (Assembling x p ⟨some h, o.data, 0, st, o.symErr, none⟩))) ∧
      (∀ (c : Fin 4) (fin : Bool), o.kind = .cont c fin →
        let w := u.ethInc p 24
        ((s.port p).rx = none → Into (.receiveFrame o) s (w.ethInc p 26)) ∧
        (∀ a, (s.port p).rx = some a →
          let b : Assy := { a with data := a.data ++ o.data, next := (a.next + 1) % 4, bad := a.bad || o.symErr }
          (a.next ≠ c.val ∨ (fin = true ∧ o.badFcs = true) → Into (.receiveFrame o) s (GaveUp w p)) ∧
          (a.next = c.val → fin = false ∨ o.badFcs = false →
            (a.h = none → Into (.receiveFrame o) s (if fin then (RxIs w p none).ethInc p 25 else RxIs w p (some b))) ∧
            (∀ h f, a.h = some h → s.frame h = some f →
              (w.growFrame { f with data := b.data } = none → Into (.receiveFrame o) s
                (let y := (w.dropRef f.handle).ethInc p 21
                 if fin then (RxIs y p none).ethInc p 25 else RxIs y p (some { b with h := none }))) ∧
              (∀ y, w.growFrame { f with data := b.data } = some y → Into (.receiveFrame o) s
                (let z := y.flowCheck p
                 if fin then ((RxIs z p none).ethInc p 25).rxFrame p b.data false b.bad b.stamp (some h) b.cls else Assembling z p b)))))))) ∧
  (∀ (u : State) (p h : Nat) (d : List Byte) (bad sym : Bool) (st : BitVec 256) (cls : Option (Option FtEnt)) (f : Frame), u.frame h = some f →
    let n := d.length + 4
    let back (x : State) : State := (x.flowCheck p).ftSettle
    (n < 64 → u.rxFrame p d bad sym st (some h) cls = back ((u.freeFrame f).ethInc p 18)) ∧
    (64 ≤ n → n ≤ 9604 → n ≤ u.gf (F.ETH_MAXLEN_MAXLEN p) + 4 →
      (sym = true → u.bf (F.ETH_ERR_DST_ERR_FWD p) = false → u.rxFrame p d bad sym st (some h) cls = back ((u.freeFrame f).ethInc p 17)) ∧
      (sym = false → bad = false → beNat (sliceB d 12 2) ≠ 0x8808 →
        u.rxFrame p d bad sym st (some h) cls = match cls with
          | some e => (u.rxCount p d).ftApply h e
          | none => (u.rxCount p d).classify h))) ∧
  (∀ (s : State) (o : Fin 10), s.stopped = false → s.selects o = false → Into (.lineSelect o) s s) ∧
  (∀ (s : State) (o : Fin 10), s.stopped = false → s.selects o = true →
    let u := if s.selHeld o then s.unselect o else s
    let busy := o.val < 8 ∧ (u.port o).sel = none ∧ ∃ l, (u.port o).tx = some l ∧ l.pre = true
    let given (v : State) (pre : Bool) (k : Token) (t : State) : Prop :=
      (o.val < 8 → (t.port o).sel = some k ∧ (t.port o).selPre = pre) ∧ (8 ≤ o.val → t.sch.sel9 = some k) ∧
      t = { v with yrd := { v.yrd with toks := v.yrd.toks.erase k }, eth := t.eth, sch := t.sch, irq := t.irq }
    (u.lineFree o = false → ¬ busy → Into (.lineSelect o) s u) ∧
    (u.lineFree o = true ∨ busy → ∀ b : Bool, (b = true ↔ busy) →
      let w := (u.purge o (!b) (u.yrd.toks.length + 1)).schSync o
      (∀ v k, w.choose o false = (v, some k) → Does (.lineSelect o) s (given v false k)) ∧
      (∀ v, w.choose o false = (v, none) →
        let quiet := busy ∨ v.preActive o = false ∨ v.bf (F.SCH_GCL_STAT_HOLD o) = true ∨ (v.port o).cut.isSome = true
        (quiet → Into (.lineSelect o) s v) ∧
        (¬ quiet → (∀ x k, v.choose o true = (x, some k) → Does (.lineSelect o) s (given x true k)) ∧
          (∀ x, v.choose o true = (x, none) → Into (.lineSelect o) s x))))) ∧
  (∀ (s : State) (o : Nat) (pre : Bool), let t := s.purge o pre (s.yrd.toks.length + 1)
    ∀ k ∈ t.heads o, pre = true ∨ t.preClass o k.tc = false → t.aged k = false ∧
      (bit (t.gates o) k.tc = true → t.pfcHeld o k.tc = false → t.tooBig k = false)) ∧
  (∀ (s v : State) (o : Nat) (pre : Bool) (k : Token), s.choose o pre = (v, some k) →
    k ∈ s.yrd.toks ∧ k.out = o ∧ s.headOf o k.tc k.leaf = some k ∧ s.preClass o k.tc = pre ∧ bit (s.gates o) k.tc = true ∧
    s.pfcHeld o k.tc = false ∧ s.classDebt o k.tc = false ∧ s.admits k = true ∧
    (∀ c < 8, k.tc < c → s.weighted o c = false → s.preClass o c = pre → s.classOpen o c = true → s.pickLeaf o c = none) ∧
    v = { s with sch := { s.sch with rounds := v.sch.rounds, crounds := v.sch.crounds } }) ∧
  (∀ (s : State) (p : Fin 8) (ago : Nat), s.stopped = false →
    (s.canSend p = false ∨ (s.port p).tx.isSome = true ∨ s.tick < (s.port p).free → Into (.transmitFrame p ago) s s) ∧
    (s.canSend p = true → (s.port p).tx = none → (s.port p).free ≤ s.tick →
      (∀ k, (s.port p).sel = some k → s.selHeld p = false →
        let u := PortIs s p { s.port p with sel := none }
        (s.frame k.frame = none → Into (.transmitFrame p ago) s u) ∧
        (∀ f, s.frame k.frame = some f →
          (s.gf (F.ETH_MAXLEN_MAXLEN p) < f.data.length → Into (.transmitFrame p ago) s (((u.ethInc p 43).tsLost k).dropRef k.frame)) ∧
          (f.data.length ≤ s.gf (F.ETH_MAXLEN_MAXLEN p) → f.badLink.isSome = true → Into (.transmitFrame p ago) s ((u.tsLost k).linkErr k.frame)) ∧
          (f.data.length ≤ s.gf (F.ETH_MAXLEN_MAXLEN p) → f.badLink = none → Does (.transmitFrame p ago) s (fun t =>
            let w := max f.data.length 60 + 24
            (t.port p).tx = some { tok := k, data := f.data, pre := (s.port p).selPre, done := 0, frags := 0, start := s.tick, piece := w,
                                   last := true, sfd := s.timeNow + ago, fitEnd := s.tick + s.lineTicks p (s.fitBytes k), err := !f.bad.isEmpty } ∧
            (t.port p).sel = none ∧ t.sch = { s.sch with shp := (s.debitTok k w).sch.shp } ∧
            (f.bad ≠ [] → t.ethCnt p 44 = (s.ethCnt p 44 + 1) % 2 ^ 40 ∧
              t.fcu.inbox = s.fcu.inbox ++ [⟨0x10 + p, kUE, 0, false, s.tick⟩]) ∧
            (f.bad = [] → t.fcu = s.fcu ∧ t.ethCnt p 44 = s.ethCnt p 44 ∧ ∀ tag, k.ts = some tag → ∀ e ∈ (t.port p).tsq, e.tag = tag →
              e ∈ (s.port p).tsq ∧ e.st ≠ 0 ∨ e = ⟨tag, 1, s.txStamp p tag ago, s.tick⟩) ∧
            (k.ts = none → t.qm = s.qm ∧ t.host = s.host) ∧
            t = { s with regs := t.regs, eth := t.eth, sch := t.sch, qm := t.qm, host := t.host, fcu := t.fcu, irq := t.irq })))) ∧
      (s.selHeld p = true ∨ (s.port p).sel = none →
        ((s.port p).cut = none ∨ s.bf (F.SCH_GCL_STAT_HOLD p) = true ∨ s.expressWaits p = true → Into (.transmitFrame p ago) s s) ∧
        (∀ l, (s.port p).cut = some l → s.bf (F.SCH_GCL_STAT_HOLD p) = false → s.expressWaits p = false →
          Into (.transmitFrame p ago) s (((PortIs s p { s.port p with cut := none, tx := some { l with
            frags := l.frags + 1, start := s.tick, piece := 8 + (max l.data.length 60 + 4 - l.done) + 12, last := true, fitEnd := 0 } }).ethInc p 38).debitTok
            l.tok 24))))) ∧
  (∀ (s : State) (p : Fin 8), s.stopped = false →
    ((s.port p).tx = none → Into (.transmitEnd p) s s) ∧
    (∀ l, (s.port p).tx = some l →
      let d := sliceB l.data 0 (max l.data.length 60)
      let u := PortIs s p { s.port p with tx := none, free := max (s.port p).free s.tick }
      let v := if l.err then u else ((u.ethAdd p 31 (d.length + 4)).ethInc p 32).ethInc p (destCounter 33 d)
      let n := (s.tick - l.start) * 40 / max 1 (s.outByte p) - 8
      let cuts := l.pre = true ∧ s.preActive p = true ∧ (((s.port p).sel.isSome = true ∧ s.selHeld p = false) ∨
        s.bf (F.SCH_GCL_STAT_HOLD p) = true ∨ (s.port p).ctl ≠ []) ∧ 64 * (1 + s.gf (F.ETH_PRE_CFG_ADD_FRAG p)) - 4 ≤ n ∧
        l.done + n + 64 ≤ max l.data.length 60 + 4
      let c := (l.frags - 1) % 4
      let part := sliceB d l.done n
      let head := leBytes 1 (min 1 l.frags) ++ leBytes 1 c
      let rest := head ++ d.drop l.done ++ (withFcs d l.err).drop d.length
      (l.start + s.lineTicks p l.piece ≤ s.tick →
        (l.frags = 0 → s.looped p = false →
          Into (.transmitEnd p) s (((v.emit .ethFrame p (withFcs d l.err)).flushCtl p).dropRef l.tok.frame)) ∧
        (l.frags ≠ 0 → s.looped p = false → Into (.transmitEnd p) s (((v.emit .ethFrag p rest).flushCtl p).dropRef l.tok.frame)) ∧
        (s.looped p = true → Into (.transmitEnd p) s ((((PortIs v p { v.port p with loop := (v.port p).loop ++ [if l.frags = 0
          then ⟨.ethFrame, .whole, d, l.err, l.sfd⟩ else ⟨.ethFrag, .cont (Fin.ofNat 4 c) true, d.drop l.done, l.err, l.sfd⟩] }).flushCtl p).dropRef
          l.tok.frame)))) ∧
      (s.tick < l.start + s.lineTicks p l.piece → ¬ cuts → Into (.transmitEnd p) s s) ∧
      (s.tick < l.start + s.lineTicks p l.piece → cuts → s.looped p = false →
        let x := s.emit .ethFrag p (head ++ part ++ mcrcOf (d.take (l.done + n)))
        let y := (PortIs x p { s.port p with tx := none, cut := some { l with done := l.done + n, last := false },
                                             free := s.tick + s.lineTicks p 16 }).flushCtl p
        Into (.transmitEnd p) s (if s.bf (F.SCH_GCL_STAT_HOLD p) then y.ethInc p 39 else y)) ∧
      (s.tick < l.start + s.lineTicks p l.piece → cuts → s.looped p = true →
        Does (.transmitEnd p) s (fun t => (t.port p).tx = none ∧ (t.port p).cut = some { l with done := l.done + n, last := false } ∧
          t.outbox = s.outbox ∧ (∃ r, (t.port p).loop = (s.port p).loop ++
            [⟨.ethFrag, if l.frags = 0 then .start false else .cont (Fin.ofNat 4 c) false, part, false, l.sfd⟩] ++ r) ∧
          t = { s with regs := t.regs, eth := t.eth, irq := t.irq }))))

/-- R205, R210, R211, R213, R224 to R226. The tag is a field of 8 bits. -/
def Obligations.FlowTableAndYard : Prop :=
  (∀ (s : State) (x : BitVec 16), Runs s → s.bf F.YRD_STAT_INIT_BUSY = true →
    let busy := s.sfs [(F.YRD_FT_RES_VALID, 1), (F.YRD_FT_RES_STATUS, 4), (F.YRD_FT_RES_TAG, s.gf F.YRD_FT_RES_TAG + 1), (F.YRD_FT_RES_VER, 0)]
    Into (.ftRead x) s busy ∧ Into (.ftWrite x) s busy ∧ Into (.ftInvalidate x) s busy ∧ Into .ftLookup s busy) ∧
  (∀ (s : State) (x : BitVec 16), Runs s → s.bf F.YRD_STAT_INIT_BUSY = false →
    let e := s.ftEnt x.toNat
    let res := fun (t : State) (st ver : Nat) => t.bf F.YRD_FT_RES_VALID = true ∧ t.gf F.YRD_FT_RES_STATUS = st ∧
      t.gf F.YRD_FT_RES_TAG = (s.gf F.YRD_FT_RES_TAG + 1) % 256 ∧ t.gf F.YRD_FT_RES_VER = ver % 65536
    let only := fun (t : State) => (∀ o, o ≠ R.YRD_FT_RES → t.reg o = s.reg o) ∧ t = { s with regs := t.regs, irq := t.irq }
    let put := fun (t : State) (v : FtEnt) => (∀ y, t.ftEnt y = if y = x.toNat then { v with ver := (e.ver + 1) % 65536 } else s.ftEnt y) ∧
      t.gf F.YRD_FT_STAT_GEN = (s.gf F.YRD_FT_STAT_GEN + 1) % 2 ^ 16 ∧
      (t.bf F.YRD_FT_STAT_SETTLED = true ↔ ∀ f ∈ s.yrd.frames, ∀ g, f.gen = some g → s.yrd.ftSeq < g) ∧ res t 0 (e.ver + 1) ∧
      (∀ o, o ≠ R.YRD_FT_RES → o ≠ R.YRD_FT_STAT → t.reg o = s.reg o) ∧
      t = { s with regs := t.regs, yrd := { s.yrd with ft := t.yrd.ft, ftBad := t.yrd.ftBad, ftSeq := s.yrd.ftSeq + 1 }, irq := t.irq }
    let key := BitVec.ofNat 128 (leNat s.keyRegs)
    let h := s.flowHash s.keyRegs
    let act := s.reg R.YRD_FT_ACT
    let dup := ∃ w < 4, x.toNat / 4 * 4 + w ≠ x.toNat ∧ (s.ftEnt (x.toNat / 4 * 4 + w)).valid = true ∧ (s.ftEnt (x.toNat / 4 * 4 + w)).key = key
    Does (.ftRead x) s (fun t => res t 0 e.ver ∧ leNat t.keyRegs = e.key.toNat ∧ t.reg R.YRD_FT_ACT = e.act % 2 ^ 32 ∧
      t.reg R.YRD_FT_ACT2 = e.act2 % 2 ^ 32 ∧ t = { s with regs := t.regs, irq := t.irq }) ∧
    (x.toNat / 4 ≠ h % 2 ^ 14 → Does (.ftWrite x) s (fun t => res t 2 e.ver ∧ only t)) ∧
    (x.toNat / 4 = h % 2 ^ 14 → dup → Does (.ftWrite x) s (fun t => res t 3 e.ver ∧ only t)) ∧
    (x.toNat / 4 = h % 2 ^ 14 → ¬ dup → Does (.ftWrite x) s (fun t =>
      put t ⟨key, if bits act 30 28 < 5 then act else setBits act 31 31 0, s.reg R.YRD_FT_ACT2, 0⟩)) ∧
    Does (.ftInvalidate x) s (fun t => put t ⟨e.key, setBits e.act 31 31 0, e.act2, 0⟩ ∧ (t.ftEnt x.toNat).valid = false) ∧
    (s.ftBadBucket h = true → Does .ftLookup s (fun t => res t 1 0 ∧ t.bf F.YRD_STAT_MEM_UE = true ∧
      (∀ o, o ≠ R.YRD_FT_RES → o ≠ R.YRD_STAT → t.reg o = s.reg o) ∧
      t = { s with regs := t.regs, fcu := { s.fcu with inbox := s.fcu.inbox ++ [⟨0x18, kUE, 0, false, s.tick⟩] }, irq := t.irq })) ∧
    (s.ftBadBucket h = false →
      (∀ y, s.ftFind key h = some y → Does .ftLookup s (fun t => res t 0 (s.ftEnt y).ver ∧ t.reg R.YRD_FT_IDX = y ∧
        (∀ o, o ≠ R.YRD_FT_RES → o ≠ R.YRD_FT_IDX → t.reg o = s.reg o) ∧ t = { s with regs := t.regs, irq := t.irq })) ∧
      (s.ftFind key h = none → Does .ftLookup s (fun t => res t 1 0 ∧ only t)))) ∧
  (∀ (s : State) (key : BitVec 128) (h : Nat),
    (∀ y, s.ftFind key h = some y ↔ y / 4 = h % 2 ^ 14 ∧ (s.ftEnt y).valid = true ∧ (s.ftEnt y).key = key ∧
      ∀ w < y % 4, (s.ftEnt (y / 4 * 4 + w)).valid = false ∨ (s.ftEnt (y / 4 * 4 + w)).key ≠ key)) ∧
  (∀ (s : State) (k : Fin 1024) (v : BitVec 32), Runs s → let r := v.toNat % 512
    (s.pinThread k = r → Does (.pinChange (.pin k v)) s (fun t => (∀ o, t.reg o = s.reg o) ∧ t = { s with regs := t.regs, irq := t.irq })) ∧
    (s.pinThread k ≠ r → Does (.pinChange (.pin k v)) s (fun t => t.pinThread k = r ∧ (∀ j : Fin 1024, j ≠ k → t.pinThread j = s.pinThread j) ∧
      t.gf F.YRD_FT_STAT_PIN_GEN = (s.gf F.YRD_FT_STAT_PIN_GEN + 1) % 2 ^ 8 ∧ t.mem = s.mem ∧ t.tbu = s.tbu ∧
      (s.yrd.pinHeld = [] → (∃ x ∈ s.dlvOf (s.pinThread k), x.2 = some k.val) → t.bf F.YRD_FT_STAT_PIN_SETTLED = false) ∧
      (s.yrd.pinHeld = [] → s.yrd.moves = [] → (∀ d ∈ s.yrd.dlv, ∀ x ∈ d.2, x.2 = none) → t.bf F.YRD_FT_STAT_PIN_SETTLED = true)))) ∧
  (∀ (s : State) (k : Fin 16) (v : BitVec 32), Runs s →
    let size := bits v.toNat 19 16
    let base := bits v.toNat 9 0
    let new := fun x => s.pinThread (pinIndex base size x) ≠ s.pinThread (pinIndex (s.gf (F.YRD_PGRP_BASE k)) (s.gf (F.YRD_PGRP_SIZE k)) x)
    (10 < size ∨ 1024 < base + 2 ^ size → Into (.pinChange (.group k v)) s (s.sf F.YRD_STAT_CFG_REJ 1)) ∧
    (size ≤ 10 → base + 2 ^ size ≤ 1024 → Does (.pinChange (.group k v)) s (fun t => t.gf (F.YRD_PGRP_BASE k) = base ∧
      t.gf (F.YRD_PGRP_SIZE k) = size ∧
      ((∀ x < 1024, ¬ new x) → t.gf F.YRD_FT_STAT_PIN_GEN = s.gf F.YRD_FT_STAT_PIN_GEN ∧ t.yrd = s.yrd) ∧
      ((∃ x < 1024, new x) → t.gf F.YRD_FT_STAT_PIN_GEN = (s.gf F.YRD_FT_STAT_PIN_GEN + 1) % 2 ^ 8) ∧
      (∀ o, o ≠ R.YRD_PGRP k → o ≠ R.YRD_FT_STAT → t.reg o = s.reg o) ∧
      t = { s with regs := t.regs, yrd := { s.yrd with moves := t.yrd.moves }, irq := t.irq }))) ∧
  (∀ (s : State) (i : Option (Fin 10)) (v : BitVec 32), Runs s →
    let u := s.plainWrite (match i with | some i => R.YRD_PORT_CFG i | none => R.YRD_POOL) v.toNat false
    let bad := (i ≠ none ∧ bits v.toNat 9 8 = 3) ∨ 32768 < u.reserves
    (s.bf F.YRD_CTL_LOCK = true ∨ i = some 8 → Into (.yrdPoolWrite i v) s s) ∧
    (s.bf F.YRD_CTL_LOCK = false → i ≠ some 8 → bad → Into (.yrdPoolWrite i v) s (s.sf F.YRD_STAT_CFG_REJ 1)) ∧
    (s.bf F.YRD_CTL_LOCK = false → i ≠ some 8 → ¬ bad → Into (.yrdPoolWrite i v) s u.noteFree)) ∧
  (∀ (s : State), Runs s → Does .yrdBlockReset s (fun t =>
    t.yrd = { s.yrd with frames := [], toks := [], dlv := [], pinHeld := [], moves := [], retired := [] } ∧ t.red = { s.red with held := [] } ∧
    t.sch = { s.sch with sel9 := none, rounds := [], crounds := [] } ∧ t.bf F.YRD_FT_STAT_SETTLED = true ∧ t.bf F.YRD_FT_STAT_PIN_SETTLED = true ∧
    (∀ p < 8, (t.port p).tx = none ∧ (t.port p).cut = none ∧ (t.port p).sel = none ∧ (∀ e ∈ (t.port p).tsq, e.st = 2)) ∧
    t.fenced 0x18 = false ∧ t.fcu.inReset = s.fcu.inReset.filter (· != 0x18) ∧
    t = { s with regs := t.regs, eth := t.eth, yrd := t.yrd, red := t.red, sch := t.sch, qm := t.qm, host := t.host,
                 fcu := { s.fcu with inReset := t.fcu.inReset, tail := t.fcu.tail }, outbox := t.outbox, irq := t.irq })) ∧
  (∀ (s : State), s.stopped = false → Into .initDone s (s.sf F.YRD_STAT_INIT_BUSY 0))

/-- R235 to R240, R244, R246, R251. -/
def Obligations.GateListsSwapAndRun : Prop :=
  (∀ (s : State) (p : Fin 8), Runs s →
    let len := s.gf (F.SCH_GCL_ADM_CFG_LEN p)
    let k := 1024 * (1 - s.gf (F.SCH_GCL_STAT_OPER_BANK p))
    let range := len = 0 ∨ 1024 < len ∨ s.gf (F.SCH_GCL_ADM_CYCLE_CYCLE p) = 0 ∨
      ∃ i < len, s.gf (F.SCH_GCL_IVL_INTERVAL p (k + i)) = 0 ∨ 2 ≤ s.gf (F.SCH_GCL_ENTRY_OP p (k + i))
    let n := s.gf (F.SCH_GCL_ADM_CFG_DOM p)
    (s.bf (F.SCH_GCL_STAT_SWAP_PEND p) = true → Into (.swap p) s (SwapRes s p 3) ∧
      Into (.cancel p) s (SwapRes ((s.setGcl p { s.gcl p with pend := none }).sf (F.SCH_GCL_STAT_SWAP_PEND p) 0) p 4)) ∧
    (s.bf (F.SCH_GCL_STAT_SWAP_PEND p) = false → Into (.cancel p) s s ∧
      (range → Into (.swap p) s (SwapRes s p 2)) ∧ (¬ range → s.domOk n = false → Into (.swap p) s (SwapRes s p 1)) ∧
      (¬ range → s.domOk n = true → Into (.swap p) s
        (SwapRes ((s.setGcl p { s.gcl p with pend := some (s.admStart p) }).sf (F.SCH_GCL_STAT_SWAP_PEND p) 1) p 0)))) ∧
  (∀ (s : State) (n base cycle : Nat), 0 < cycle →
    let w := s.swapStart n base cycle
    base ≤ w ∧ (w - base) % cycle = 0 ∧ (s.dom n).val + s.leadVal n ≤ w * wholeUnit n ∧
    ∀ x, base ≤ x → (x - base) % cycle = 0 → (s.dom n).val + s.leadVal n ≤ x * wholeUnit n → w ≤ x) ∧
  (∀ (s : State) (p i : Nat), p < 8 → s.bf (F.SCH_GCL_CTL_EN p) = true →
    let k := 1024 * s.gf (F.SCH_GCL_STAT_OPER_BANK p)
    let len := s.gf (F.SCH_GCL_OPR_CFG_LEN p)
    let c := s.gf (F.SCH_GCL_OPR_CYCLE_CYCLE p)
    let at_ := sumBy (fun j => s.gf (F.SCH_GCL_IVL_INTERVAL p (k + j))) (List.range i)
    let q := (s.whole (s.gf (F.SCH_GCL_OPR_CFG_DOM p)) - (s.reg (R.SCH_GCL_OPR_BASE_LO p) + s.reg (R.SCH_GCL_OPR_BASE_HI p) * 2 ^ 32)) % c
    (s.bf (F.SCH_GCL_STAT_OPER_VALID p) = false ∨ s.bf (F.SCH_GCL_STAT_FALLBACK p) = true → s.gates p = s.gf (F.SCH_GCL_CTL_IDLE_GATES p)) ∧
    (s.bf (F.SCH_GCL_STAT_OPER_VALID p) = true → s.bf (F.SCH_GCL_STAT_FALLBACK p) = false → 0 < c → i < len → at_ ≤ q →
      i + 1 = len ∨ q < at_ + s.gf (F.SCH_GCL_IVL_INTERVAL p (k + i)) →
      s.gclIdx p = i ∧ s.gates p = if s.sch.bad.get (fun _ => false) (2048 * p + (k + i)) = true then s.gf (F.SCH_GCL_CTL_IDLE_GATES p)
        else s.gf (F.SCH_GCL_ENTRY_GATES p (k + i)))) ∧
  (∀ (s : State) (o : Nat), 8 ≤ o ∨ s.bf (F.SCH_GCL_CTL_EN o) = false → s.gates o = 0xFF) ∧
  (∀ (s : State) (p was : Nat), ((s.port p).tx = none → s.overrun p was = s) ∧
    (∀ l, (s.port p).tx = some l →
      let late := bit was l.tok.tc = true ∧ bit (s.gates p) l.tok.tc = false ∧ s.tick < l.fitEnd
      (¬ late → s.overrun p was = s) ∧
      (late → s.overrun p was = ((s.sf (F.SCH_GCL_STAT_OVERRUN p) 1).incf (F.SCH_CNT_OVERRUN_COUNT p)).logRec 0x19 0x1092 p
        (s.gf (F.SCH_GCL_STAT_OPER_IDX p))))) ∧
  (∀ (s : State) (p : Fin 8), s.stopped = false →
    let n := s.gf (F.SCH_GCL_ADM_CFG_DOM p)
    ((s.gcl p).pend = none → Into (.swapTakeEffect p) s s) ∧
    (∀ w, (s.gcl p).pend = some w → (s.domOk n = false ∨ s.whole n < w → Into (.swapTakeEffect p) s s) ∧
      (s.domOk n = true → w ≤ s.whole n → Does (.swapTakeEffect p) s (fun t =>
        t.gf (F.SCH_GCL_STAT_OPER_BANK p) = (1 - s.gf (F.SCH_GCL_STAT_OPER_BANK p)) % 2 ∧
        t.bf (F.SCH_GCL_STAT_SWAP_PEND p) = false ∧ t.bf (F.SCH_GCL_STAT_OPER_VALID p) = true ∧ t.bf (F.SCH_GCL_STAT_FALLBACK p) = false ∧
        t.gf (F.SCH_GCL_OPR_CFG_LEN p) = s.gf (F.SCH_GCL_ADM_CFG_LEN p) ∧ t.gf (F.SCH_GCL_OPR_CFG_DOM p) = n ∧
        t.gf (F.SCH_GCL_OPR_CYCLE_CYCLE p) = s.gf (F.SCH_GCL_ADM_CYCLE_CYCLE p) ∧ t.reg (R.SCH_GCL_OPR_BASE_LO p) = w % 2 ^ 32 ∧
        t.reg (R.SCH_GCL_OPR_BASE_HI p) = w / 2 ^ 32 % 2 ^ 32 ∧ t.gf (F.SCH_GCL_STAT_OPER_IDX p) = t.gclIdx p % 1024 ∧
        (t.gcl p).pend = none ∧ (t.gcl p).wait = false ∧ (t.gcl p).re = none ∧
        ((t.gclNow p).1 = false → (∀ v, (s.gcl p).holdAt = some (n, v) → v < w) → t.bf (F.SCH_GCL_STAT_HOLD p) = false) ∧
        ((t.gclNow p).1 = true → t.bf (F.SCH_GCL_STAT_HOLD p) = s.bf (F.SCH_GCL_STAT_HOLD p)) ∧ (∀ q, q ≠ p.val → t.gcl q = s.gcl q) ∧
        t = { s with regs := t.regs, sch := { s.sch with gcl := t.sch.gcl }, evr := t.evr, fcu := t.fcu, irq := t.irq })))) ∧
  (∀ (s : State) (p : Fin 8), s.stopped = false →
    (∀ w, (s.gcl p).re = some w → let n := s.gf (F.SCH_GCL_OPR_CFG_DOM p)
      (s.domOk n = false ∨ s.whole n < w → Into (.gateEntryChange p) s s) ∧
      (s.domOk n = true → w ≤ s.whole n → Into (.gateEntryChange p) s ((Entered ((s.setGcl p { s.gcl p with re := none }).sfs
        [(F.SCH_GCL_STAT_FALLBACK p, 0), (F.SCH_GCL_OPR_BASE_LO_BASE p, w), (F.SCH_GCL_OPR_BASE_HI_BASE p, w / 2 ^ 32)]) p).overrun p
        (s.gatesShown p)))) ∧
    ((s.gcl p).re = none →
      let same := s.gclIdx p = s.gf (F.SCH_GCL_STAT_OPER_IDX p) ∧ (s.gcl p).cyc = s.gclCycle p
      (s.listRuns p = false ∨ same → Into (.gateEntryChange p) s s) ∧
      (s.listRuns p = true → ¬ same → Into (.gateEntryChange p) s ((Entered s p).overrun p (s.gatesShown p))))) ∧
  (∀ (s : State) (p : Fin 8), Runs s →
    Into (.gclEnable p true) s ((s.sf (F.SCH_GCL_CTL_EN p) 1).overrun p (s.gatesShown p)) ∧
    Does (.gclEnable p false) s (fun t => t.bf (F.SCH_GCL_CTL_EN p) = false ∧ t.bf (F.SCH_GCL_STAT_OPER_VALID p) = false ∧
      t.bf (F.SCH_GCL_STAT_FALLBACK p) = false ∧ t.bf (F.SCH_GCL_STAT_HOLD p) = false ∧ t.gates p = 0xFF ∧ (t.gcl p).wait = false ∧
      (t.gcl p).re = none ∧ (t.gcl p).pend = (s.gcl p).pend ∧ (∀ q, q ≠ p.val → t.gcl q = s.gcl q) ∧
      (∀ o, o ≠ R.SCH_GCL_CTL p → o ≠ R.SCH_GCL_STAT p → o ≠ R.ETH_PRE_STAT p → t.reg o = s.reg o) ∧
      t = { s with regs := t.regs, sch := { s.sch with gcl := t.sch.gcl }, irq := t.irq })) ∧
  (∀ (s : State) (p : Fin 8), s.stopped = false →
    (s.bf (F.SCH_GCL_CTL_EN p) = false ∨ s.bf (F.SCH_GCL_STAT_HOLD p) = true → Into (.holdAssert p) s s) ∧
    (s.bf (F.SCH_GCL_CTL_EN p) = true → s.bf (F.SCH_GCL_STAT_HOLD p) = false →
      let now := s.listRuns p = true ∧ (s.gclNow p).1 = true
      let d := s.gf (F.SCH_GCL_OPR_CFG_DOM p)
      (now → Into (.holdAssert p) s (HoldIs s p (some (d, s.whole d)) 1)) ∧
      (¬ now → s.nextEntry p (fun y => y.1) = none → Into (.holdAssert p) s s) ∧
      (¬ now → ∀ x w b, s.nextEntry p (fun y => y.1) = some (x, w, b) →
        (x ≤ s.gf (F.SCH_PORT_GB_HOLD_ADV p) * 2 ^ 32 → Into (.holdAssert p) s (HoldIs s p (some w) 1)) ∧
        (s.gf (F.SCH_PORT_GB_HOLD_ADV p) * 2 ^ 32 < x → Into (.holdAssert p) s s)))) ∧
  (∀ (s : State) (p : Fin 8), s.stopped = false →
    ((s.gcl p).holdAt = none → Into (.holdRelease p) s s) ∧
    (∀ n w, (s.gcl p).holdAt = some (n, w) →
      let past := s.listRuns p = true ∧ (s.gclNow p).1 = false ∧ w ≤ s.whole n ∧ s.swapDue p = false
      (¬ past ∨ s.bf (F.SCH_GCL_STAT_HOLD p) = false → Into (.holdRelease p) s s) ∧
      (past → s.bf (F.SCH_GCL_STAT_HOLD p) = true → Into (.holdRelease p) s (HoldIs s p none 0))))

/-- R229, R230, R232, R248 to R250, R252. A tick adds CIR and EIR in 2^-24 byte. -/
def Obligations.ShapersAndFlowQueues : Prop :=
  (∀ (s : State) (i : Fin 2048), Runs s →
    let fill := s.bf (F.SCH_SHP_CTL_RESET_FILL i)
    let c := s.gf (F.SCH_SHP_BURST_CBS i)
    let e := s.gf (F.SCH_SHP_BURST_EBS i)
    Into (.apply i) s (s.setShp i { mode := s.gf (F.SCH_SHP_CTL_MODE i), cir := s.reg (R.SCH_SHP_CIR i), eir := s.reg (R.SCH_SHP_EIR i), cbs := c,
                                    ebs := e, cb := if fill then ((c * 64 * 2 ^ 24 : Nat) : Int) else 0,
                                    eb := if fill then ((e * 64 * 2 ^ 24 : Nat) : Int) else 0 })) ∧
  (∀ (x : Shaper) (w o : Bool),
    (x.mode ≠ 1 → x.mode ≠ 2 → x.tick w o = x) ∧
    (x.mode = 1 → let full (n : Nat) : Int := (n * 64 * 2 ^ 24 : Nat)
      (x.cb ≤ full x.cbs → (x.tick w o).cb = min (x.cb + x.cir) (full x.cbs)) ∧ (full x.cbs < x.cb → (x.tick w o).cb = x.cb) ∧
      (x.eir ≠ 0 → x.eb ≤ full x.ebs → (x.tick w o).eb = min (x.eb + x.eir) (full x.ebs)) ∧ (x.eir = 0 → (x.tick w o).eb = x.eb)) ∧
    (x.mode = 2 → (x.tick w o).eb = x.eb ∧ (o = true → (x.tick w o).cb = x.cb + x.cir) ∧
      (o = false → x.cb < 0 → (x.tick w o).cb = min 0 (x.cb + x.cir)) ∧
      (o = false → 0 ≤ x.cb → (x.tick w o).cb = if w then x.cb else 0)) ∧
    (x.tick w o).mode = x.mode ∧ (x.tick w o).cir = x.cir ∧ (x.tick w o).eir = x.eir) ∧
  (∀ (x : Shaper) (n : Nat), x.mode ≠ 0 → let m : Int := n * 2 ^ 24
    let other := x.cb < 0 ∧ x.mode = 1 ∧ x.eir ≠ 0
    (other → x.debit n = { x with eb := x.eb - m }) ∧ (¬ other → x.debit n = { x with cb := x.cb - m }) ∧
    (x.debt = true ↔ x.cb < 0 ∧ (x.mode = 1 → x.eir ≠ 0 → x.eb < 0))) ∧
  (∀ (s : State) (k : Token) (n i : Nat), (s.debitTok k n).shp i = if i ∈ s.shapersOf k then (s.shp i).debit n else s.shp i) ∧
  (∀ (s : State) (i : Fin 2048), s.stopped = false → ((s.shp i).debt = true → Into (.debtEnd i) s s) ∧
    ((s.shp i).debt = false → Does (.debtEnd i) s (fun t =>
      t = { s with sch := { s.sch with rounds := t.sch.rounds, crounds := t.sch.crounds }, irq := t.irq } ∧
      (∀ o c, o ≤ 7 ∨ o = 9 → c < 8 → ∀ l, l ∈ s.activeLeaves o c ↔ l ∈ (t.round o c).map RLeaf.id)))) ∧
  (∀ (s : State) (f : Fin 16384) (v : BitVec 32), Runs s →
    let o := bits v.toNat 30 27
    let moves := (o ≠ s.gf (F.SCH_FQ_CFG_OUT f) ∨ bits v.toNat 26 24 ≠ s.gf (F.SCH_FQ_CFG_TC f)) ∧ ∃ k ∈ s.yrd.toks, k.fq = some f.val
    (o = 8 ∨ 10 ≤ o ∨ moves → Into (.fqCfgWrite f v) s (s.sf F.SCH_STAT_CFG_REJ 1)) ∧
    (o ≠ 8 → o < 10 → ¬ moves → Does (.fqCfgWrite f v) s (fun t => t.reg (R.SCH_FQ_CFG f) = v.toNat ∧
      (∀ r, r ≠ R.SCH_FQ_CFG f → t.reg r = s.reg r) ∧ t = { s with regs := t.regs, irq := t.irq }))) ∧
  (∀ (s : State) (v : BitVec 32), Runs s →
    let f := v.toNat % 2 ^ 14
    let leaf := (s.schSync (s.gf (F.SCH_FQ_CFG_OUT f))).round (s.gf (F.SCH_FQ_CFG_OUT f)) (s.gf (F.SCH_FQ_CFG_TC f))
    Does (.fqSel v) s (fun t => t.gf F.SCH_FQ_SEL_FLOWQ = f ∧ t.bf F.SCH_FQ_SEL_VALID = true ∧
      t.gf F.SCH_FQ_INFO_FRAMES = min 0xFFFF (s.yrd.toks.filter (fun k => k.fq == some f)).length ∧
      (t.bf F.SCH_FQ_INFO_ACTIVE = true ↔ 16 + f ∈ leaf.map RLeaf.id) ∧ (t.bf F.SCH_FQ_INFO_DEBT = s.leafDebt (16 + f)) ∧
      (∀ x, leaf.find? (fun x => x.id == 16 + f) = some x → t.gf F.SCH_FQ_DEF_DEF = x.def_ % 2 ^ 20) ∧
      (∀ r, r ≠ R.SCH_FQ_SEL → r ≠ R.SCH_FQ_INFO → r ≠ R.SCH_FQ_DEF → t.reg r = s.reg r) ∧
      t = { s with regs := t.regs, sch := { s.sch with rounds := t.sch.rounds, crounds := t.sch.crounds }, irq := t.irq }) ∧
    Into (.shpSel v) s (s.sfs [(F.SCH_SHP_SEL_SHAPER, v.toNat % 2 ^ 11), (F.SCH_SHP_SEL_VALID, 1),
      (F.SCH_SHP_CB_BYTES, wrap 32 ((s.shp (v.toNat % 2 ^ 11)).cb / (2 ^ 24 : Nat))),
      (F.SCH_SHP_EB_BYTES, wrap 32 ((s.shp (v.toNat % 2 ^ 11)).eb / (2 ^ 24 : Nat)))])) ∧
  (∀ (s : State), Runs s → Does .schBlockReset s (fun t =>
    t.sch = { s.sch with rounds := [], crounds := [], gcl := t.sch.gcl, shp := s.sch.shp.map (fun x => (x.1, x.2.fill)) } ∧
    (∀ p : Fin 8, t.bf (F.SCH_GCL_STAT_OPER_VALID p) = false ∧ t.bf (F.SCH_GCL_STAT_SWAP_PEND p) = false ∧
      t.bf (F.SCH_GCL_STAT_FALLBACK p) = false ∧ t.bf (F.SCH_GCL_STAT_HOLD p) = false ∧ (t.gcl p).re = none ∧ (t.gcl p).wait = false ∧
      (s.bf (F.SCH_GCL_STAT_SWAP_PEND p) = true → (t.gcl p).pend = none ∧ t.gf (F.SCH_GCL_STAT_RES p) = 4)) ∧
    t.fenced 0x19 = false ∧ t.fcu.inReset = s.fcu.inReset.filter (· != 0x19) ∧
    t = { s with regs := t.regs, sch := t.sch, fcu := { s.fcu with inReset := t.fcu.inReset, tail := t.fcu.tail }, irq := t.irq }))

/-- R258 to R260, R262, R266, R391. -/
def Obligations.EventStreamsMirrorAndHandOver : Prop :=
  (∀ (s : State) (i : Fin 4096) (q : BitVec 16) (key : Nat), RedRuns s →
    let off := ¬ (s.role = 3 ∨ s.role = 1) ∨ s.redFenced = true ∨ s.linkUp 0 = false ∨ 4096 ≤ s.red.mirrors.length
    let l := s.red.mirrors ++ [⟨i, q.toNat, key, s.tick⟩]
    let ack := fun u : State => (u.setGen i { u.gen i with next := (q.toNat + 1) % 65536 }).emit .mirrorAck 0 (leBytes 2 i ++ leBytes 2 q.toNat)
    (off → Into (.mirrorReceived i q key) s s) ∧
    (¬ off → s.red.held.find? (fun h => h.stream == i.val && h.seq.isNone) = none →
      Into (.mirrorReceived i q key) s (ack (RedIs s { s.red with mirrors := l }))) ∧
    (¬ off → ∀ h m, s.red.held.find? (fun h => h.stream == i.val && h.seq.isNone) = some h → l.find? (fun m => m.stream == i.val) = some m →
      let u := ack (RedIs s { s.red with held := s.red.held.erase h, mirrors := l.erase m })
      (h.key = m.key → Into (.mirrorReceived i q key) s (u.redPass i m.seq h.tok)) ∧
      (h.key ≠ m.key → Into (.mirrorReceived i q key) s (u.redFree h.tok)))) ∧
  (∀ (s : State) (i : Fin 4096) (q : BitVec 16), RedRuns s →
    (∀ h, s.red.held.find? (fun h => h.stream == i.val && h.seq == some q.toNat) = some h →
      Into (.mirrorAck i q) s ((RedIs s { s.red with held := s.red.held.erase h }).redPass i q.toNat h.tok).hoAdvance) ∧
    (s.red.held.find? (fun h => h.stream == i.val && h.seq == some q.toNat) = none → Into (.mirrorAck i q) s s)) ∧
  (∀ s : State, (s.red.ho ≠ 1 ∨ (∃ h ∈ s.red.held, h.seq.isSome = true) → s.hoAdvance = s) ∧
    (s.red.ho = 1 → (∀ h ∈ s.red.held, h.seq = none) → ∃ d, s.hoAdvance = { RedIs s { s.red with ho := 2 } with
      outbox := s.outbox ++ [⟨.handover, 0, d⟩] } ∧ d.length = 4 * ((List.range 4096).filter (fun i => s.isEvent i && s.bf (F.RED_GEN_CFG_EN i))).length)) ∧
  (∀ s : State, (∀ h ∈ s.numberHeld.red.held, h.seq.isSome = true) ∧ ((∀ h ∈ s.red.held, h.seq.isSome = true) → s.numberHeld = s) ∧
    (∀ h, s.red.held.filter (fun h => h.seq.isNone) = [h] → s.numberHeld =
      ((RedIs s { s.red with held := s.red.held.filter (fun h => h.seq.isSome) }).setGen h.stream
        { s.gen h.stream with next := ((s.gen h.stream).next + 1) % 65536 }).redPass h.stream (s.gen h.stream).next h.tok)) ∧
  (∀ (s : State), RedRuns s →
    let t := ticksOfNs (max 1 (s.gf F.RED_MIR_CFG_ACK_TMO))
    let late := fun h : RedHeld => h.seq.isSome && decide (h.since + t ≤ s.tick)
    let u := RedIs s { s.red with held := s.red.held.filter (fun h => !late h) }
    Into .ackTimeout s ((s.red.held.filter late).foldl (fun x h => (x.incf F.RED_CNT_MIR_TMO_COUNT).redPass h.stream (h.seq.getD 0) h.tok) u).hoAdvance ∧
    Does .ackTimeout s (fun x => x.red.held = u.red.held ∧ x.red.mirrors = s.red.mirrors ∧ x.mem = s.mem)) ∧
  (∀ (s : State), RedRuns s →
    let t := 250 * max 1 (s.gf F.RED_MIR_CFG_WAIT)
    let late := fun h : RedHeld => h.seq.isNone && decide (h.since + t ≤ s.tick)
    let old := fun m : Mirror => decide (m.since + t ≤ s.tick)
    let r := { s.red with held := s.red.held.filter (fun h => !late h), mirrors := s.red.mirrors.filter (fun m => !old m) }
    Does .matchWaitExpire s (fun u => u.red = r ∧ u.mem = s.mem) ∧
    Into .matchWaitExpire s (((s.red.held.filter late).foldl (fun x h => x.redFree h.tok) (RedIs s r)).addf F.RED_CNT_ORPHAN_COUNT
      (s.red.mirrors.filter old).length)) ∧
  (∀ (s : State) (i : Fin 4096), RedRuns s →
    let due := (s.recOf i).last + 250000 * max 1 (s.gf (F.RED_REC_CFG_RESET_MS i))
    let now := s.bf (F.RED_REC_CFG_EN i) = true ∧ (s.recOf i).takeAny = false ∧ due ≤ s.tick
    (now → Into (.recoveryReset i) s (s.setRec i { s.recOf i with takeAny := true, resets := min ((s.recOf i).resets + 1) (2 ^ 32 - 1) })) ∧
    (¬ now → Into (.recoveryReset i) s s)) ∧
  (∀ (r : RecSt) (win tick q : Nat), 0 < win → Recovered r (r.take win tick q).1 win tick q (r.take win tick q).2) ∧
  (∀ (s : State) (l : List (Nat × Nat)), RedRuns s →
    let off := ¬ (s.role = 3 ∨ s.role = 1) ∨ s.redFenced = true ∨ s.linkUp 0 = false
    (off → Into (.handover l) s s) ∧
    (¬ off → Into (.handover l) s ((((l.foldl (fun u x => u.setGen x.1 { u.gen x.1 with next := x.2 % 65536 }) s).sf F.RED_ROLE_ROLE 2).numberHeld).emit
      .handoverAck 0 []))) ∧
  (∀ (s : State), RedRuns s → (s.red.ho ≠ 2 → Into .handoverAck s s) ∧
    (s.red.ho = 2 → Into .handoverAck s (((RedIs s { s.red with ho := 0, outAfter := false }).sf F.RED_ROLE_ROLE
      (if s.red.outAfter = true then 4 else 3)).sf F.RED_ROLE_HANDOVER 0))) ∧
  (∀ (s : State) (i : Fin 4096) (q w : BitVec 16) (v : BitVec 32) (p : HbPath) (b : Option Bool) (c : Int) (m n : Nat) (d : List Byte) (l : List (Nat × Nat)),
    s.stopped = false → s.red.stopped = true →
    ∀ x ∈ [Instr.mirrorReceived i q n, .mirrorAck i q, .ackTimeout, .matchWaitExpire, .recoveryReset i, .heartbeatSend, .heartbeatReceived p v,
      .partnerLost, .pathFault p, .stepdown .write, .stepdown .request, .stepdown .shed, .promote, .handover l, .handoverAck, .digestSend,
      .digestReceived c m n, .digestMissing, .verdict b, .groomRound, .roundEnd, .healthReport d, .resolveTimeout], Into x s s)

/-- R263 to R267, R271, R382, R408, R409. Roles: 0 NONE, 1 RESOLVING, 2 ACTIVE, 3 STANDBY, 4 OUT. -/
def Obligations.RolesAndHeartbeats : Prop :=
  (∀ (s : State), Runs s → (s.bf F.RED_CTL_EN = true → Into .redEnable s s) ∧
    (s.bf F.RED_CTL_EN = false → s.red.stopped = true → Into .redEnable s (s.sf F.RED_CTL_EN 1)) ∧
    (s.bf F.RED_CTL_EN = false → s.red.stopped = false →
      let u := (RedIs (s.sf F.RED_CTL_EN 1) { s.red with since := s.tick, wireAt := none, voxAt := none, resolving := none, actAt := none,
                                                         hbLast := none, wireRep := false, voxRep := false }).sf F.RED_ROLE_PARTNER_LOST 0
      Into .redEnable s (if s.role = 4 then u else u.sf F.RED_ROLE_ROLE (if s.bf F.RED_TWIN_CFG_TWIN_EN = true then 1 else 2)))) ∧
  (∀ (s : State) (f : Bool), let w := s.hbWord f
    bits w 1 0 = s.devId ∧ bits w 2 2 = 0 ∧ bits w 5 3 = (if s.redFenced = true then 4 else s.role) ∧ bits w 8 6 = s.gf F.PWR_STAT_SH ∧ bit w 9 = f ∧
    bits w 10 10 = s.gf F.RED_GROOM_STAT_PASS ∧ bits w 11 11 = s.gf F.RED_ROLE_SUSPECT ∧ bits w 12 12 = s.gf F.RED_ROLE_DIVERGED ∧
    bits w 15 13 = 0 ∧ bits w 23 16 = s.red.hbCnt % 256 ∧ bits w 31 24 = crc8Of 0 (beBytes 3 (w % 2 ^ 24)) ∧ w < 2 ^ 32) ∧
  (∀ (s : State), RedRuns s →
    let due := ∀ t, s.red.hbLast = some t → t + 250 * s.gf F.RED_HB_CFG_PERIOD ≤ s.tick
    let w := leBytes 4 (s.hbWord false)
    let sum := s.hbBody false / 2 ^ 10 % 8
    let u : State := { s with
      red := { s.red with hbCnt := (s.red.hbCnt + 1) % 256, hbLast := some s.tick },
      outbox := s.outbox ++ (if s.bf F.RED_HB_CFG_WIRE_EN = true ∧ s.vioA = true then [⟨.hbWire, 0, hbLine w⟩] else []) ++
        (if s.bf F.RED_HB_CFG_VOX_EN = true ∧ s.linkUp 0 = true then [⟨.hbVox, 0, w⟩] else []) }
    (s.hbRuns = false ∨ ¬ due → Into .heartbeatSend s s) ∧
    (s.hbRuns = true → due → sum = s.red.health → Into .heartbeatSend s u) ∧
    (s.hbRuns = true → due → sum ≠ s.red.health → let v := RedIs u { u.red with health := sum }
      Into .heartbeatSend s (if s.linkUp 0 = true then v.emit .health 0 s.healthReport else v))) ∧
  (∀ (s : State) (p : HbPath) (w : BitVec 32), RedRuns s →
    let path := s.bf F.RED_CTL_EN = true ∧ s.role ≠ 0 ∧ (match p with
      | .wire => s.bf F.RED_HB_CFG_WIRE_EN = true ∧ s.vioA = true
      | .vox => s.bf F.RED_HB_CFG_VOX_EN = true ∧ s.linkUp 0 = true)
    let v := w.toNat
    let good := bits v 31 24 = crc8Of 0 (beBytes 3 (v % 2 ^ 24)) ∧ bits v 1 0 = s.partnerId
    let lost := bit v 9 = true ∨ bits v 5 3 = 4 ∨ 3 ≤ bits v 8 6
    let h := Heard s p v
    let x := if s.role = 1 then h.resolveOn (bits v 5 3) else if s.role = 2 ∧ bits v 5 3 = 2 then h.twoActive (bits v 8 6) else h
    (¬ path → Into (.heartbeatReceived p w) s s) ∧
    (path → ¬ good → Into (.heartbeatReceived p w) s (s.incf F.RED_CNT_HB_BAD_COUNT)) ∧
    (path → good → s.twin = false → Into (.heartbeatReceived p w) s (HeardRaw s p v)) ∧
    (path → good → s.twin = true → lost → Into (.heartbeatReceived p w) s (HeardRaw s p v).losePartner) ∧
    (path → good → s.twin = true → ¬ lost →
      (bit v 12 = false ∨ s.red.peerDiv = true ∨ s.gf F.RED_TWIN_CFG_SUPV ≠ 2 → Into (.heartbeatReceived p w) s x) ∧
      (bit v 12 = true → s.red.peerDiv = false → s.gf F.RED_TWIN_CFG_SUPV = 2 →
        Into (.heartbeatReceived p w) s (x.diverge (·.roundStart true))))) ∧
  (∀ (s : State) (pr : Nat), let clear := RedIs s { s.red with resolving := none }
    let first := s.bf F.GCTL_BOOT_STAT_TWIN_ROLE = true ∧ (pr = 1 ∨ pr = 3)
    (pr = 2 → s.resolveOn pr = clear.sf F.RED_ROLE_ROLE 3) ∧
    (pr ≠ 2 → s.red.afterRst = true → s.resolveOn pr = s) ∧
    (pr ≠ 2 → s.red.afterRst = false → first →
      s.resolveOn pr = ((RedIs s { s.red with actAt := some s.tick, resolving := none }).sf F.RED_ROLE_ROLE 2).numberHeld) ∧
    (pr ≠ 2 → s.red.afterRst = false → ¬ first → (pr = 1 → s.resolveOn pr = RedIs s { s.red with resolving := some (s.red.resolving.getD s.tick) }) ∧
      (pr ≠ 1 → s.resolveOn pr = clear))) ∧
  (∀ (s : State) (sh : Nat),
    let soon := ∃ t, s.red.actAt = some t ∧ s.tick ≤ t + 250000 * max 1 (s.gf F.GCTL_TWIN_CFG_RESOLVE_MS)
    let u := if s.bf F.GCTL_STAT_PIN_CLASH then s else (s.sf F.GCTL_STAT_PIN_CLASH 1).raise 0x01 kCONFIG 0
    let me := s.gf F.PWR_STAT_SH
    let odd := fun v : State => if v.bf F.GCTL_STAT_PIN_CLASH = true then v.devId % 2 = 1 else v.bf F.GCTL_BOOT_STAT_TWIN_ROLE = false
    ∀ v, (soon ∧ v = u) ∨ (¬ soon ∧ v = s) →
      (¬ (sh < me ∨ (sh = me ∧ odd v)) → s.twoActive sh = v) ∧
      (sh < me ∨ (sh = me ∧ odd v) →
        let x := ((RedIs v { v.red with ho := 0, outAfter := false }).sf F.RED_ROLE_ROLE 3).sf F.RED_ROLE_HANDOVER 0
        s.twoActive sh = (if v.bf F.RED_TWIN_CFG_AUTO_LOFT then replicaWrite true x else x).replBreak.logRec 0x1A 0x10A3 3 2)) ∧
  (∀ (s : State), let u := s.sf F.RED_ROLE_PARTNER_LOST 1
    let v := ((RedIs u { s.red with resolving := none }).sf F.RED_ROLE_ROLE 2).numberHeld
    (s.role = 3 ∨ s.role = 1 → s.losePartner = ((if s.bf F.RED_TWIN_CFG_AUTO_LOFT then replicaWrite false v else v).logRec 0x1A 0x10A2 2
      (s.gf F.RED_ROLE_PARTNER_ROLE)).incf F.RED_CNT_PROMOTE_COUNT) ∧
    (s.role ≠ 3 → s.role ≠ 1 → s.red.ho = 0 → s.losePartner = u.passHeld) ∧
    (s.role ≠ 3 → s.role ≠ 1 → s.red.ho ≠ 0 →
      s.losePartner = ((RedIs u { s.red with ho := 0, outAfter := false }).sf F.RED_ROLE_HANDOVER 0).passHeld.numberHeld) ∧
    (∀ h ∈ s.passHeld.red.held, h.seq = none) ∧ ((∀ h ∈ s.red.held, h.seq = none) → s.passHeld = s)) ∧
  (∀ (s : State), RedRuns s →
    let due := s.bf F.RED_CTL_EN = true ∧ s.role ≠ 0 ∧ s.twin = true ∧ s.partnerLost = false ∧ s.lastWord + 3 * (250 * s.gf F.RED_HB_CFG_PERIOD) ≤ s.tick
    (¬ due → Into .partnerLost s s) ∧ (due → Into .partnerLost s s.losePartner) ∧
    (due → s.role = 3 ∨ s.role = 1 → Does .partnerLost s (fun t => t.role = 2 ∧ t.bf F.RED_ROLE_PARTNER_LOST = true))) ∧
  (∀ (s : State), RedRuns s →
    let on := s.twin = true ∧ s.bf F.RED_CTL_EN = true ∧ s.bf F.RED_HB_CFG_WIRE_EN = true ∧ s.bf F.RED_HB_CFG_VOX_EN = true
    let per := 3 * (250 * s.gf F.RED_HB_CFG_PERIOD)
    let silent := fun (mine other : Option Nat) => max s.red.since (mine.getD 0) + per ≤ s.tick ∧ ∃ t, other = some t ∧ s.tick < t + per
    let told := fun r : RedSt => ((RedIs s r).sf F.RED_ROLE_PATH_FAULT 1).raise 0x1A kLINK_DOWN 0
    let wire := on ∧ s.red.wireRep = false ∧ silent s.red.wireAt s.red.voxAt
    let vox := on ∧ s.red.voxRep = false ∧ silent s.red.voxAt s.red.wireAt
    (wire → Into (.pathFault .wire) s (told { s.red with wireRep := true })) ∧ (¬ wire → Into (.pathFault .wire) s s) ∧
    (vox → Into (.pathFault .vox) s (told { s.red with voxRep := true })) ∧ (¬ vox → Into (.pathFault .vox) s s)) ∧
  (∀ (s : State), RedRuns s →
    let now := s.role = 1 ∧ s.red.afterRst = false ∧ s.bf F.GCTL_BOOT_STAT_TWIN_ROLE = false ∧
      ∃ t, s.red.resolving = some t ∧ t + 250000 * max 1 (s.gf F.GCTL_TWIN_CFG_RESOLVE_MS) ≤ s.tick
    let c := RedIs s { s.red with resolving := none }
    let d := if s.bf F.GCTL_STAT_PIN_CLASH then c else (c.sf F.GCTL_STAT_PIN_CLASH 1).raise 0x01 kCONFIG 0
    (¬ now → Into .resolveTimeout s s) ∧
    (now → Into .resolveTimeout s (if s.devId % 2 = 0 then (d.sf F.RED_ROLE_ROLE 2).numberHeld else d))) ∧
  (∀ (s : State), RedRuns s →
    let shed := s.bf F.RED_TWIN_CFG_SHED_SWAP = true ∧ 2 ≤ s.gf F.PWR_STAT_SH ∧ s.red.peerShed < 2 ∧ s.hoOk = true
    (s.safe = true → Into (.stepdown .write) s s ∧ Into .promote s s) ∧
    (s.safe = false → s.role ≠ 2 ∨ s.hoOk = false → Into (.stepdown .write) s (s.sf F.RED_ROLE_CFG_REJ 1)) ∧
    (s.safe = false → s.role = 2 → s.hoOk = true → Into (.stepdown .write) s s.hoStart) ∧
    (s.hoOk = true → Into (.stepdown .request) s s.hoStart) ∧ (s.hoOk = false → Into (.stepdown .request) s s) ∧
    (shed → Into (.stepdown .shed) s s.hoStart) ∧ (¬ shed → Into (.stepdown .shed) s s) ∧
    (s.role ≠ 2 ∨ s.red.ho ≠ 0 ∨ s.twin = false → s.hoStart = s) ∧
    (s.role = 2 → s.red.ho = 0 → s.twin = true → s.hoStart = ((RedIs s { s.red with ho := 1 }).sf F.RED_ROLE_HANDOVER 1).hoAdvance) ∧
    (s.safe = false → s.role ≠ 3 ∨ s.hoOk = false → Into .promote s (s.sf F.RED_ROLE_CFG_REJ 1)) ∧
    (s.safe = false → s.role = 3 → s.hoOk = true → Into .promote s (s.emit .handover 0 [])))

/-- R268 to R271. -/
def Obligations.DigestsRoundsAndVerdicts : Prop :=
  (∀ (s : State), RedRuns s →
    let x := s.gf F.RED_TWIN_CFG_DIG_CLK
    let c := s.cycleNo x
    ∀ n : Int, (s.red.digSent = none ∧ n = c - 1) ∨ (∃ k, s.red.digSent = some k ∧ n = max (k + 1) (c - 2)) →
      let wait := s.digMode = false ∨ c ≤ n ∨ (n = c - 1 ∧ s.clkPos x % s.clkCycle x < (s.gf (F.RED_CLK_CFG_GUARD x) : Int))
      let d := s.dig n
      let u := RedIs s { s.red with digSent := some n, digs := s.red.digs.filter (·.n != n) ++ [d] }
      let v := if s.linkUp 0 then u.emit .digest 0 (leBytes 8 (wrap 64 n) ++ leBytes 4 d.d ++ leBytes 4 d.cnt) else u
      (wait → Into .digestSend s s) ∧
      (¬ wait → s.red.peerDigs.find? (·.n == n) = none → Into .digestSend s v) ∧
      (¬ wait → ∀ q, s.red.peerDigs.find? (·.n == n) = some q → Into .digestSend s (v.digCompare d q))) ∧
  (∀ (s : State) (m q : Digest),
    let u := RedIs s { s.red with digs := s.red.digs.filter (·.n != m.n), peerDigs := s.red.peerDigs.filter (·.n != m.n) }
    let w := (RedIs u { u.red with digRun := s.red.digRun + 1 }).incf F.RED_CNT_DIG_MISMATCH_COUNT
    (m.d = q.d → m.cnt = q.cnt → s.digCompare m q = RedIs u { u.red with digRun := 0 }) ∧
    (m.d ≠ q.d ∨ m.cnt ≠ q.cnt →
      (s.red.digRun + 1 < max 1 (s.gf F.RED_TWIN_CFG_DIV_THRESH) → s.digCompare m q = w) ∧
      (max 1 (s.gf F.RED_TWIN_CFG_DIV_THRESH) ≤ s.red.digRun + 1 → s.digCompare m q = w.diverge (·.roundStart true)))) ∧
  (∀ s : State, (s.bf F.RED_ROLE_DIVERGED = true → s.diverge (·.roundStart true) = s) ∧
    (s.bf F.RED_ROLE_DIVERGED = false → let t := s.diverge (·.roundStart true)
      t.bf F.RED_ROLE_DIVERGED = true ∧ t.bf F.RED_ROLE_VERDICT_BUSY = true ∧ t.red.divAt = some s.tick ∧ t.red.myV = none ∧
      t.red.roundV = true ∧ t.red.round = some s.tick ∧ t.red.digRun = 0 ∧ t.eth = s.eth)) ∧
  (∀ (s : State) (n : Int) (d cnt : Nat), RedRuns s →
    let kept := RedIs s { s.red with peerDigs := s.red.peerDigs.filter (·.n != n) ++ [⟨n, d, cnt⟩] }
    (s.digMode = false ∨ s.linkUp 0 = false → Into (.digestReceived n d cnt) s s) ∧
    (s.digMode = true → s.linkUp 0 = true →
      (s.red.digSent = none → Into (.digestReceived n d cnt) s kept) ∧
      (∀ k, s.red.digSent = some k → (k < n → Into (.digestReceived n d cnt) s kept) ∧
        (n ≤ k → s.red.digs.find? (·.n == n) = none → Into (.digestReceived n d cnt) s s) ∧
        (∀ m, n ≤ k → s.red.digs.find? (·.n == n) = some m → Into (.digestReceived n d cnt) s (s.digCompare m ⟨n, d, cnt⟩))))) ∧
  (∀ (s : State), RedRuns s →
    let gone := fun m : Digest => s.digMode = true ∧ m.n + 2 ≤ s.cycleNo (s.gf F.RED_TWIN_CFG_DIG_CLK) ∧
      ∃ k, s.red.digSent = some k ∧ s.red.digs.find? (fun m => m.n ≤ k) = some m
    (∀ m, gone m → Into .digestMissing s ((RedIs s { s.red with digs := s.red.digs.filter (·.n != m.n) }).incf F.RED_CNT_DIG_MISSING_COUNT)) ∧
    ((∀ m, ¬ gone m) → Into .digestMissing s s)) ∧
  (∀ (s : State) (peer : Option Bool), RedRuns s →
    let known := s.red.myV ≠ none ∧ peer ≠ none
    (s.red.divAt = none → Into (.verdict peer) s s) ∧
    (∀ t, s.red.divAt = some t →
      let tmo := t + 250000 * max 1 (s.gf F.RED_GROOM_CFG_VERDICT_MS) ≤ s.tick
      let mine := s.red.myV == some true
      let theirs := peer == some true
      let act := s.role = 2
      let a := if act then mine else theirs
      let b := if act then theirs else mine
      let s1 := (RedIs ((s.sfs [(F.RED_ROLE_DIVERGED, 0), (F.RED_ROLE_VERDICT_BUSY, 0)]).incf F.RED_CNT_DIVERGED_COUNT)
        { s.red with divAt := none, myV := none }).logRec 0x1A 0x10A4 (b2n a + 2 * b2n b) (s.gf F.RED_ROLE_PARTNER_ROLE)
      (¬ tmo → ¬ known → Into (.verdict peer) s s) ∧
      (tmo ∨ known →
        (act → (a = true → Into (.verdict peer) s s1) ∧
          (a = false → b = false → Into (.verdict peer) s (s1.raise 0x1A kSAFETY 0)) ∧
          (a = false → b = true → Into (.verdict peer) s (RedIs s1 { s1.red with outAfter := true }).hoStart)) ∧
        (¬ act → (a = true → b = true → Into (.verdict peer) s (s1.sf F.RED_ROLE_SUSPECT 1)) ∧
          (a = false → b = true → Into (.verdict peer) s s1) ∧
          (b = false → Into (.verdict peer) s (s1.sf F.RED_ROLE_ROLE 4)))))) ∧
  (∀ (s : State), RedRuns s →
    let due := s.role = 3 ∧ s.gf F.RED_GROOM_CFG_PERIOD ≠ 0 ∧ s.red.round = none ∧
      s.red.lastRound + 250000000 * s.gf F.RED_GROOM_CFG_PERIOD ≤ s.tick
    (¬ due → Into .groomRound s s) ∧ (due → Into .groomRound s (s.roundStart false)) ∧
    (due → Does .groomRound s (fun t => t.red.round = some s.tick ∧ t.red.roundV = false ∧ t.red.lastRound = s.tick ∧ t.red.loopOk = some true ∧
      t.gf F.RED_GROOM_STAT_ROUND = (s.gf F.RED_GROOM_STAT_ROUND + 1) % 2 ^ 16 ∧ t.bf F.RED_GROOM_STAT_BUSY = true ∧
      t.bf F.RED_GROOM_STAT_KERNEL_OK = false ∧ t.bf F.RED_GROOM_STAT_LOOP_OK = false ∧
      (t.bf F.RED_GROOM_STAT_SCRUB_OK = true ↔ s.errTotals.2 = (s.red.ueSeen, s.red.sramSeen)) ∧
      (∀ p < 8, bit (s.gf F.RED_GROOM_CFG_LOOP_PORTS) p = true → (t.port p).loopEnd = some (s.tick + 250000) ∧ (t.port p).groomRx = 0 ∧
        (t.canSend p = true → ∃ l, (t.port p).loop.filter (fun o => o.kind == .groom) = l ++ (List.range 16).map (fun k =>
          ⟨.groom, .whole, groomFrame p k, false, s.timeNow⟩))) ∧
      (∀ p < 8, bit (s.gf F.RED_GROOM_CFG_LOOP_PORTS) p = false → (t.port p).loopEnd = (s.port p).loopEnd)))) ∧
  (∀ (s : State) (v : BitVec 32), Runs s → (s.red.round = none → Into (.kernelSignature v) s s) ∧
    (∀ t, s.red.round = some t →
      let tmo := t + 250000 * max 1 (s.gf F.RED_GROOM_CFG_VERDICT_MS)
      (s.tick ≤ tmo → Into (.kernelSignature v) s (s.sf F.RED_GROOM_STAT_KERNEL_OK (if v.toNat = s.reg R.RED_GROOM_SIG then 1 else 0))) ∧
      (tmo < s.tick → Into (.kernelSignature v) s s))) ∧
  (∀ (s : State), RedRuns s → (s.red.round = none → Into .roundEnd s s) ∧
    (∀ t, s.red.round = some t →
      let loops := s.red.roundV = true ∨ (s.red.loopOk = some true ∧ s.eth.any (fun q => q.2.loopEnd.isSome) = false)
      let tmo := t + 250000 * max 1 (s.gf F.RED_GROOM_CFG_VERDICT_MS) ≤ s.tick
      ∀ b, (b = true ↔ loops) → let ok := s.bf F.RED_GROOM_STAT_KERNEL_OK && s.bf F.RED_GROOM_STAT_SCRUB_OK && b
        (ok = false → ¬ tmo → Into .roundEnd s (if s.red.roundV then s else s.sf F.RED_GROOM_STAT_LOOP_OK (b2n b))) ∧
        (ok = true ∨ tmo → Does .roundEnd s (fun u => u.bf F.RED_GROOM_STAT_PASS = ok ∧ u.bf F.RED_GROOM_STAT_BUSY = false ∧
          (s.red.roundV = false → u.bf F.RED_GROOM_STAT_LOOP_OK = b) ∧
          u.red = { s.red with round := none, health := u.red.health, myV := if s.red.roundV then some ok else s.red.myV } ∧
          (∃ l, u.outbox = s.outbox ++ (if s.red.roundV ∧ s.linkUp 0 then [⟨.verdict, 0, leBytes 1 (b2n ok)⟩] else []) ++
            (if s.linkUp 0 then [⟨.health, 0, l⟩] else [])) ∧
          (∀ o, o ≠ R.RED_GROOM_STAT → u.reg o = s.reg o) ∧
          u = { s with regs := u.regs, red := u.red, outbox := u.outbox, irq := u.irq })))) ∧
  (∀ (s : State) (l : List Byte), RedRuns s →
    (s.linkUp 0 = false ∨ s.bf F.RED_CTL_EN = false → Into (.healthReport l) s s) ∧
    (s.linkUp 0 = true → s.bf F.RED_CTL_EN = true →
      Does (.healthReport l) s (fun t => (∀ w < 8, t.reg (R.RED_HEALTH w) = leNat (sliceB l (4 * w) 4)) ∧
        (∀ o, (∀ w < 8, o ≠ R.RED_HEALTH w) → t.reg o = s.reg o) ∧ t = { s with regs := t.regs, irq := t.irq }))) ∧
  (∀ (s : State) (p : Fin 8) (ok : Bool), s.stopped = false →
    ((s.port p).loopEnd = none → Into (.loopbackEnd p ok) s s) ∧
    (∀ t, (s.port p).loopEnd = some t →
      (s.tick < t → Into (.loopbackEnd p ok) s s) ∧
      (t ≤ s.tick → Does (.loopbackEnd p ok) s (fun u => (u.port p).loopEnd = none ∧
        u.red = { s.red with loopOk := s.red.loopOk.map (· && ok && (s.port p).groomRx == 16) } ∧
        ((∀ x ∈ s.eth, x.1 ≠ p.val → x.2.loopEnd = none) → u.bf F.RED_GROOM_STAT_LOOP_OK = (u.red.loopOk == some true)) ∧
        u = { s with regs := u.regs, eth := u.eth, yrd := u.yrd, sch := u.sch, qm := u.qm, host := u.host, fcu := u.fcu, red := u.red,
                     outbox := u.outbox, irq := u.irq }))))

/-- R275 to R278. -/
def Obligations.LinksMessagesAndTwinResets : Prop :=
  (∀ (s : State) (l : Fin 2), s.stopped = false →
    (s.linkUp l = false → (∀ m, Into (.voxMessageReceived l m) s s) ∧ Into (.voxLinkDown l) s s) ∧
    (s.linkUp l = true →
      let fall := fun u : State => (({ u.sfs [(F.VOX_LINK_STAT_UP l, 0), (F.VOX_LINK_STAT_DOWN_EV l, 1), (F.VOX_LINK_STAT_LANES_UP l, 0),
        (F.VOX_LINK_STAT_DEGRADED l, 0)] with vox := { u.vox with replays := setAt u.vox.replays l 0 } } : State).raise 0x1B kLINK_DOWN l)
      let down := fun u : State => if l.val = 0 then (fall u).replBreak else fall u
      let n := s.vox.replays.getD l 0 + 1
      let counted : State := { s.incf (F.VOX_CNT_RETRY_COUNT l) with vox := { s.vox with replays := setAt s.vox.replays l n } }
      Into (.voxLinkDown l) s (down s) ∧
      (∀ c : Fin 6, Into (.voxMessageReceived l (.good c)) s (s.emit .voxAck l (leBytes 1 c.val))) ∧
      Into (.voxMessageReceived l .badCrc) s (s.incf (F.VOX_CNT_CRC_COUNT l)) ∧
      Into (.voxMessageReceived l .progress) s { s with vox := { s.vox with replays := setAt s.vox.replays l 0 } } ∧
      (n < 8 → Into (.voxMessageReceived l .replay) s counted) ∧ (8 ≤ n → Into (.voxMessageReceived l .replay) s (down counted)))) ∧
  (∀ (s : State) (l : Fin 2) (lanes : BitVec 2) (peer : BitVec 8), s.stopped = false →
    let ready := bit (s.gf F.VOX_CTL_EN) l = true ∧ s.safe = false ∧ s.gf F.PWR_STAT_SH < 3 ∧ s.gf F.PWR_STAT_PS < 3 ∧ lanes ≠ 0 ∧ s.linkUp l = false
    let up : State := { s.sfs [(F.VOX_LINK_STAT_UP l, 1), (F.VOX_LINK_STAT_LANES_UP l, lanes.toNat),
      (F.VOX_LINK_STAT_DEGRADED l, if lanes = 3 then 0 else 1), (F.VOX_LINK_STAT_PEER_ID l, peer.toNat)] with
      vox := { s.vox with replays := setAt s.vox.replays l 0 } }
    (ready → Into (.voxLinkUp l lanes peer) s (if l.val = 0 then up.replDrain.twinLink else up)) ∧
    (¬ ready → Into (.voxLinkUp l lanes peer) s (if l.val = 0 then s.twinLink else s))) ∧
  (∀ (s : State) (o : PeerSrc), s.stopped = false → s.bf F.VOX_RING_CFG_RING_EN = false → Into (.peerMessage o) s s) ∧
  (∀ (s : State) (l : Fin 2) (h : Fin 4) (m : List Byte), s.stopped = false → s.bf F.VOX_RING_CFG_RING_EN = true →
    let b := sliceB m 0 64
    let dest := (b.headD 0).toNat % 4
    (s.linkUp l = false → Into (.peerMessage (.link l h m)) s s) ∧
    (s.linkUp l = true →
      (dest = s.devId → Into (.peerMessage (.link l h m)) s (s.peerDeliver l b)) ∧
      (dest ≠ s.devId → h.val = 0 ∨ s.linkUp (1 - l.val) = false → Into (.peerMessage (.link l h m)) s (s.incf (F.VOX_CNT_DROP_COUNT l))) ∧
      (dest ≠ s.devId → h.val ≠ 0 → s.linkUp (1 - l.val) = true → Into (.peerMessage (.link l h m)) s
        (s.emit .peer (1 - l.val) (leBytes 1 (h.val - 1) ++ b))))) ∧
  (∀ (s : State), s.stopped = false → s.bf F.VOX_RING_CFG_RING_EN = true →
    let x := s.qTake (s.gf F.VOX_Q_CFG_PEER_TX_Q)
    (s.dramUp = false ∨ s.dramIdle cQM = false ∨ x.2 = .empty ∨ x.2 = .bad → Into (.peerMessage .queue) s s) ∧
    (s.dramUp = true → s.dramIdle cQM = true →
      (x.2 = .memErr → Into (.peerMessage .queue) s x.1) ∧
      (∀ d n, x.2 = .got d n →
        let dest := (d.headD 0).toNat % 4
        let m := patchB (sliceB d 0 64) 1 (leBytes 1 s.devId)
        let link := if dest = s.partnerId then 0 else if s.linkUp 1 then 1 else 0
        (dest = s.devId → Into (.peerMessage .queue) s (x.1.peerDeliver 0 m)) ∧
        (dest ≠ s.devId → s.linkUp link = true → Into (.peerMessage .queue) s (x.1.emit .peer link (leBytes 1 3 ++ m))) ∧
        (dest ≠ s.devId → s.linkUp link = false → Into (.peerMessage .queue) s s)))) ∧
  (∀ (s : State) (l : Nat) (m : List Byte), let q := leNat (sliceB m 2 2)
    (s.wideQueue q = false → s.peerDeliver l m = s.incf (F.VOX_CNT_DROP_COUNT l)) ∧
    (s.wideQueue q = true → s.heldOff q = false → (∀ w ∈ s.qm.held, w.1 ≠ q) → s.peerDeliver l m = (let d := s.deliverNow q m
      if d.2 = true then d.1 else d.1.incf (F.VOX_CNT_DROP_COUNT l))) ∧
    (s.wideQueue q = true → s.heldOff q = true ∨ (∃ w ∈ s.qm.held, w.1 = q) →
      s.peerDeliver l m = QmIs s { s.qm with held := s.qm.held ++ [(q, m, [F.VOX_CNT_DROP_COUNT l])] })) ∧
  (∀ (s : State), Runs s →
    Does .redBlockReset s (fun t => t.role = 0 ∧ t.bf F.RED_CTL_EN = false ∧ t.gf F.RED_ROLE_SUSPECT = s.gf F.RED_ROLE_SUSPECT ∧
      t.bf F.RED_ROLE_PARTNER_LOST = false ∧ t.bf F.RED_ROLE_HANDOVER = false ∧ t.bf F.RED_ROLE_DIVERGED = false ∧
      t.red = { RedSt.init with recs := s.red.recs.map (fun x => (x.1, { x.2 with takeAny := true })), afterRst := true, hbCnt := s.red.hbCnt,
                                ueSeen := s.red.ueSeen, ceSeen := s.red.ceSeen, sramSeen := s.red.sramSeen, lastRound := s.red.lastRound,
                                stopped := s.red.stopped } ∧ t.fenced 0x1A = false ∧ t.fcu.inReset = s.fcu.inReset.filter (· != 0x1A) ∧
      t = { s with regs := t.regs, red := t.red, eth := t.eth, yrd := t.yrd, qm := t.qm, host := t.host, fcu := t.fcu, outbox := t.outbox,
                   irq := t.irq }) ∧
    Does .voxBlockReset s (fun t => t.linkUp 0 = false ∧ t.linkUp 1 = false ∧ (s.linkUp 0 = true → t.vox.replBuf = [] ∧ t.bf F.VOX_REPL_STAT_BROKEN = true) ∧
      (s.linkUp 0 = false → t.vox.replBuf = s.vox.replBuf) ∧ t.fcu.inReset = s.fcu.inReset.filter (· != 0x1B) ∧
      t = { s with regs := t.regs, vox := t.vox, fcu := t.fcu, irq := t.irq })) ∧
  (∀ (s : State) (v : BitVec 32), Runs s →
    let i := v.toNat % 2 ^ 12
    let g := s.gen i
    let r := s.recOf i
    Into (.redSel v) s (s.sfs [(F.RED_SEL_STREAM, i), (F.RED_SEL_VALID, 1), (F.RED_SEL_GEN_NEXT, g.next), (F.RED_SEL_GEN_J, g.j),
      (F.RED_SEL_REC_RECOV, r.recov), (F.RED_SEL_REC_TAKE_ANY, b2n r.takeAny), (F.RED_SEL_CNT_VALUE 0, r.pass), (F.RED_SEL_CNT_VALUE 1, r.dup),
      (F.RED_SEL_CNT_VALUE 2, r.rogue), (F.RED_SEL_CNT_VALUE 3, r.lost), (F.RED_SEL_CNT_VALUE 4, r.notag), (F.RED_SEL_CNT_VALUE 5, r.resets)]))

/-- R282 to R289, R301 to R306, R308, R309, R382, R391. -/
def Obligations.BusWindowsAndBuffers : Prop :=
  (∀ (s u : State), s.stopped = false → u = s.zTxStep → u.gf F.PWR_STAT_SH = 4 ∨ u.gf F.PWR_STAT_PS = 4 →
    (∀ c ∈ [Instr.windowStart, .cycleStart, .frameSend, .guardianCut, .miss, .referenceSend, .backupReference, .refMiss, .pollSend, .pollAnswer,
        .coldstart, .backoffEnd], Into c s u) ∧
    (∀ o, Into (.frameReceived o) s u ∧ Into (.referenceReceived o) s u) ∧
    (∀ c, Into (.readbackMismatch c) s u ∧ Into (.rxdFallingEdge c) s u) ∧
    (s.safe = false → Into .zttBlockReset s u ∧ (∀ b, Into (.zttEnable b) s u) ∧ (∀ m, Into (.switch m) s u) ∧ (∀ m, Into (.clear m) s u) ∧
      (∀ m l, Into (.commit m l) s u))) ∧
  (∀ (s u : State), Zat s u →
    let w := u.gf F.ZTT_CYCLE_WINDOW + 1
    let k := u.ztt.base + u.gf F.ZTT_CYCLE_CYCLE * u.ztt.nwin + w
    let start := bits (u.zEff (R.ZTT_WIN_TIME k) u.zNow) 15 0
    let v := if w = 1 then u.zJudgeRef else u.zJudgeWin
    let len := bits (v.zEff (R.ZTT_WIN_TIME k) (v.zAt start)) 31 16
    let e := v.zEff (R.ZTT_WIN_CTL k) (v.zAt start)
    let ue := v.ztt.badEnt.get (fun _ => false) (R.ZTT_WIN_TIME k) || v.ztt.badEnt.get (fun _ => false) (R.ZTT_WIN_CTL k)
    let badT := decide (start < v.ztt.prevEnd) || decide (v.ztt.cycBt < start + len)
    let kind := if ue || badT || bits e 31 30 == 3 then 0 else bits e 31 30
    let en := [bit e 29 && v.zChan 0, bit e 28 && v.zChan 1]
    let bufs := [bits e 9 0, bits e 19 10]
    let own := kind = 1 ∧ bits e 27 22 = v.zNode ∧ v.zState = 4
    let noted := if ue then (v.sf F.ZTT_STAT_MEM_UE 1).raise 0x1C kUE 0
      else if badT then (v.incf (F.ZTT_CNT_G_COUNT 9)).sf F.ZTT_INT_STAT_BAD_WIN 1 else v
    let a := if own ∧ (bit e 29 && v.zChan 0) = true then noted.zLatchCount 0 (bits e 9 0) len else noted
    let b := if own ∧ (bit e 28 && v.zChan 1) = true then a.zLatchCount 1 (bits e 19 10) len else a
    (u.zCycling = false ∨ u.ztt.nwin ≤ w ∨ u.zNow < u.zAt start → Into .windowStart s u) ∧
    (u.zCycling = true → w < u.ztt.nwin → u.zAt start ≤ u.zNow →
      (v.zCycling = false → Into .windowStart s v) ∧
      (v.zCycling = true → Into .windowStart s (ZttIs (b.sf F.ZTT_CYCLE_WINDOW w) { v.ztt with
        prevEnd := if badT then v.ztt.prevEnd else start + len
        win := some { w := w, kind := kind, owner := bits e 27 22, en := en, buf := bufs, start := start, len := len,
                      latch := if own then bufs.map (fun m => v.zLatch m len) else [none, none], got := [false, false], judged := false,
                      sent := false, poll := none, answered := false } })))) ∧
  (∀ (s : State) (c m len : Nat),
    (512 ≤ m ∨ s.bf (F.ZTT_MB_CFG_EN m) = false ∨ s.bf (F.ZTT_MB_CFG_DIR m) = false → s.zLatch m len = none ∧ s.zLatchCount c m len = s) ∧
    (m < 512 → s.bf (F.ZTT_MB_CFG_EN m) = true → s.bf (F.ZTT_MB_CFG_DIR m) = true →
      (s.zQuiet = true → s.zLatch m len = some none ∧ s.zLatchCount c m len = s) ∧
      (s.zQuiet = false → s.ztt.badBuf.get (fun _ => false) m = true →
        s.zLatch m len = some none ∧ s.zLatchCount c m len = (s.sf F.ZTT_STAT_MEM_UE 1).raise 0x1C kUE c) ∧
      (s.zQuiet = false → s.ztt.badBuf.get (fun _ => false) m = false →
        let age := s.gf (F.ZTT_MB_CFG_AGE_MAX m)
        ((s.zBuf m).page = none ∨ (age ≠ 0 ∧ age < s.ztt.abs - (s.zBuf m).born) → s.zLatch m len = some none ∧ s.zLatchCount c m len = s) ∧
        (∀ d, (s.zBuf m).page = some d → age = 0 ∨ s.ztt.abs - (s.zBuf m).born ≤ age →
          (98 + 10 * d.length + 2 * s.zGuard ≤ len → s.zLatch m len = some (some d) ∧ s.zLatchCount c m len = s) ∧
          (len < 98 + 10 * d.length + 2 * s.zGuard → s.zLatch m len = some none ∧ s.zLatchCount c m len = s.incf (F.ZTT_CNT_G_COUNT 3)))))) ∧
  (∀ (s : State) (fr : List (Nat × List Byte)) (tss perm : Int) (ans : Option Nat),
    (fr = [] → s.zSend fr tss perm ans = s) ∧
    (fr ≠ [] → s.zSend fr tss perm ans = ({ fr.foldl (fun v _ => v.incf (F.ZTT_CNT_G_COUNT 0)) s with
      outbox := s.outbox ++ fr.map (fun f => ⟨.zttFrame, f.1, f.2⟩)
      ztt := { s.ztt with tx := some { chans := [fr.any (fun f => f.1 == 0), fr.any (fun f => f.1 == 1)], tss := tss,
                                       fin := tss + (fr.foldl (fun n f => max n (8 + 10 * f.2.length)) 0 * (fr.foldl (fun v _ => v.incf (F.ZTT_CNT_G_COUNT 0)) s).zBit : Nat),
                                       perm := perm, mism := none, ans := ans } } } : State))) ∧
  (∀ (s : State) (null poll : Bool) (w ago : Nat) (c : Fin 2) (d : List Byte), w < 128 → d.length ≤ 64 → (null = true → d = []) →
    let f : ZRx := { chan := c, bytes := s.zFrame false null poll w d, lineOk := true, ago := ago }
    f.valid = true ∧ f.isRef = false ∧ f.node = s.zNode ∧ f.byte 1 = w + 128 * b2n poll ∧ f.cycle = s.gf F.ZTT_CYCLE_CYCLE ∧ f.byte 3 = d.length ∧
    bit (f.byte 0) 7 = null ∧ bit (f.byte 2) 6 = s.zRq ∧ (f.bytes.drop 5).take (f.byte 3) = d) ∧
  (∀ (s u : State), Zat s u → u.ztt.win = none → Into .frameSend s u ∧ Into .pollSend s u ∧ Into .pollAnswer s u ∧ Into .miss s u) ∧
  (∀ (s u : State) (w : ZWin), Zat s u → u.ztt.win = some w →
    let mute := w.sent = true ∨ u.zMayTx = false ∨ u.zNow < u.zAt (w.start + u.zGuard) ∨ u.zPerm w ≤ u.zNow ∨ u.zState ≠ 4
    let z := ZttIs u { u.ztt with win := some { w with sent := true } }
    let t0 := u.zAt (w.start + u.zGuard)
    (mute ∨ w.kind ≠ 1 ∨ w.owner ≠ u.zNode → Into .frameSend s u) ∧
    (mute ∨ w.kind ≠ 2 ∨ u.zMaster = false → Into .pollSend s u) ∧
    (¬ mute → w.kind = 1 → w.owner = u.zNode →
      let cs := (On w.en).filter (fun c => (w.latch.getD c none).isSome)
      let data := fun c => (w.latch.getD c none).getD none
      let n := (z.addf (F.ZTT_CNT_G_COUNT 2) ((On w.en).filter (fun c => (w.latch.getD c none).isNone)).length).addf (F.ZTT_CNT_G_COUNT 1)
        (cs.filter (fun c => (data c).isNone)).length
      Into .frameSend s ((cs.foldl (fun v c => v.sf (F.ZTT_MB_STAT_CYCLE (w.buf.getD c 0)) (v.gf F.ZTT_CYCLE_CYCLE)) n).zSend
        (cs.map (fun c => (c, n.zFrame false (data c).isNone false w.w ((data c).getD [])))) t0
        ((cs.foldl (fun v c => v.sf (F.ZTT_MB_STAT_CYCLE (w.buf.getD c 0)) (v.gf F.ZTT_CYCLE_CYCLE)) n).zPerm w) none)) ∧
    (¬ mute → w.kind = 2 → u.zMaster = true →
      let g := w.owner % 8
      let next := fun i => (u.ztt.lastPoll.getD g 63 + 1 + i) % 64
      ((∀ i, i < 64 → u.zCand g (next i) = false) → Into .pollSend s z) ∧
      (∀ i, i < 64 → u.zCand g (next i) = true → (∀ j, j < i → u.zCand g (next j) = false) →
        Into .pollSend s ((ZttIs z { z.ztt with lastPoll := setAt u.ztt.lastPoll g (next i) }).zSend
          ((On w.en).map (fun c => (c, u.zFrame false false true w.w [BitVec.ofNat 8 (next i)]))) t0 (u.zPerm w) none)))) ∧
  (∀ (s u : State) (w : ZWin), Zat s u → u.ztt.win = some w →
    let g := w.owner % 8
    let m := u.gf (F.ZTT_POLL_TX_BUF g)
    let t0 := u.zAt (w.start + 3 * u.zGuard + 108)
    let able := w.answered = false ∧ u.zState = 4 ∧ t0 ≤ u.zNow ∧ u.zNow < u.zPerm w ∧ u.zMayTx = true ∧ u.zQuiet = false ∧
      u.bf (F.ZTT_POLL_TX_EN g) = true ∧ u.bf (F.ZTT_MB_CFG_DIR m) = true ∧ (u.zBuf m).page.isSome = true
    (w.poll = none → Into .pollAnswer s u) ∧
    (∀ n chans, w.poll = some (n, chans) →
      (n ≠ u.zNode ∨ ¬ able → Into .pollAnswer s u) ∧
      (n = u.zNode → able →
        let z := ZttIs u { u.ztt with win := some { w with answered := true } }
        let d := u.zContent m
        let y := (if d.isNone then z.incf (F.ZTT_CNT_G_COUNT 1) else z).sf (F.ZTT_MB_STAT_CYCLE m) (u.gf F.ZTT_CYCLE_CYCLE)
        Into .pollAnswer s (y.zSend ((On chans).map (fun c => (c, y.zFrame false d.isNone false w.w (d.getD [])))) t0 (y.zPerm w)
          (d.map (fun _ => m)))))) ∧
  (∀ (s : State), s.stopped = false →
    (s.ztt.tx = none → Into .guardianCut s s) ∧
    (∀ x, s.ztt.tx = some x →
      let z := ZttIs s { s.ztt with tx := none }
      (s.zNow < min x.fin x.perm → Into .guardianCut s s) ∧
      (x.perm < x.fin → x.perm ≤ s.zNow → let cut : State := { z with outbox := s.outbox ++ Cuts x }
        (s.zState ≠ 2 → Into .guardianCut s cut) ∧
        (s.zState = 2 → Does .guardianCut s (fun t => t.zState = 1 ∧ t.zMaster = false ∧ t.ztt.s = none ∧ t.ztt.tx = none ∧ t.ztt.listen = s.tick ∧
          t.outbox = s.outbox ++ Cuts x ∧ ZttFrame s t))) ∧
      (x.fin ≤ x.perm → x.fin ≤ s.zNow →
        let y := match x.ans, x.mism with
          | some m, none => zClear m z
          | _, _ => z
        (s.zState = 4 →
          (x.mism = none → Into .guardianCut s (ZttIs y { y.ztt with rbRun := 0 })) ∧
          (∀ c, x.mism = some c → s.ztt.rbRun + 1 < s.zRbMax → Into .guardianCut s (ZttIs z { z.ztt with rbRun := s.ztt.rbRun + 1 })) ∧
          (∀ c, x.mism = some c → s.zRbMax ≤ s.ztt.rbRun + 1 → Does .guardianCut s (fun t => t.zState = 5 ∧ t.zMaster = false ∧ t.ztt.s = none ∧
            t.ztt.tx = none ∧ t.outbox = s.outbox ∧ t.fcu.inbox = s.fcu.inbox ++ [⟨0x1C, kPROTOCOL, c % 2 ^ 64, false, s.tick⟩] ∧
            t = { s with regs := t.regs, ztt := t.ztt, evr := t.evr, fcu := { s.fcu with inbox := t.fcu.inbox }, irq := t.irq }))) ∧
        (s.zState = 2 →
          (x.mism.isSome = true → Into .guardianCut s z) ∧
          (x.mism = none → s.ztt.intact + 1 < 2 → Into .guardianCut s (ZttIs y { y.ztt with intact := s.ztt.intact + 1 })) ∧
          (x.mism = none → 2 ≤ s.ztt.intact + 1 → Does .guardianCut s (fun t => t.zState = 4 ∧ t.zMaster = true ∧
            t.ztt = { y.ztt with intact := s.ztt.intact + 1 } ∧ t.outbox = s.outbox ∧ ZttFrame s t))) ∧
        (s.zState ≠ 4 → s.zState ≠ 2 → Into .guardianCut s y)))) ∧
  (∀ (s u : State) (o : ZRx), Zat s u →
    let v := ZValidIs u o
    (u.zChan o.chan = false ∨ u.vioA = false ∨ u.zState = 0 ∨ (o.valid = true ∧ (o.isRef = true ∨ o.node = u.zNode)) → Into (.frameReceived o) s u) ∧
    (u.zChan o.chan = true → u.vioA = true → u.zState ≠ 0 →
      (o.valid = false → Into (.frameReceived o) s ((ZHeardIs u o).incf (F.ZTT_CNT_COUNT o.chan 1))) ∧
      (o.valid = true → o.isRef = false → o.node ≠ u.zNode →
        (u.zState = 5 → Into (.frameReceived o) s v) ∧
        (u.zState ≠ 5 → u.ztt.win = none → Into (.frameReceived o) s (v.incf (F.ZTT_CNT_COUNT o.chan 3))) ∧
        (∀ w, u.zState ≠ 5 → u.ztt.win = some w →
          let other := o.byte 1 % 128 ≠ w.w ∨ o.cycle ≠ u.gf F.ZTT_CYCLE_CYCLE ∨ w.kind = 0 ∨
            (w.kind = 1 ∧ (o.node ≠ w.owner ∨ bit (o.byte 1) 7 = true)) ∨ w.en.getD o.chan false = false
          (w.judged = true → Into (.frameReceived o) s (v.incf (F.ZTT_CNT_COUNT o.chan 3))) ∧
          (w.judged = false → u.zIsEdge w o = true → Into (.frameReceived o) s ((v.incf (F.ZTT_CNT_COUNT o.chan 2)).sf F.ZTT_INT_STAT_EDGE 1)) ∧
          (w.judged = false → u.zIsEdge w o = false →
            (other → Into (.frameReceived o) s (v.incf (F.ZTT_CNT_COUNT o.chan 3))) ∧
            (¬ other → bit (o.byte 1) 7 = true →
              (o.byte 3 ≠ 1 → Into (.frameReceived o) s v) ∧
              (o.byte 3 = 1 → Into (.frameReceived o) s (ZttIs v { v.ztt with win := some { w with
                poll := some (o.byte 5 % 64, setAt (match w.poll with | none => [false, false] | some p => p.2) o.chan true) } }))) ∧
            (¬ other → bit (o.byte 1) 7 = false →
              let kept := ZttIs v { v.ztt with win := some { w with got := setAt w.got o.chan true } }
              let seen := if w.kind = 1 ∧ (u.zState = 3 ∨ u.zState = 4) then kept.setPresent w.owner true else kept
              (seen.fenced 0x1C = true → Into (.frameReceived o) s seen) ∧
              (seen.fenced 0x1C = false → Into (.frameReceived o) s (seen.zStore (w.buf.getD o.chan 512) o.chan o.node o.cycle (bit (o.byte 0) 7)
                ((o.bytes.drop 5).take (o.byte 3)))))))))) ∧
  (∀ (s : State) (m c n k : Nat) (null : Bool) (d : List Byte),
    (512 ≤ m ∨ s.bf (F.ZTT_MB_CFG_EN m) = false ∨ s.bf (F.ZTT_MB_CFG_DIR m) = true → s.zStore m c n k null d = s) ∧
    (m < 512 → s.bf (F.ZTT_MB_CFG_EN m) = true → s.bf (F.ZTT_MB_CFG_DIR m) = false → s.bf (F.ZTT_MB_CFG_FIRST m) = true →
      (∀ b, (s.zBuf m).got = some (s.ztt.abs, b) →
        (null = true → s.zStore m c n k null d = s) ∧ (null = false → b = false → s.zStore m c n k null d = s.incf (F.ZTT_MB_INFO_DUP m)))) ∧
    (m < 512 → s.bf (F.ZTT_MB_CFG_EN m) = true → s.bf (F.ZTT_MB_CFG_DIR m) = false → d.length ≤ 64 →
      s.bf (F.ZTT_MB_CFG_FIRST m) = false ∨ (∀ b, (s.zBuf m).got = some (s.ztt.abs, b) → b = true ∧ null = false) →
      ∃ t : State, t.bf (F.ZTT_MB_STAT_VALID m) = true ∧ t.bf (F.ZTT_MB_STAT_NULL m) = null ∧ t.gf (F.ZTT_MB_STAT_NODE m) = n % 64 ∧
        t.gf (F.ZTT_MB_STAT_CYCLE m) = k % 64 ∧ t.gf (F.ZTT_MB_STAT_LEN m) = d.length ∧
        t.gf (F.ZTT_MB_STAT_SEQ m) = (s.gf (F.ZTT_MB_STAT_SEQ m) + 1) % 256 ∧ t.gf (F.ZTT_MB_STAT_CHAN m) = c % 2 ∧
        t.gf (F.ZTT_MB_INFO_MCOUNT m) = s.gf F.ZTT_CYCLE_MCOUNT ∧ (t.zBuf m).got = some (s.ztt.abs, null) ∧
        (∀ i, i < d.length → bits (t.reg (R.ZTT_MB_DATA m (i / 4))) (8 * (i % 4) + 7) (8 * (i % 4)) = (d.getD i 0).toNat) ∧
        (∀ j, j ≠ m → t.zBuf j = s.zBuf j) ∧ t = { s with regs := t.regs, ztt := { s.ztt with buf := t.ztt.buf, badBuf := t.ztt.badBuf } } ∧
        s.zStore m c n k null d = (if s.bf (F.ZTT_MB_CFG_QEN m) then
          t.zPost (s.gf F.ZTT_Q_CFG_RX_Q) (m + (s.gf (F.ZTT_MB_STAT_SEQ m) + 1) % 256 * 2 ^ 16 + k * 2 ^ 24) else t))) ∧
  (∀ (s u : State) (w : ZWin), Zat s u → u.ztt.win = some w →
    let j := ZttIs u { u.ztt with win := some { w with judged := true } }
    let foreign := w.kind = 1 ∧ w.owner ≠ u.zNode ∧ (u.zState = 3 ∨ u.zState = 4) ∧ w.en.any id = true
    (u.zNow < u.zAt (w.start + w.len) ∨ w.judged = true → Into .miss s u) ∧
    (u.zAt (w.start + w.len) ≤ u.zNow → w.judged = false → ¬ foreign → Into .miss s j) ∧
    (u.zAt (w.start + w.len) ≤ u.zNow → w.judged = false → foreign →
      let a := if w.en.getD 0 false ∧ !w.got.getD 0 false then j.incf (F.ZTT_NODE_MISS_MISS_A w.owner) else j
      let b := if w.en.getD 1 false ∧ !w.got.getD 1 false then a.incf (F.ZTT_NODE_MISS_MISS_B w.owner) else a
      Into .miss s (if w.got.any id then b else b.setPresent w.owner false))) ∧
  (∀ (s u : State) (m : Fin 512) (len : BitVec 7), Zat s u → s.safe = false →
    (64 < len.toNat ∨ u.bf (F.ZTT_MB_CFG_DIR m) = false → Into (.commit m len) s (u.sf F.ZTT_STAT_CFG_REJ 1)) ∧
    (len.toNat ≤ 64 → u.bf (F.ZTT_MB_CFG_DIR m) = true → Does (.commit m len) s (fun t =>
      (t.zBuf m).page = some (((List.range 16).flatMap (fun w => leBytes 4 (u.reg (R.ZTT_MB_DATA m w)))).take len.toNat) ∧
      (t.zBuf m).born = u.ztt.abs ∧ t.bf (F.ZTT_MB_STAT_VALID m) = true ∧ t.gf (F.ZTT_MB_STAT_LEN m) = len.toNat ∧
      t.gf (F.ZTT_MB_STAT_SEQ m) = (u.gf (F.ZTT_MB_STAT_SEQ m) + 1) % 256 ∧ t.gf (F.ZTT_MB_INFO_MCOUNT m) = u.gf F.ZTT_CYCLE_MCOUNT ∧
      t.ztt.badBuf.get (fun _ => false) m = false ∧ (∀ j, j ≠ m.val → t.zBuf j = u.zBuf j) ∧
      (∀ off, off ≠ R.ZTT_MB_STAT m → off ≠ R.ZTT_MB_INFO m → t.reg off = u.reg off) ∧
      t = { u with regs := t.regs, ztt := { u.ztt with buf := t.ztt.buf, badBuf := t.ztt.badBuf }, irq := t.irq })) ∧
    Does (.clear m) s (fun t => (t.zBuf m).page = none ∧ t.zContent m = none ∧ t.bf (F.ZTT_MB_STAT_VALID m) = false ∧
      (∀ j, j ≠ m.val → t.zBuf j = u.zBuf j) ∧ (∀ off, off ≠ R.ZTT_MB_STAT m → t.reg off = u.reg off) ∧
      t = { u with regs := t.regs, ztt := { u.ztt with buf := t.ztt.buf }, irq := t.irq }))

/-- R281, R290 to R299, R305, R307, R310, R382. States: 0 OFF, 1 LISTEN, 2 COLDSTART, 3 INTEGRATE, 4 RUN, 5 PASSIVE. -/
def Obligations.BusReferencesAndStates : Prop :=
  (∀ (s u : State), Zat s u → s.safe = false →
    (∀ b, u.bf F.ZTT_CTL_EN = b → Does (.zttEnable b) s (fun t => t.zState = u.zState ∧ t.ztt = u.ztt ∧ t.bf F.ZTT_CTL_EN = b ∧
      t = { u with regs := t.regs, irq := t.irq })) ∧
    (u.bf F.ZTT_CTL_EN = false → u.zState = 0 → Does (.zttEnable true) s (fun t => t.bf F.ZTT_CTL_EN = true ∧ t.zState = 1 ∧ t.zMaster = false ∧
      t.ztt.s = none ∧ t.ztt.listen = u.tick ∧ (u.zUsable (u.gf F.ZTT_CTL_START_MODE) = false → t.bf F.ZTT_STAT_CFG_REJ = true) ∧ ZttFrame u t)) ∧
    (u.bf F.ZTT_CTL_EN = true → Does (.zttEnable false) s (fun t => t.bf F.ZTT_CTL_EN = false ∧ t.zState = 0 ∧ t.ztt.tx = none ∧ t.ztt.s = none ∧
      t.ztt.buf = u.ztt.buf ∧ t.outbox = u.outbox ++ (match u.ztt.tx with | none => [] | some x => Cuts x) ∧ ZttFrame u t)) ∧
    (∀ m : BitVec 3, (u.zState = 4 → u.zMaster = true → Does (.switch m) s (fun t => t.ztt = { u.ztt with req := some m.toNat, reqSent := false } ∧
        t.zState = 4 ∧ t.gf F.ZTT_CTL_NEXT_MODE = m.toNat ∧ t.bf F.ZTT_CTL_EN = u.bf F.ZTT_CTL_EN ∧
        t = { u with regs := t.regs, ztt := t.ztt, irq := t.irq })) ∧
      (u.zState ≠ 4 ∨ u.zMaster = false → Does (.switch m) s (fun t => t.bf F.ZTT_STAT_CFG_REJ = true ∧ t.zState = u.zState ∧
        t = { u with regs := t.regs, irq := t.irq }))) ∧
    Does .zttBlockReset s (fun t => t.zState = 0 ∧ t.bf F.ZTT_CTL_EN = false ∧ t.ztt.buf = [] ∧ t.ztt.badBuf = [] ∧ t.ztt.win = none ∧ t.ztt.tx = none ∧
      t.ztt.s = none ∧ t.reg R.ZTT_CTL = setBits (u.reg R.ZTT_CTL) 0 0 0 ∧ t.reg R.ZTT_CFG = u.reg R.ZTT_CFG ∧ t.fenced 0x1C = false ∧
      (∀ k w, k < 8192 → w = R.ZTT_WIN_TIME k ∨ w = R.ZTT_WIN_CTL k → t.reg w = u.reg w) ∧
      (∀ m : Fin 512, t.reg (R.ZTT_MB_CFG m) = u.reg (R.ZTT_MB_CFG m) ∧ t.bf (F.ZTT_MB_STAT_VALID m) = false) ∧
      (∀ i : Fin 8, t.reg (R.ZTT_MODE i) = u.reg (R.ZTT_MODE i) ∧ t.reg (R.ZTT_MODE_LEN i) = u.reg (R.ZTT_MODE_LEN i)) ∧
      t = { u with regs := t.regs, ztt := t.ztt, evr := t.evr, outbox := t.outbox, fcu := { u.fcu with
        inReset := u.fcu.inReset.filter (· != 0x1C)
        tail := u.fcu.tail.filter (·.1 != 0x1C) ++ [(0x1C, u.tick + 250 * u.gf F.FCU_CFG_CASCADE_TAIL)] }, irq := t.irq })) ∧
  (∀ (s u : State), Zat s u →
    let v := u.zJudgeWin.zJudgeRef
    (u.zCycling = false ∨ u.zNow < u.zAt u.ztt.cycBt → Into .cycleStart s u) ∧
    (u.zCycling = true → u.zAt u.ztt.cycBt ≤ u.zNow →
      (v.zCycling = false → Into .cycleStart s v) ∧
      (v.zCycling = true →
        let c := v.gf F.ZTT_CYCLE_CYCLE + 1
        let at_ := v.zAt v.ztt.cycBt
        let switch := v.ztt.ncyc ≤ c ∧ v.bf F.ZTT_STAT_SWITCH_PEND = true
        let ann := v.gf F.ZTT_STAT_ANN_MODE
        ∃ b : State, b.ztt.s = some at_ ∧ b.ztt.abs = v.ztt.abs + 1 ∧ b.gf F.ZTT_CYCLE_WINDOW = 0 ∧ Loaded0 v b at_ ∧ b.ztt.win = none ∧
          b.gf F.ZTT_CYCLE_CYCLE = (if v.ztt.ncyc ≤ c then 0 else c % 64) ∧
          b.gf F.ZTT_CYCLE_MCOUNT = (if v.ztt.ncyc ≤ c then (v.gf F.ZTT_CYCLE_MCOUNT + 1) % 2 ^ 16 else v.gf F.ZTT_CYCLE_MCOUNT) ∧
          b.ztt.refSent = false ∧ b.ztt.refGot = none ∧ b.ztt.refJudged = false ∧ b.zState = v.zState ∧
          (¬ switch → b.gf F.ZTT_STAT_MODE = v.gf F.ZTT_STAT_MODE ∧ b.bf F.ZTT_STAT_SWITCH_PEND = v.bf F.ZTT_STAT_SWITCH_PEND ∧ b.ztt.req = v.ztt.req) ∧
          (switch → b.bf F.ZTT_STAT_SWITCH_PEND = false ∧ (v.ztt.reqSent = true → b.ztt.req = none) ∧
            (v.zUsable ann = true → b.gf F.ZTT_STAT_MODE = ann ∧ b.bf F.ZTT_INT_STAT_MODE_CHG = true) ∧
            (v.zUsable ann = false → b.gf F.ZTT_STAT_MODE = v.gf F.ZTT_STAT_MODE ∧ b.bf F.ZTT_STAT_CFG_REJ = true)) ∧
          b = { v with regs := b.regs, ztt := b.ztt } ∧
          Into .cycleStart s (if b.bf F.ZTT_Q_EN_CYC_QEN then b.zPost (b.gf F.ZTT_Q_CFG_CYC_Q)
            (b.gf F.ZTT_CYCLE_CYCLE + b.gf F.ZTT_STAT_MODE * 2 ^ 8 + b.gf F.ZTT_CYCLE_MCOUNT * 2 ^ 16) else b)))) ∧
  (∀ (s u : State), Zat s u →
    let t0 := u.zAt u.zGuard
    let due := u.ztt.s.isSome = true ∧ t0 ≤ u.zNow ∧ u.zNow < u.zAt (u.ztt.l0 - u.zGuard) ∧ u.gf F.ZTT_CYCLE_WINDOW = 0 ∧ u.ztt.refSent = false ∧
      u.ztt.tx = none ∧ u.zMayTx = true
    let who := (u.zState = 4 ∧ u.zMaster = true ∧ (u.zQuiet = false ∨ u.ztt.asBackup = true)) ∨ (u.zState = 2 ∧ u.ztt.back = none)
    let chans := (List.range 2).filter (fun c => u.zChan c)
    (¬ (due ∧ who) → Into .referenceSend s u) ∧
    (due → who → Does .referenceSend s (fun t =>
      t.ztt = { u.ztt with refSent := true, reqSent := u.ztt.req.isSome, missRun := 0, tx := t.ztt.tx, refW := t.ztt.refW } ∧
      (chans = [] → t.ztt.tx = none) ∧ (chans ≠ [] → ∃ x, t.ztt.tx = some x ∧ On x.chans = chans ∧ x.tss = t0 ∧ x.fin = t0 + (178 * u.zBit : Nat) ∧
        x.perm = u.zAt (u.ztt.l0 - u.zGuard)) ∧
      (∀ r, u.ztt.req = some r → t.bf F.ZTT_STAT_SWITCH_PEND = true ∧ t.gf F.ZTT_STAT_ANN_MODE = r % 8) ∧
      t.zState = u.zState ∧ t.zMaster = u.zMaster ∧
      t.outbox = u.outbox ++ Sent chans (fun _ => u.zFrame true false false 0 (u.zRefData false)) ∧
      t = { u with regs := t.regs, ztt := t.ztt, outbox := t.outbox, irq := t.irq }))) ∧
  (∀ (s u : State), Zat s u →
    let k := u.zPrio
    let able := u.zState = 4 ∧ u.bf F.ZTT_CFG_MASTER_EN = true ∧ u.zMaster = false ∧ u.ztt.s.isSome = true ∧ u.gf F.ZTT_CYCLE_WINDOW = 0 ∧
      u.ztt.refGot = none ∧ u.ztt.refSent = false ∧ u.zMayTx = true ∧ u.zAt (u.zGuard + 8 * k + 32) ≤ u.zNow ∧
      (∀ e, u.ztt.edge = some e → (e : Int) * 65536 < u.ztt.s.getD 0) ∧ 2 * u.zGuard + 210 + 8 * k ≤ u.ztt.l0 ∧
      u.zNow < u.zAt (u.ztt.l0 - u.zGuard - 178) + u.zBit
    (¬ able → Into .backupReference s u) ∧
    (able → Does .backupReference s (fun t => t.zMaster = true ∧ t.zState = 4 ∧
      t.ztt = { u.ztt with asBackup := true, refSent := true, reqSent := u.ztt.req.isSome, missRun := 0, lastPoll := List.replicate 8 63,
                           tx := t.ztt.tx, refW := t.ztt.refW } ∧
      t.zBit = u.zMasterBit.zBit ∧ t.outbox = u.outbox ++ Sent ((List.range 2).filter (fun c => u.zChan c)) (fun _ => u.zFrame true false false 0 (u.zRefData true)) ∧
      t = { u with regs := t.regs, ztt := t.ztt, outbox := t.outbox, irq := t.irq }))) ∧
  (∀ (s u : State) (o : ZRx), Zat s u →
    let v := (ZValidIs u o).incf (F.ZTT_CNT_COUNT o.chan 4)
    let w := zCycleStart v
    let leads := (w.zState = 4 ∧ w.zMaster = true ∧ w.zQuiet = false) ∨ (w.zState = 2 ∧ w.ztt.back = none)
    (u.zChan o.chan = false ∨ u.vioA = false ∨ o.valid = false ∨ o.isRef = false ∨ o.node = u.zNode ∨ u.zState = 0 → Into (.referenceReceived o) s u) ∧
    (u.zChan o.chan = true → u.vioA = true → o.valid = true → o.isRef = true → o.node ≠ u.zNode → u.zState ≠ 0 →
      (u.zState = 5 → Into (.referenceReceived o) s v) ∧
      (∀ c b, u.zState ≠ 5 → w.ztt.refGot = some (c, b) →
        (c = o.chan.val ∨ b = o.bytes.take (o.bytes.length - 4) → Into (.referenceReceived o) s w) ∧
        (c ≠ o.chan.val → b ≠ o.bytes.take (o.bytes.length - 4) →
          (o.chan = 1 ∨ w.zJoinable o = false → Into (.referenceReceived o) s (w.incf (F.ZTT_CNT_G_COUNT 8))) ∧
          (o.chan = 0 → w.zJoinable o = true → Does (.referenceReceived o) s (fun t => Adopted w t o ∧ t.zState = w.zState)))) ∧
      (u.zState ≠ 5 → w.ztt.refGot = none →
        (w.zJoinable o = false → Into (.referenceReceived o) s w) ∧
        (w.zJoinable o = true → leads → w.zPrio ≤ o.prio → Into (.referenceReceived o) s (w.incf (F.ZTT_CNT_G_COUNT 8))) ∧
        (w.zJoinable o = true → ¬ leads ∨ o.prio < w.zPrio →
          Does (.referenceReceived o) s (fun t => Adopted w t o ∧ t.zMaster = false ∧ t.ztt.asBackup = false ∧ t.ztt.req = none ∧
            (w.zState = 4 → t.zState = 4) ∧ (w.zState = 1 ∨ w.zState = 2 → t.zState = 3 ∧ t.ztt.first = some (o.cycle, o.mcount)) ∧
            (w.zState = 3 →
              let nc := (w.zMode o.mode w.zNow).1
              let follows := ∃ c m, w.ztt.first = some (c, m) ∧ ((c + 1 < nc ∧ o.cycle = c + 1 ∧ o.mcount = m) ∨
                (nc ≤ c + 1 ∧ o.cycle = 0 ∧ o.mcount = (m + 1) % 65536))
              (follows → t.zState = 4) ∧ (¬ follows → t.zState = 3 ∧ t.ztt.first = some (o.cycle, o.mcount))) ∧
            (u.bf F.ZTT_Q_EN_CYC_QEN = false → ZttFrame u t)))))) ∧
  (∀ (s u : State), Zat s u →
    let passed := u.ztt.s.isSome = true ∧ u.zState = 4 ∧ u.ztt.refJudged = false ∧ u.ztt.refSent = false ∧ u.ztt.refGot = none ∧ u.zAt u.ztt.l0 ≤ u.zNow
    (¬ passed → Into .refMiss s u) ∧
    (passed → u.ztt.missRun + 1 < u.zMissMax → Into .refMiss s
      (ZttIs ((u.incf (F.ZTT_CNT_G_COUNT 6)).sf F.ZTT_INT_STAT_REF_MISS 1) { u.ztt with refJudged := true, missRun := u.ztt.missRun + 1 })) ∧
    (passed → u.zMissMax ≤ u.ztt.missRun + 1 → Does .refMiss s (fun t => t.zState = 1 ∧ t.zMaster = false ∧ t.ztt.s = none ∧ t.ztt.tx = none ∧
      t.bf F.ZTT_INT_STAT_REF_MISS = true ∧ t.ztt.listen = u.tick ∧ ZttFrame u t))) ∧
  (∀ (s u : State), Zat s u →
    let due := (u.ztt.listen : Int) * 65536 + (2 * bits (u.reg (R.ZTT_MODE_LEN (u.gf F.ZTT_CTL_START_MODE))) 15 0 * u.zBit : Nat)
    let able := u.zState = 1 ∧ u.bf F.ZTT_CFG_COLD_EN = true ∧ u.bf F.ZTT_CFG_MASTER_EN = true ∧ u.zUsable (u.gf F.ZTT_CTL_START_MODE) = true ∧
      u.zMayTx = true ∧ due ≤ u.zNow
    (¬ able → Into .coldstart s u) ∧
    (able → Does .coldstart s (fun t => t.zState = 2 ∧ t.gf F.ZTT_CYCLE_CYCLE = 0 ∧ t.gf F.ZTT_CYCLE_MCOUNT = 0 ∧
      t.gf F.ZTT_STAT_MODE = u.gf F.ZTT_CTL_START_MODE ∧ t.ztt.refSent = true ∧ t.ztt.back = none ∧ t.ztt.intact = 0 ∧
      t.ztt.s = some (u.zNow + t.zBit - (u.zGuard * t.zBit : Nat)) ∧ t.zBit = u.zMasterBit.zBit ∧
      (u.bf F.ZTT_Q_EN_CYC_QEN = false → ZttFrame u t)))) ∧
  (∀ (s u : State) (c : Fin 2), Zat s u →
    (u.ztt.tx = none → Into (.readbackMismatch c) s u) ∧
    (∀ x, u.ztt.tx = some x →
      (x.chans.getD c false = false ∨ u.zNow < x.tss ∨ (u.zState ≠ 2 ∧ x.mism.isSome = true) → Into (.readbackMismatch c) s u) ∧
      (x.chans.getD c false = true → x.tss ≤ u.zNow →
        (u.zState = 2 → Into (.readbackMismatch c) s ({ ZttIs (u.incf (F.ZTT_CNT_G_COUNT 4)) { u.ztt with
          tx := none, intact := 0, s := none, back := some (u.zBackoff x.tss) } with outbox := u.outbox ++ Cuts x } : State)) ∧
        (u.zState ≠ 2 → x.mism = none → let z := ZttIs u { u.ztt with tx := some { x with mism := some c.val } }
          Into (.readbackMismatch c) s (if u.zState = 4 then (z.incf (F.ZTT_CNT_G_COUNT 5)).sf F.ZTT_INT_STAT_RB_ERR 1 else z))))) ∧
  (∀ (s u : State), Zat s u →
    (u.ztt.back = none → Into .backoffEnd s u) ∧
    (∀ x, u.ztt.back = some x →
      (u.zState ≠ 2 ∨ u.zNow < x ∨ u.zMayTx = false → Into .backoffEnd s u) ∧
      (u.zState = 2 → x ≤ u.zNow → u.zMayTx = true → Does .backoffEnd s (fun t => t.ztt.back = none ∧ t.ztt.refSent = true ∧ t.zState = 2 ∧
        t.gf F.ZTT_CYCLE_CYCLE = 0 ∧ t.ztt.intact = 0 ∧ (u.bf F.ZTT_Q_EN_CYC_QEN = false → ZttFrame u t))))) ∧
  (∀ (s u : State) (c : Fin 2), Zat s u →
    (u.vioA = false → Into (.rxdFallingEdge c) s u) ∧
    (u.vioA = true →
      (u.zChan c = false → Into (.rxdFallingEdge c) s (ZttIs u { u.ztt with edge := some u.tick })) ∧
      (u.zChan c = true → u.zState ≠ 2 ∨ u.ztt.back = none → Into (.rxdFallingEdge c) s (ZttIs u { u.ztt with edge := some u.tick, listen := u.tick })) ∧
      (u.zChan c = true → u.zState = 2 → u.ztt.back.isSome = true → Does (.rxdFallingEdge c) s (fun t => t.zState = 1 ∧ t.ztt.back = none ∧
        t.ztt.s = none ∧ t.ztt.edge = some u.tick ∧ t.ztt.listen = u.tick ∧ ZttFrame u t))))

/-- R99, R316 to R321, R331, R332, R334. Ring arithmetic is that of R316. A doorbell is a wake event (R386). -/
def Obligations.DoorbellsFetchesAndSignals : Prop :=
  (∀ (s : State) (q : PairId) (idx : BitVec 16), Runs s →
    let i := q.index
    let p := s.pairOf i
    let u := s.wake 3
    let n := 2 * 2 ^ p.nSq
    let cur := (p.sqP + 65536 - p.sqC) % 65536 % n
    let new := (idx.toNat + 65536 - p.sqC) % 65536 % n
    (p.state ≠ 1 → Into (.sqDoorbell q idx) s u) ∧
    (p.state = 1 → cur ≤ new → new ≤ 2 ^ p.nSq →
      (idx.toNat = p.sqP → Into (.sqDoorbell q idx) s u) ∧
      (idx.toNat ≠ p.sqP → Into (.sqDoorbell q idx) s (u.setPair i { p with sqP := idx.toNat, gen := (p.gen + 1) % 256 }))) ∧
    (p.state = 1 → new < cur ∨ 2 ^ p.nSq < new → Into (.sqDoorbell q idx) s ((u.incf F.QM_CNT_BAD_DB_COUNT).pairError i 0x1D none))) ∧
  (∀ (s : State) (q : PairId) (idx : BitVec 16), Runs s →
    let i := q.index
    let p := s.pairOf i
    let u := s.wake 3
    let n := 2 * 2 ^ p.nCq
    let held := (p.cqP + 65536 - p.cqC) % 65536 % n
    let new := (idx.toNat + 65536 - p.cqC) % 65536 % n
    (p.state = 0 ∨ p.state = 4 → Into (.cqDoorbell q idx) s u) ∧
    (p.state ≠ 0 → p.state ≠ 4 → new ≤ held → Into (.cqDoorbell q idx) s (u.setPair i { p with cqC := idx.toNat })) ∧
    (p.state ≠ 0 → p.state ≠ 4 → held < new → Into (.cqDoorbell q idx) s ((u.incf F.QM_CNT_BAD_DB_COUNT).pairError i 0x1D none))) ∧
  (∀ (s : State) (i st : Nat) (fail : Option (Nat × Nat)), PairFailed s (s.pairError i st fail) i st ∧
    (fail = none ∨ (s.pairOf i).cqFree = 0 → ((s.pairError i st fail).pairOf i).cqP = (s.pairOf i).cqP) ∧
    (fail.isSome = true → (s.pairOf i).cqFree ≠ 0 → ((s.pairError i st fail).pairOf i).cqP = idxNext (s.pairOf i).cqP)) ∧
  (∀ (s : State) (q : PairId), Runs s → let p := s.pairOf q.index
    (p.state = 1 → Into (.disable q) s (s.setPair q.index { p with state := 2 })) ∧ (p.state ≠ 1 → Into (.disable q) s s)) ∧
  (∀ (s : State) (q : PairId), s.stopped = false →
    let i := q.index
    let p := s.pairOf i
    let u := if (p.kind = 1 ∨ p.kind = 2) ∧ p.d2h = [] then s.flushBufs i p.ents else s
    let r := u.pairOf i
    let ended := r.ents = [] ∧ r.tsWait = [] ∧ r.d2h = [] ∧ (q = .admin → ∀ c ∈ u.qm.cmds, c.fromRegs = true)
    (s.qmRuns = false ∨ p.state ≠ 2 ∨ p.sqP ≠ p.sqC → Into (.drainDone q) s s) ∧
    (s.qmRuns = true → p.state = 2 → p.sqP = p.sqC →
      (ended → Into (.drainDone q) s (u.setPair i { r with state := 3 })) ∧ (¬ ended → Into (.drainDone q) s u))) ∧
  (∀ (s : State) (i : Nat), s.flushBufs i [] = s ∧ ∀ e es,
    ((s.pairOf i).cqFree = 0 → s.flushBufs i (e :: es) = s) ∧
    ((s.pairOf i).cqFree ≠ 0 → s.flushBufs i (e :: es) = ((s.setPair i { s.pairOf i with ents := es }).cqWrite i
      (complBytes e.idx (leNat (sliceB e.data 2 2)) 0x19 0 0 0 0 [])).flushBufs i es)) ∧
  (∀ (s : State) (q : PairId), s.stopped = false →
    let p := s.pairOf q.index
    let l := s.hostB (p.sqBase + p.sqC % 2 ^ p.nSq * entSize p.sqWide) (entSize p.sqWide)
    let able := (p.state = 1 ∨ p.state = 2) ∧ p.sqP ≠ p.sqC ∧ s.qmRuns = true ∧ s.dmaOk = true
    Into (.sqFetchReturn q false) s s ∧
    (¬ able → Into (.sqFetchReturn q true) s s) ∧
    (able →
      (∀ i, q = .pair i → Into (.sqFetchReturn q true) s
        (s.setPair i { p with sqC := idxNext p.sqC, idxDue := true, ents := p.ents ++ [⟨p.sqC, l⟩] })) ∧
      (q = .admin → let u := s.setPair admPair { p with sqC := idxNext p.sqC, idxDue := true }
        Into (.sqFetchReturn q true) s (QmIs u { u.qm with cmds := s.qm.cmds ++ [⟨false, p.sqC, l⟩] })))) ∧
  (∀ (s : State) (q : PairId) (tmo : Bool), s.stopped = false →
    let i := q.index
    let p := s.pairOf i
    let st := if tmo then 0x16 else 0x17
    let counted := if tmo then s.incf F.QM_CNT_HOST_TMO_COUNT else s.incf F.QM_CNT_HOST_ERR_COUNT
    let able := (p.state = 1 ∨ p.state = 2) ∧ s.qmRuns = true ∧ s.dmaOk = true
    (¬ able → Into (.hostTimeout q tmo) s s) ∧
    (able →
      (∀ e es, p.ents = e :: es → Into (.hostTimeout q tmo) s (counted.pairError i st (some (e.idx, leNat (sliceB e.data 2 2))))) ∧
      (p.ents = [] → Into (.hostTimeout q tmo) s (counted.useFree.pairError i st (some (p.sqC, counted.freeBits.toNat % 65536)))))) ∧
  (∀ (s : State) (q : PairId), s.stopped = false →
    let i := q.index
    let p := s.pairOf i
    let sent := (s.hostW p.idxAddr (leBytes 2 p.cqP ++ leBytes 2 p.sqC)).setPair i { p with idxDue := false, batch := false, idxAt := s.tick }
    let late := p.oldest + 250 * p.coalUs ≤ s.tick
    let goes := s.qmRuns = true ∧ s.postsGo = true
    let due := goes ∧ p.idxDue = true ∧ (p.batch = true ∨ p.idxAt = 0 ∨ p.idxAt + 250 ≤ s.tick)
    (¬ due → Into (.indexWord q) s s) ∧
    (due → (p.unsig = 0 ∨ (p.unsig < max 1 p.coalCnt ∧ ¬ late)) → Into (.indexWord q) s sent) ∧
    (due → p.unsig ≠ 0 → (max 1 p.coalCnt ≤ p.unsig ∨ late) → Into (.indexWord q) s (sent.signalPair i)) ∧
    (goes → p.unsig ≠ 0 → p.idxDue = false → late → Into (.coalesceTimeout q) s (s.signalPair i)) ∧
    (¬ goes ∨ p.unsig = 0 ∨ p.idxDue = true ∨ ¬ late → Into (.coalesceTimeout q) s s)) ∧
  (∀ (s : State) (i : Nat), let p := s.pairOf i
    let u := s.setPair i { p with unsig := 0 }
    let set := { s.irq with stat := s.irq.stat ||| 2 ^ p.vector }
    let masked := s.qm.funcMask = true ∨ bit s.qm.vecMask p.vector = true ∨ s.bf F.QM_PCIE_STAT_BME = false
    (p.noInt = true → s.signalPair i = u) ∧
    (p.noInt = false →
      (s.msixMode = false → s.signalPair i = { u with irq := set }) ∧
      (s.msixMode = true → masked → s.signalPair i = { u with irq := { set with pend := s.irq.pend ||| 2 ^ p.vector } }) ∧
      (s.msixMode = true → ¬ masked → s.signalPair i = { u with irq := { set with sent := s.irq.sent ++ [p.vector] } })))

/-- R322, R323. STATUS 13H RANGE, 1AH QUEUE_EXISTS, 1BH BUSY, 1CH NO_QUEUE. -/
def Obligations.AdminCommandsExecute : Prop :=
  (∀ (s : State) (c : Instr) (op : Nat),
    (c, op) ∈ [(Instr.createPair, 1), (.destroyPair, 2), (.resetQueue, 3), (.createIq, 4), (.destroyIq, 5), (.query, 6), (.setIrq, 7)] →
    s.stopped = false →
    (s.qm.cmds = [] ∨ s.qmRuns = false → Into c s s) ∧
    (∀ d rest, s.qm.cmds = d :: rest → (d.fromRegs = false ∧ (s.pairOf admPair).cqFree = 0) ∨ fieldB d.data 0 1 ≠ op → Into c s s)) ∧
  (∀ (s : State) (c : AdmCmd) (rest : List AdmCmd) (st r : Nat), s.qm.cmds = c :: rest →
    let u := QmIs s { s.qm with cmds := rest }
    (c.fromRegs = true → s.admDone c st r = u.sfs [(F.QM_CMD_RES_VALID, 1), (F.QM_CMD_RES_TAG, s.gf F.QM_CMD_RES_TAG + 1),
      (F.QM_CMD_RES_STATUS, st), (F.QM_CMD_RES_W_WORD 0, r), (F.QM_CMD_RES_W_WORD 1, r / 2 ^ 32)]) ∧
    (c.fromRegs = false → (s.pairOf admPair).state = 1 ∨ (s.pairOf admPair).state = 2 → s.admDone c st r = u.cqWrite admPair
      (complBytes c.idx (fieldB c.data 2 2) st 3 0 r 0 [])) ∧
    (c.fromRegs = false → (s.pairOf admPair).state ≠ 1 → (s.pairOf admPair).state ≠ 2 → s.admDone c st r = u)) ∧
  (∀ (s : State) (c : AdmCmd) (rest : List AdmCmd) (n : Nat), s.qm.cmds = c :: rest → s.qmRuns = true →
    c.fromRegs = true ∨ (s.pairOf admPair).cqFree ≠ 0 →
    (1 ≤ fieldB c.data 0 1 → fieldB c.data 0 1 ≤ 7 → s.admSkip (n + 1) = s) ∧
    (fieldB c.data 0 1 = 0 ∨ 7 < fieldB c.data 0 1 → s.admSkip (n + 1) = (s.admDone c 0x13 0).admSkip n)) ∧
  (∀ (s : State) (c : AdmCmd), Front s c 0x01 →
    let l := c.data
    let i := (qidPair (fieldB l 4 2)).getD 0
    (pairParamsOk l = false → Into .createPair s (s.admDone c 0x13 0)) ∧
    (pairParamsOk l = true → (s.pairOf i).state ≠ 0 → Into .createPair s (s.admDone c 0x1A 0)) ∧
    (pairParamsOk l = true → (s.pairOf i).state = 0 → Into .createPair s ((s.setPair i { Pair.none with
      state := 1, kind := fieldB l 6 1, nSq := fieldB l 7 1 % 16, nCq := fieldB l 7 1 / 16, sqBase := fieldB l 8 8, cqBase := fieldB l 16 8,
      idxAddr := fieldB l 24 8, sqWide := bit (fieldB l 32 1) 0, cqWide := bit (fieldB l 32 1) 1, vector := fieldB l 33 1 % 64,
      noInt := bit (fieldB l 33 1) 7, coalCnt := fieldB l 34 2, coalUs := fieldB l 36 2 }).admDone c 0 0))) ∧
  (∀ (s : State) (c : AdmCmd) (e : Nat),
    (Front s c 0x02 → s.pairCheck c.data (zeroB c.data 6 64) [3, 4] = .error e → Into .destroyPair s (s.admDone c e 0)) ∧
    (Front s c 0x03 → s.pairCheck c.data (zeroB c.data 6 64) [3, 4] = .error e → Into .resetQueue s (s.admDone c e 0)) ∧
    (Front s c 0x06 → fieldB c.data 6 1 ≠ 1 → s.pairCheck c.data (zeroB c.data 6 64) [1, 2, 3, 4] = .error e → Into .query s (s.admDone c e 0)) ∧
    (Front s c 0x07 → s.pairCheck c.data (zeroB c.data 6 33 && zeroB c.data 38 64 && !bit (fieldB c.data 33 1) 6) [1, 2, 3, 4] = .error e →
      Into .setIrq s (s.admDone c e 0))) ∧
  (∀ (s : State) (c : AdmCmd) (i : Nat),
    (Front s c 0x02 → s.pairCheck c.data (zeroB c.data 6 64) [3, 4] = .ok i →
      Into .destroyPair s (((s.setPair i Pair.none).sweepQueueLost (pairQueue i)).admDone c 0 0)) ∧
    (Front s c 0x03 → s.pairCheck c.data (zeroB c.data 6 64) [3, 4] = .ok i →
      Into .resetQueue s ((s.setPair i { s.pairOf i with
        state := 1, err := 0, sqP := 0, sqC := 0, cqP := 0, cqC := 0, ents := [], d2h := [], tsWait := [], unsig := 0, idxDue := false,
        batch := false }).admDone c 0 0)) ∧
    (Front s c 0x06 → fieldB c.data 6 1 ≠ 1 → s.pairCheck c.data (zeroB c.data 6 64) [1, 2, 3, 4] = .ok i → Into .query s
      (s.admDone c 0 ((s.pairOf i).state + (s.pairOf i).gen * 2 ^ 8 + (s.pairOf i).sqC * 2 ^ 16 + (s.pairOf i).sqP * 2 ^ 32 + (s.pairOf i).cqP * 2 ^ 48))) ∧
    (Front s c 0x07 → s.pairCheck c.data (zeroB c.data 6 33 && zeroB c.data 38 64 && !bit (fieldB c.data 33 1) 6) [1, 2, 3, 4] = .ok i →
      Into .setIrq s ((s.setPair i { s.pairOf i with
        vector := fieldB c.data 33 1 % 64, noInt := bit (fieldB c.data 33 1) 7, coalCnt := fieldB c.data 34 2,
        coalUs := fieldB c.data 36 2 }).admDone c 0 0))) ∧
  (∀ (s : State) (l : List Byte) (z : Bool) (allow : List Nat), let q := fieldB l 4 2
    (4096 ≤ q → q ≠ 0xFFFF → s.pairCheck l z allow = .error 0x13) ∧
    (∀ i, qidPair q = some i →
      (fieldB l 1 1 ≠ 0 ∨ z = false → s.pairCheck l z allow = .error 0x13) ∧
      (fieldB l 1 1 = 0 → z = true → (s.pairOf i).state = 0 → s.pairCheck l z allow = .error 0x1C) ∧
      (fieldB l 1 1 = 0 → z = true → (s.pairOf i).state ≠ 0 → (s.pairOf i).state ∉ allow → s.pairCheck l z allow = .error 0x1B) ∧
      (fieldB l 1 1 = 0 → z = true → (s.pairOf i).state ≠ 0 → (s.pairOf i).state ∈ allow → s.pairCheck l z allow = .ok i))) ∧
  (∀ (s : State) (c : AdmCmd), Front s c 0x04 →
    let l := c.data
    let q := fieldB l 4 2
    let ev := fieldB l 6 1
    let n := fieldB l 7 1
    let wide := fieldB l 32 1
    let size := 2 ^ n * (if wide = 1 then 64 else 32)
    let fits := q < 4096 ∧ fieldB l 1 1 = 0 ∧ ev ≤ 1 ∧ 4 ≤ n ∧ n ≤ 15 ∧ wide ≤ 1 ∧ ¬ (ev = 1 ∧ wide = 1) ∧ fieldB l 8 8 % size = 0 ∧
      fieldB l 8 8 + size ≤ s.usable ∧ zeroB l 16 32 = true ∧ zeroB l 33 64 = true
    (¬ fits → Into .createIq s (s.admDone c 0x13 0)) ∧
    (fits → (s.iq q).made = true → Into .createIq s (s.admDone c 0x1A 0)) ∧
    (fits → (s.iq q).made = false → Into .createIq s
      ((s.setIq q { made := true, event := ev == 1, log2N := n, base := fieldB l 8 8, wide := wide == 1, p := 0, c := 0 }).admDone c 0 0))) ∧
  (∀ (s : State) (c : AdmCmd), let l := c.data
    let q := fieldB l 4 2
    (Front s c 0x05 → (q < 4096 ∧ fieldB l 1 1 = 0 ∧ zeroB l 6 64 = true → (s.iq q).made = false → Into .destroyIq s (s.admDone c 0x1C 0)) ∧
      (4096 ≤ q ∨ fieldB l 1 1 ≠ 0 ∨ zeroB l 6 64 = false → Into .destroyIq s (s.admDone c 0x13 0)) ∧
      (q < 4096 ∧ fieldB l 1 1 = 0 ∧ zeroB l 6 64 = true → (s.iq q).made = true → Into .destroyIq s
        ((((s.setIq q Iq.none).endQWaits q 0x12).sweepQueueLost q).admDone c 0 (ringHeld (s.iq q).log2N (s.iq q).p (s.iq q).c)))) ∧
    (Front s c 0x06 → fieldB l 6 1 = 1 →
      (4096 ≤ q ∨ fieldB l 1 1 ≠ 0 ∨ zeroB l 7 64 = false → Into .query s (s.admDone c 0x13 0)) ∧
      (q < 4096 → fieldB l 1 1 = 0 → zeroB l 7 64 = true →
        ((s.iq q).made = false → Into .query s (s.admDone c 0x1C 0)) ∧
        ((s.iq q).made = true → Into .query s (s.admDone c 0 (1 + ringHeld (s.iq q).log2N (s.iq q).p (s.iq q).c * 2 ^ 16))))))

/-- R313, R314, R324 to R328, R333 to R335, R390, R422. -/
def Obligations.HostTransfersAndTheLink : Prop :=
  (∀ (s : State) (i : Fin 4096), s.stopped = false →
    let p := s.pairOf i
    let able := p.kind = 0 ∧ (p.state = 1 ∨ p.state = 2) ∧ s.qmRuns = true ∧ s.dmaOk = true ∧ s.yrdFenced = false ∧ p.tsWait.length < p.cqFree
    (¬ able ∨ p.ents = [] → Into (.txEntry i) s s) ∧
    (∀ e es, able → p.ents = e :: es →
      let u := s.setPair i { p with ents := es }
      let done := fun (v : State) (st len : Nat) => v.cqWrite i (complBytes e.idx (fieldB e.data 2 2) st 3 len 0 0 [])
      (txEntryOk e.data p.cqWide = false → Into (.txEntry i) s (done (u.incf F.QM_CNT_BAD_ENTRY_COUNT) 0x14 0)) ∧
      (txEntryOk e.data p.cqWide = true →
        (s.txGather e.data = .fail 0x15 → Into (.txEntry i) s ((u.incf F.QM_CNT_CHAIN_LOOP_COUNT).pairError i 0x15 (some (e.idx, fieldB e.data 2 2)))) ∧
        (∀ st, st ≠ 0x15 → s.txGather e.data = .fail st → Into (.txEntry i) s (done (u.incf F.QM_CNT_BAD_ENTRY_COUNT) st 0)) ∧
        (∀ d, s.txGather e.data = .data d →
          let o := bits (fieldB e.data 6 1) 3 0
          let claim := bit (fieldB e.data 1 1) 1 = true ∧ (s.port o).tsq.length < 64
          let w : TsWait := ⟨o, s.gf (F.ETH_TSQ_STAT_NEXT_TAG o), e.idx, fieldB e.data 2 2, d.length⟩
          let h := (if claim then u.setPair i { p with ents := es, tsWait := p.tsWait ++ [w] } else u).hostFrame e.data d
          let v := h.1.setPair i { h.1.pairOf i with tsWait := (h.1.pairOf i).tsWait.filter (fun x => x.idx != e.idx) }
          (h.2.2.isSome = true → Into (.txEntry i) s h.1) ∧
          (h.2.2 = none → Into (.txEntry i) s (done v h.2.1 (if h.2.1 < 0x10 then d.length else 0))))))) ∧
  (∀ (s : State) (l d : List Byte),
    let f := { Frame.blank 9 d with pcp := tagged d, pri := if tagged d then tciOf d / 2 ^ 13 else 0 }
    let o := bits (fieldB l 6 1) 3 0
    let c := bits (fieldB l 6 1) 6 4
    (s.newFrame f false = none → s.hostFrame l d = (s, 0x11, none)) ∧
    (∀ u h, s.newFrame f false = some (u, h) →
      (bit (fieldB l 1 1) 2 = false → s.hostFrame l d = (u.classify h, 0, none)) ∧
      (bit (fieldB l 1 1) 2 = true → u.queueFull o c (cellsOf d.length) = true →
        s.hostFrame l d = ((if 65536 ≤ u.yrd.toks.length then u.incf F.YRD_CNT_NOTOKEN_COUNT else u).dropRef h, 0x12, none)) ∧
      (bit (fieldB l 1 1) 2 = true → u.queueFull o c (cellsOf d.length) = false → bit (fieldB l 1 1) 1 = false →
        s.hostFrame l d = (u.toQueue { frame := h, input := 9, out := o, tc := c, fq := none, tick := u.tick, ts := none, hash := 0 }, 0, none)))) ∧
  (∀ (s : State), s.stopped = false →
    (s.qmRuns = false ∨ s.dmaOk = false ∨ s.sch.sel9 = none → Into .p9Frame s s) ∧
    (∀ k, s.qmRuns = true → s.dmaOk = true → s.sch.sel9 = some k →
      (s.frame k.frame = none → Into .p9Frame s { s with sch := { s.sch with sel9 := none } }) ∧
      (∀ f, s.frame k.frame = some f →
        (f.badLink.isSome = true → Into .p9Frame s (s.linkErr k.frame)) ∧
        (f.badLink = none →
          let i := s.gf (F.QM_P9_MAP_BASE k.tc) + k.hash % 256 % 2 ^ s.gf (F.QM_P9_MAP_SIZE k.tc)
          let ok := s.bf (F.QM_P9_MAP_EN k.tc) = true ∧ i < 4096 ∧ (s.pairOf i).kind = 1 ∧ (s.pairOf i).state = 1
          let u := (s.fetchFor i f.data.length 160).cleanBufs i
          let p := u.pairOf i
          let b := fillBufs p.ents p.cqFree f.data
          let st := if f.bad ≠ [] then 0x18 else if b.2 = [] then 0 else 0x10
          let z := ((if f.bad = [] then u else u.raise 0x18 kUE 0).putBufs i st
            (f.data.length + (if f.input < 8 ∨ f.input = 9 then f.input else 8) * 2 ^ 16 + k.tc * 2 ^ 20 + f.flow * 2 ^ 32 + f.fver * 2 ^ 48) 0
            (if p.cqWide = true ∧ f.input < 8 then leBytes 32 f.stamp.toNat else []) b.1).endP9 k f.data.length
          (¬ ok → Into .p9Frame s ((s.endP9 k f.data.length).incf F.QM_CNT_RX_DROP_COUNT)) ∧
          (ok → p.ents = [] ∨ p.cqFree = 0 → Into .p9Frame s ((u.endP9 k f.data.length).incf F.QM_CNT_RX_DROP_COUNT)) ∧
          (ok → p.ents ≠ [] → p.cqFree ≠ 0 → Into .p9Frame s (if b.2 = [] then z else z.incf F.QM_CNT_RX_NOBUF_COUNT)))))) ∧
  (∀ (s : State) (i : Fin 4096), s.stopped = false →
    let p := s.pairOf i
    let able := p.kind = 2 ∧ (p.state = 1 ∨ p.state = 2) ∧ s.qmRuns = true ∧ s.dmaOk = true ∧ s.dramUp = true ∧ s.dramIdle cQM = true ∧ p.cqFree ≠ 0
    (¬ able ∨ p.d2h = [] → Into (.d2hRequest i) s s) ∧
    (∀ r rs, able → p.d2h = r :: rs →
      (s.d2hOk r = false → Into (.d2hRequest i) s ((s.setPair i { p with d2h := rs }).cqWrite i (complBytes 0 0 0x14 3 0 0 (fieldB r 16 8) []))) ∧
      (s.d2hOk r = true →
        let len := fieldB r 8 3
        let u := (s.fetchFor i len (2 ^ p.nSq)).cleanBufs i
        let q := u.pairOf i
        let v := (u.dramAsk cQM (ceilDiv len 64)).dramScan (fieldB r 0 8) len
        let w := v.1.setPair i { v.1.pairOf i with d2h := rs }
        let b := fillBufs q.ents q.cqFree (w.rdB (fieldB r 0 8) len)
        (q.ents = [] → q.state = 2 → q.sqP = q.sqC → Into (.d2hRequest i) s (u.setPair i { q with d2h := rs })) ∧
        (q.ents = [] → q.state ≠ 2 ∨ q.sqP ≠ q.sqC → Into (.d2hRequest i) s u) ∧
        (q.ents ≠ [] → q.cqFree = 0 → Into (.d2hRequest i) s u) ∧
        (q.ents ≠ [] → q.cqFree ≠ 0 →
          Into (.d2hRequest i) s (w.putBufs i (if v.2.isSome then 0x18 else if b.2 = [] then 0 else 0x10) len (fieldB r 16 8) [] b.1))))) ∧
  (∀ (s : State) (k : FrKind), s.stopped = false → Does (.functionReset k) s (fun t => HostGone s t ∧ t.gctl = s.gctl ∧
    (k = .linkFall → t.bf F.QM_PCIE_STAT_LINK_UP = false ∧ t.bf F.QM_PCIE_STAT_BME = s.bf F.QM_PCIE_STAT_BME ∧ t.qm.vecMask = s.qm.vecMask) ∧
    (k ≠ .linkFall → t.bf F.QM_PCIE_STAT_LINK_UP = s.bf F.QM_PCIE_STAT_LINK_UP ∧ t.bf F.QM_PCIE_STAT_BME = false ∧
      t.bf F.QM_PCIE_STAT_MSIX_EN = false ∧ t.qm.vecMask = 2 ^ 64 - 1 ∧ t.qm.funcMask = false ∧ t.irq.pend = 0))) ∧
  (∀ (s : State), (s.stopped = true → ∀ low, Into (.perst low) s { s with gctl := { s.gctl with perst := low } }) ∧
    (s.stopped = false → Into (.perst s.gctl.perst) s s ∧
      (s.gctl.perst = true → Into (.perst false) s { s with gctl := { s.gctl with perst := false } }) ∧
      (s.gctl.perst = false → Does (.perst true) s (fun t => HostGone s t ∧ t.gctl = { s.gctl with perst := true } ∧
        t.bf F.QM_PCIE_STAT_LINK_UP = false ∧ t.bf F.QM_PCIE_STAT_BME = false ∧ t.qm.vecMask = 2 ^ 64 - 1 ∧ t.irq.pend = 0)))) ∧
  (∀ (s : State), s.stopped = false →
    (s.gctl.perst = true ∨ 3 ≤ s.gf F.PWR_STAT_SH → ∀ o, Into (.configurationWrite o) s s) ∧
    (s.gctl.perst = false → s.gf F.PWR_STAT_SH < 3 →
      let w := s.wake 3
      let f := w.freeBits.toNat
      let u := if w.bf F.QM_PCIE_STAT_LINK_UP then w else w.useFree.sfs [(F.QM_PCIE_STAT_LINK_UP, 1), (F.QM_PCIE_STAT_SPEED, 1 + f % 3),
        (F.QM_PCIE_STAT_WIDTH, 1 + f / 3 % 2)]
      (∀ on, Into (.configurationWrite (.bme on)) s (Unmasked (u.sf F.QM_PCIE_STAT_BME (b2n on)).flushPosted)) ∧
      (∀ on, Into (.configurationWrite (.msix on)) s (Unmasked (u.sf F.QM_PCIE_STAT_MSIX_EN (b2n on)).flushPosted)) ∧
      (∀ on, Into (.configurationWrite (.funcMask on)) s (Unmasked (QmIs u { u.qm with funcMask := on }).flushPosted)) ∧
      (∀ v on, Into (.configurationWrite (.vecMask v on)) s
        (Unmasked (QmIs u { u.qm with vecMask := setBits u.qm.vecMask v v (b2n on) }).flushPosted)))) ∧
  (∀ (s : State), (s.dmaOk = false → s.flushPosted = s) ∧
    (∀ a l, s.dmaOk = true → s.qm.posted = [(a, l)] → s.flushPosted = (QmIs s { s.qm with posted := [] }).hostW a l)) ∧
  (∀ (s : State), Runs s → (s.bf F.QM_STAT_RST_BUSY = true → Into .qmBlockReset s s) ∧
    (s.bf F.QM_STAT_RST_BUSY = false → Does .qmBlockReset s (fun t => t.qm = { s.qm with
        pair := [], cmds := [], held := [], posted := [], rstEnd := some (s.tick + 2500), iq := s.qm.iq.map (fun x => (x.1, { x.2 with p := 0, c := 0 })) } ∧
      t.bf F.QM_STAT_RST_BUSY = true ∧ t.bf F.QM_CMD_RES_VALID = false ∧ t.fenced 0x1D = false ∧ t.fenced 0x1E = false ∧
      0x1D ∈ t.fcu.inReset ∧
      t = { s with regs := t.regs, qm := t.qm, lft := t.lft, vox := t.vox, fcu := { s.fcu with inReset := t.fcu.inReset }, irq := t.irq }))) ∧
  (∀ (s : State) (a v : BitVec 32), s.stopped = false →
    let opened := s.bf F.GCTL_BOOT_STAT_DONE = true ∧ s.bf F.QM_QSPI_CFG_MGMT_EN = true ∧ s.vioA = true
    let good := a.toNat % 4 = 0 ∧ a.toNat ≤ 0x3FFFFFF
    (¬ opened → Into (.write a v) s s ∧ Into (.read a) s s ∧ Into .status s s) ∧
    (opened → good → Into (.write a v) s (ctlWrite .mgmt a.toNat v.toNat (s.wake 3)) ∧
      (let r := ctlRead a.toNat (s.wake 3); Into (.read a) s (r.1.emit .qspi 1 (0xA5 :: leBytes 4 r.2)))) ∧
    (opened → ¬ good → Into (.write a v) s (QmIs s { s.qm with spiErr := true }) ∧
      Into (.read a) s ((QmIs s { s.qm with spiErr := true }).emit .qspi 1 [0x5A, 0, 0, 0, 0])) ∧
    (opened → Into .status s ((QmIs s { s.qm with spiErr := false }).emit .qspi 1 [if s.qm.spiErr then 2 else 0])))

/-- R336 to R338, R352, R353. -/
def Obligations.SessionTableOpensAndResets : Prop :=
  (∀ s u : State, Sat s u → s.safe = false → u.bf F.SAX_CTL_EN = false →
    let r := u.saxRegion
    let clash := u.usable < r.1 + r.2 ∨
      (u.bf F.LFT_CTL_EN = true ∧ (overlap r.1 r.2 u.loftRegion.1 u.loftRegion.2 = true ∨ overlap r.1 r.2 u.auxRegion.1 u.auxRegion.2 = true)) ∨
      (u.bf F.EVR_SPILL_CTL_EN = true ∧ overlap r.1 r.2 (u.gf F.EVR_SPILL_BASE_BASE * 2 ^ 13) (32 * u.spillSize) = true)
    (clash → Into (.saxEnable true) s (u.sf F.SAX_STAT_CFG_REJ 1)) ∧
    (¬ clash → Into (.saxEnable true) s
      (SaxIs ((u.sf F.SAX_CTL_EN 1).sf F.SAX_OCC_OPEN 0) { u.sax with sess := [], bad := [], clearing := true }))) ∧
  (∀ s u : State, Sat s u → s.safe = false → u.bf F.SAX_CTL_EN = true → Into (.saxEnable true) s u) ∧
  (∀ s u : State, Sat s u → s.safe = false → Into (.saxEnable false) s
    ((SaxIs u { u.sax with clearing := false, resync := false }).sfs [(F.SAX_CTL_EN, 0), (F.SAX_STAT_READY, 0), (F.SAX_STAT_RESYNC_BUSY, 0)])) ∧
  (∀ s u : State, Sat s u →
    (u.sax.clearing = true → u.bf F.SAX_CTL_EN = true →
      Into .saxReady s ((SaxIs u { u.sax with clearing := false }).sf F.SAX_STAT_READY 1)) ∧
    (u.sax.clearing = false ∨ u.bf F.SAX_CTL_EN = false → Into .saxReady s u)) ∧
  (∀ s u : State, Sat s u → s.safe = false → Does .saxBlockReset s (fun t => t.fenced 0x21 = false ∧
    t.sax = { u.sax with sess := [], bad := [], resync := false, inWait := [] } ∧ t.gf F.SAX_OCC_OPEN = 0 ∧ t.bf F.SAX_STAT_RESYNC_BUSY = false ∧
    (∀ off, off ≠ R.FCU_FENCE 1 → off ≠ R.SAX_OCC → off ≠ R.SAX_STAT → t.reg off = u.reg off) ∧
    (∀ th, ∀ x ∈ (t.thr th).txns, x.kind = .unit → x.op = 0x14 → x.res = some (0x12, 0)) ∧
    (∀ th, ∃ f : Txn → Option (Nat × Nat), t.thr th = { u.thr th with txns := (u.thr th).txns.map (fun x => { x with res := f x }) }) ∧
    t = { u with regs := t.regs, sax := t.sax, brn := { u.brn with thr := t.brn.thr }, fcu := { u.fcu with
      inReset := u.fcu.inReset.filter (· != 0x21)
      tail := u.fcu.tail.filter (·.1 != 0x21) ++ [(0x21, u.tick + 250 * u.gf F.FCU_CFG_CASCADE_TAIL)] }, irq := t.irq })) ∧
  (∀ (s u : State) (v : BitVec 32), Sat s u → s.safe = false →
    let i := v.toNat % 131072
    let x := (u.sess i).fill u.tick
    Does (.saxSel v) s (fun t => t.gf F.SAX_SEL_SESSION = i ∧ t.bf F.SAX_SEL_VALID = true ∧ t.gf F.SAX_SEL_STATE_OPEN = b2n x.opn ∧
      t.gf F.SAX_SEL_STATE_RX_KEY = b2n x.rx.isSome ∧ t.gf F.SAX_SEL_STATE_TX_KEY = b2n x.tx.isSome ∧
      t.gf F.SAX_SEL_STATE_OLD_KEY = b2n x.old.isSome ∧ t.gf F.SAX_SEL_CB_BYTES = x.cb / 250000000 % 2 ^ 20 ∧
      t.gf F.SAX_SEL_EB_BYTES = x.eb / 250000000 % 2 ^ 20 ∧ (∀ k : Fin 6, t.gf (F.SAX_SEL_CNT_COUNT k) = x.cnt.getD k 0 % 2 ^ 32) ∧
      t = { u with regs := t.regs, irq := t.irq }))

/-- R338, R347, R348, R351. R349, R350. -/
def Obligations.SessionTimersAndRecords : Prop :=
  (∀ (s u : State) (i : Fin 131072) (d : Nat), Sat s u →
    let v := u.sess i
    (v.ka = some d → Fires u i d →
      Into (.keepalive i) s (((Fired u).setSess i (({ v with ka := some (u.tick + 250000 * v.kaMs) } : Sess).count 5)).saxPost i 0)) ∧
    (v.idle = some d → Fires u i d → Into (.idle i) s (((Fired u).setSess i (({ v with idle := none } : Sess).count 5)).saxPost i 1)) ∧
    (u.saxReady = true → u.saxHeld = false → v.opn = true → d ≤ u.tick → u.sax.ms = u.tick / 250000 → 4096 ≤ u.sax.msCnt →
      (v.ka = some d → Into (.keepalive i) s (u.sf F.SAX_STAT_KA_LATE 1)) ∧ (v.idle = some d → Into (.idle i) s (u.sf F.SAX_STAT_KA_LATE 1))) ∧
    (u.saxReady = false ∨ u.saxHeld = true ∨ v.opn = false ∨ u.tick < d →
      (v.ka = some d → Into (.keepalive i) s u) ∧ (v.idle = some d → Into (.idle i) s u))) ∧
  (∀ (s u : State) (i : Fin 131072), Sat s u → ((u.sess i).ka = none → Into (.keepalive i) s u) ∧ ((u.sess i).idle = none → Into (.idle i) s u)) ∧
  (∀ (s : State) (i kind : Nat), let q := s.gf F.SAX_KA_Q_QUEUE
    let d := s.deliverNow q (s.eventEntry (i + kind * 2 ^ 17) 0x8021)
    let waits := s.heldOff q = true ∨ ∃ w ∈ s.qm.held, w.1 = q
    (waits → s.saxPost i kind = (QmIs s { s.qm with
      held := s.qm.held ++ [(q, s.eventEntry (i + kind * 2 ^ 17) 0x8021, [F.SAX_CNT_KA_DROP_COUNT])] }).wake 4) ∧
    (¬ waits → d.2 = true → s.saxPost i kind = d.1.wake 4) ∧
    (¬ waits → d.2 = false → s.saxPost i kind = d.1.incf F.SAX_CNT_KA_DROP_COUNT)) ∧
  (∀ (s u : State) (l : List Byte), Sat s u → u.role ≠ rACTIVE → u.saxReady = true → u.linkUp 0 = true → l.length = 64 →
    let n := fun o k => leNat (sliceB l o k)
    let i := n 0 4
    let v := u.sess i
    (u.saxHeld = true → Into (.sessionRecord l) s (SaxIs u { u.sax with inWait := u.sax.inWait ++ [l] })) ∧
    (u.saxHeld = false → bit (n 4 1) 2 = true →
      Into (.sessionRecord l) s ((SaxIs u { u.sax with sess := [], bad := [] }).sf F.SAX_OCC_OPEN 0)) ∧
    (u.saxHeld = false → bit (n 4 1) 2 = false → u.saxSize ≤ i ∨ (bit (n 4 1) 1 = false ∧ bit (n 4 1) 0 = false) → Into (.sessionRecord l) s u) ∧
    (u.saxHeld = false → bit (n 4 1) 2 = false → i < u.saxSize → bit (n 4 1) 1 = true →
      Into (.sessionRecord l) s (let w := u.setSess i Sess.init
        if v.opn then w.sf F.SAX_OCC_OPEN (u.gf F.SAX_OCC_OPEN - 1) else w)) ∧
    (u.saxHeld = false → bit (n 4 1) 2 = false → i < u.saxSize → bit (n 4 1) 1 = false → bit (n 4 1) 0 = true →
      let w := u.setSess i { Sess.init with
        opn := true, mode := n 5 1 % 4, aes256 := bit (n 5 1) 2, cir := n 8 4 % 2 ^ 24, cbs := n 12 4 % 2 ^ 20,
        eir := n 16 4 % 2 ^ 24, ebs := n 20 4 % 2 ^ 20, idleMs := n 24 4 % 2 ^ 24, kaMs := n 28 4 % 2 ^ 24,
        fw := sliceB l 32 32, cb := n 12 4 % 2 ^ 20 * 250000000, eb := n 20 4 % 2 ^ 20 * 250000000, at_ := u.tick, cnt := v.cnt }
      let c := u.gf F.SAX_OCC_OPEN + 1
      (v.opn = true → Into (.sessionRecord l) s w) ∧
      (v.opn = false → Into (.sessionRecord l) s (let y := w.sf F.SAX_OCC_OPEN c
        if c = u.gf F.SAX_HIGH_WM_COUNT then y.sf F.SAX_STAT_HIGH 1 else y)))) ∧
  (∀ (s u : State) (l : List Byte), Sat s u → u.role = rACTIVE ∨ u.saxReady = false ∨ u.linkUp 0 = false ∨ l.length ≠ 64 →
    Into (.sessionRecord l) s u) ∧
  (∀ s u : State, Sat s u → s.safe = false →
    (u.role = rACTIVE → u.saxReady = true → Into .resync s ((SaxIs u { u.sax with resync := true }).sf F.SAX_STAT_RESYNC_BUSY 1)) ∧
    (u.role ≠ rACTIVE ∨ u.saxReady = false → Into .resync s u)) ∧
  (∀ s u : State, Sat s u → (u.sax.resync = false ∨ u.saxHeld = true → Into .resyncComplete s u) ∧
    (u.sax.resync = true → u.saxHeld = false →
      let all := (List.replicate 4 0 ++ [4] ++ List.replicate 59 0 : List Byte)
      Does .resyncComplete s (fun t => t.sax = { u.sax with resync := false } ∧ t.bf F.SAX_STAT_RESYNC_BUSY = false ∧
        t = { u with regs := t.regs, sax := t.sax, outbox := t.outbox, irq := t.irq } ∧
        (u.linkUp 0 = true → u.partnerLost = false → t.outbox = u.outbox ++ ⟨.session, 0, all⟩ ::
          (u.sax.sess.filter (fun p => p.2.opn)).map (fun p => ⟨.session, 0, u.sessRecord p.1⟩)) ∧
        (u.linkUp 0 = false ∨ u.partnerLost = true → t.outbox = u.outbox ∧ t.gf F.SAX_CNT_REPL_DROP_COUNT =
          min (2 ^ (F.SAX_CNT_REPL_DROP_COUNT.hi + 1 - F.SAX_CNT_REPL_DROP_COUNT.lo) - 1)
            (u.gf F.SAX_CNT_REPL_DROP_COUNT + 1 + (u.sax.sess.filter (fun p => p.2.opn)).length)))))

/-- R354, R356 to R358, R362 to R364. -/
def Obligations.FaultsAreTaken : Prop :=
  (∀ s : State, s.stopped = false → s.fcu.inbox = [] → Into .faultMessage s s) ∧
  (∀ (s : State) (m : FaultMsg), NextFault s m → s.isCascade m.src = true → Into .faultMessage s
    (((FcuIs s { s.fcu with inbox := leftOver s m }).addf (F.FCU_SRC_CNT_CASCADE m.src) (together s m).length).addf
      F.FCU_CNT_CASCADE_COUNT (together s m).length)) ∧
  (∀ (s : State) (m : FaultMsg), NextFault s m → s.isCascade m.src = false →
    let reals := (together s m).filter (fun x => !x.injected)
    let injs := (together s m).filter (fun x => x.injected)
    let byte := s.rctByte m.src m.kind
    let det := (reals.head?.map (·.detail)).getD 0
    let first := byte ≠ 0 ∧ s.bf F.FCU_FIRST_VALID = false ∧ (reals ≠ [] ∨ realLater m (leftOver s m) = false)
    Does .faultMessage s (fun t =>
      t.fcu.inbox = leftOver s m ∧
      bit (t.reg (R.FCU_SRC_STAT m.src)) m.kind = (bit (s.reg (R.FCU_SRC_STAT m.src)) m.kind || !reals.isEmpty) ∧
      bit (t.reg (R.FCU_SRC_STAT m.src)) (16 + m.kind) = (bit (s.reg (R.FCU_SRC_STAT m.src)) (16 + m.kind) || !injs.isEmpty) ∧
      t.gf (F.FCU_SRC_CNT_COUNT m.src) = satAdd ((F.FCU_SRC_CNT_COUNT m.src).hi + 1 - (F.FCU_SRC_CNT_COUNT m.src).lo)
        (s.gf (F.FCU_SRC_CNT_COUNT m.src)) reals.length ∧
      (first → t.bf F.FCU_FIRST_VALID = true ∧ t.gf F.FCU_FIRST_SOURCE = m.src ∧ t.gf F.FCU_FIRST_KIND = m.kind ∧
        t.bf F.FCU_FIRST_INJECTED = reals.isEmpty) ∧
      (¬ first → t.reg R.FCU_FIRST = s.reg R.FCU_FIRST) ∧
      (∃ r : React, t.fcu.react = s.fcu.react ++ [r] ∧ r.src = m.src ∧ r.kind = m.kind ∧ r.detail = det ∧ r.due = s.tick + 2 ∧
        r.byte = (if reals ≠ [] ∨ s.bf F.FCU_CFG_INJ_REACT = true then byte else byte % 2)) ∧
      t.gf F.FCU_CNT_INJ_COUNT = satAdd (F.FCU_CNT_INJ_COUNT.hi + 1 - F.FCU_CNT_INJ_COUNT.lo) (s.gf F.FCU_CNT_INJ_COUNT) injs.length ∧
      (byte ≠ 0 → t.gf F.PWR_STAT_PS = 0) ∧ (byte = 0 → t.pwr = s.pwr ∧ t.brn = s.brn ∧ t.evr = s.evr) ∧
      t = { s with regs := t.regs, fcu := { s.fcu with inbox := t.fcu.inbox, react := t.fcu.react }, pwr := t.pwr,
                   brn := { s.brn with woken := t.brn.woken }, evr := t.evr, irq := t.irq })) ∧
  (∀ (s : State) (src : Nat), s.isCascade src = true ↔ ∃ r < 64,
    (s.fenced r = true ∨ r ∈ s.fcu.inReset ∨ ∃ p ∈ s.fcu.tail, p.1 = r ∧ s.tick < p.2) ∧ (r = src ∨ bit (s.reg (R.FCU_CASCADE_MASK r (src / 32))) (src % 32) = true))

/-- R357 to R361, R365, R366, R368. -/
def Obligations.ReactionsStart : Prop :=
  (∀ s : State, s.stopped = false → (∀ r ∈ s.fcu.react, s.tick < r.due) → Into .faultReaction s s) ∧
  (∀ (s : State) (r : React), Reacts s r →
    let u := FcuIs s { s.fcu with react := s.fcu.react.filter (fun x => x.due != r.due) }
    let a := if bit r.byte 0 then u.faultRecord r else u
    let b := if bit r.byte 1 then a.faultInt r else a
    let c := if bit r.byte 2 then b.errPulse else b
    let d := if bit r.byte 4 then c.degrade r.src r.kind r.detail else c
    let e := if bit r.byte 3 then (d.setFence r.src).spend r.src 3 else d
    let f := if bit r.byte 5 then (e.blockReset r.src).spend r.src 5 else e
    Into .faultReaction s (if bit r.byte 6 then f.enterSafe 2 else f)) ∧
  (∀ (s : State) (d : Nat), s.stopped = false → d ≤ s.tick → (∃ r ∈ s.fcu.react, r.due = d) → (∀ x ∈ s.fcu.react, x.due ≤ s.tick → d ≤ x.due) →
    ∃ l m : List React, l.Perm (s.fcu.react.filter (fun x => x.due == d)) ∧ l.Pairwise (fun a b => b.before a = false) ∧
      m.Pairwise (fun a b => a.src < b.src) ∧ (∀ y ∈ m, ∃ x ∈ l, x.src = y.src) ∧ (∀ x ∈ l, ∃ y ∈ m, y.src = x.src) ∧
      (∀ y ∈ m, ∀ b, bit y.byte b = l.any (fun x => x.src == y.src && bit x.byte b)) ∧
      (let u := FcuIs s { s.fcu with react := s.fcu.react.filter (fun x => x.due != d) }
       let v := m.foldl State.reactBlock (l.foldl State.reactOwn u)
       Into .faultReaction s (if l.any (fun x => bit x.byte 6) then v.enterSafe 2 else v))) ∧
  (∀ (s : State) (r : React),
    (let a := if bit r.byte 0 then s.faultRecord r else s
     let b := if bit r.byte 1 then a.faultInt r else a
     let c := if bit r.byte 2 then b.errPulse else b
     s.reactOwn r = (if bit r.byte 4 then c.degrade r.src r.kind r.detail else c)) ∧
    (let e := if bit r.byte 3 then (s.setFence r.src).spend r.src 3 else s
     s.reactBlock r = (if bit r.byte 5 then (e.blockReset r.src).spend r.src 5 else e))) ∧
  (∀ (s : State) (src n : Nat), s.spend src n = FcuIs s { s.fcu with
    react := s.fcu.react.map (fun r => if r.src = src then { r with byte := setBits r.byte n n 0 } else r) }) ∧
  (∀ (s : State) (r : React), (s.faultInt r).bf F.FCU_STAT_INT_REQ = true ∧
    (s.bf F.FCU_CFG_QEN = false → s.faultInt r = s.sf F.FCU_STAT_INT_REQ 1)) ∧
  (∀ s : State, s.errPulse.errPin = true ∧ s.errPulse.bf F.FCU_ERR_CTL_HOLD = true ∧
    s.errPulse.fcu.pulseEnd = some (s.tick + 250000 * max 1 (s.gf F.FCU_ERR_CTL_PULSE_MS))) ∧
  (∀ (s : State) (src : Fin 64),
    (fenceable src = false ∨ s.fenced src = true → s.setFence src = s) ∧
    (fenceable src = true → s.fenced src = false →
      let u := s.setReg (R.FCU_FENCE (src / 32)) (s.reg (R.FCU_FENCE (src / 32)) ||| 2 ^ (src.val % 32))
      (s.setFence src).fenced src = true ∧ (src.val < 0x10 ∨ 0x17 < src.val → s.setFence src = u) ∧
      (∀ p : Fin 8, src.val = 0x10 + p.val → s.setFence src = u.ethFence p ∧ NetFrame s (s.setFence src)))) ∧
  (∀ (s : State) (cause : Nat), s.safe = false → s.gctl.frozen = false → cause < 4 → IsSafe s (s.enterSafe cause) cause) ∧
  (∀ (s : State) (cause : Nat), s.safe = true → s.enterSafe cause = s)

/-- R359, R362, R364 to R367. -/
def Obligations.FencesInjectionAndSafeState : Prop :=
  (∀ (s : State) (w : Fin 2) (v : BitVec 32), Runs s →
    Does (.fenceSet w v) s (fun t => (∀ k : Fin 64, t.fenced k = (s.fenced k || (fenceable k && k.val / 32 == w.val && bit v.toNat (k.val % 32)))) ∧
      NetFrame s t) ∧
    Does (.fenceLift w v) s (fun t => (∀ k : Fin 64, t.fenced k = (s.fenced k && !(k.val / 32 == w.val && bit v.toNat (k.val % 32) && !s.fenceEvidence k))) ∧
      ((∃ k : Fin 64, k.val / 32 = w.val ∧ bit v.toNat (k.val % 32) = true ∧ s.fenceEvidence k = true) → t.bf F.FCU_STAT_CFG_REJ = true) ∧
      ((∀ k ∈ [0x1C, 0x1D, 0x1E, 0x20, 0x21], k / 32 = w.val → s.fenced k = true → bit v.toNat (k % 32) = false) →
        t = { s with regs := t.regs, irq := t.irq }))) ∧
  (∀ (s : State) (c : Instr), s.stopped = false → s.safe = true → Discarded c → Into c s s) ∧
  (∀ (s : State) (src : BitVec 6) (v : BitVec 32), Runs s →
    (assignedSource src.toNat = true → Into (.force src v) s (FcuIs s { s.fcu with
      inbox := s.fcu.inbox ++ ((List.range 16).filter (fun k => bit v.toNat k)).map (fun k => ⟨src.toNat, k, 0, true, s.tick⟩) })) ∧
    (assignedSource src.toNat = false → Into (.force src v) s s)) ∧
  (∀ (s : State) (v : BitVec 32), Runs s → let src := v.toNat % 256
    (assignedSource src = true → Into (.fwRaise v) s (FcuIs s { s.fcu with
      inbox := s.fcu.inbox ++ [⟨src, 15, s.reg R.FCU_FW_DET, false, s.tick⟩] })) ∧
    (assignedSource src = false → Into (.fwRaise v) s s)) ∧
  (∀ s : State, Runs s → Does .safe s (fun t => IsSafe s t 3)) ∧
  (∀ (s : State) (off : BitVec 26), s.stopped = false →
    (parityReg off.toNat = false → Into (.parityFailure off) s s) ∧
    (parityReg off.toNat = true → Does (.parityFailure off) s (fun t => t.bf F.FCU_STAT_PARITY_ERR = true ∧ t.safe = true ∧
      bit (t.reg (R.FCU_SRC_STAT 0)) 2 = true ∧ t.bf F.FCU_FIRST_VALID = true ∧ (s.safe = false → IsSafe s t 1) ∧
      (s.bf F.FCU_FIRST_VALID = false → t.gf F.FCU_FIRST_SOURCE = 0 ∧ t.gf F.FCU_FIRST_KIND = 2) ∧
      (∃ x : React, t.fcu.react = s.fcu.react ++ [x] ∧ x.src = 0 ∧ x.kind = 2 ∧ x.byte = s.rctByte 0 2 ∧ x.detail = off.toNat ∧ x.due = s.tick + 2) ∧
      (s.safe = true → t = { s with regs := t.regs, fcu := { s.fcu with react := t.fcu.react }, irq := t.irq })))) ∧
  (∀ s : State, s.stopped = false →
    (s.fcu.pulseEnd = none → Into .errPulseEnd s s) ∧
    (∀ e, s.fcu.pulseEnd = some e → (s.tick < e → Into .errPulseEnd s s) ∧
      (e ≤ s.tick → let u := FcuIs s { s.fcu with pulseEnd := none, holdOff := false }
        (s.fcu.holdOff = false → Into .errPulseEnd s u) ∧ (s.fcu.holdOff = true → Into .errPulseEnd s (u.sf F.FCU_ERR_CTL_HOLD 0)))) ∧
    Into (.hold true) s ((FcuIs s { s.fcu with holdOff := false }).sf F.FCU_ERR_CTL_HOLD 1) ∧
    (s.fcu.pulseEnd.isSome = true → Into (.hold false) s (FcuIs s { s.fcu with holdOff := true })) ∧
    (s.fcu.pulseEnd.isSome = false → Into (.hold false) s (s.sf F.FCU_ERR_CTL_HOLD 0))) ∧
  (∀ (s : State) (src : BitVec 6), s.stopped = false →
    Into (.cascadeTailEnd src) s (FcuIs s { s.fcu with tail := s.fcu.tail.filter (fun p => !(p.1 == src.toNat && decide (p.2 ≤ s.tick))) }))

/-- R370, R372, R373, R375, R377, R378. -/
def Obligations.RecordsAreAccepted : Prop :=
  (∀ s : State, s.stopped = false → s.evr.offered = [] → Into .eventRecord s s) ∧
  (∀ (s : State) (r : ERec), Offers s r → s.rateOk r.code = false → let i := codeIdx r.code
    Into .eventRecord s (EvrIs (s.incf F.EVR_CNT_RATE_SUPP_COUNT) { s.evr with
      offered := s.evr.offered.erase r, dropCnt := s.evr.dropCnt.set (fun _ => 0) i (s.evr.dropCnt.get (fun _ => 0) i + 1) })) ∧
  (∀ (s : State) (r : ERec), Offers s r → s.rateOk r.code = true →
    let i := codeIdx r.code
    let w := r.word (s.bf F.EVR_STAT_RESERVE) (min 255 (s.evr.dropCnt.get (fun _ => 0) i))
    let keep := if s.bf F.EVR_SPILL_CTL_EN = true then s.spillSize else 8192
    Does .eventRecord s (fun t => t.evr.offered = s.evr.offered.erase r ∧ t.evr.head = (s.evr.head + 1) % 2 ^ 40 ∧
      (s.evr.tail ≤ s.evr.head → s.evr.head + 1 < 2 ^ 40 → s.evr.resv.get (fun _ => none) s.evr.head = none → t.recAt s.evr.head = some w) ∧
      t.evr.dropCnt = s.evr.dropCnt.set (fun _ => 0) i 0 ∧
      t.evr.winCnt = s.evr.winCnt.set (fun _ => 0) i (s.evr.winCnt.get (fun _ => 0) i + 1) ∧ t.evr.winStart = s.evr.winStart ∧
      t.evr.tail = max s.evr.tail (s.evr.head + 1 - keep) ∧
      t.evr.ret = (if retainedCode r.code = true then (w :: s.evr.ret).take 4 else s.evr.ret) ∧
      (s.bf F.EVR_STAT_RESERVE = true → t.evr.chip = s.evr.chip) ∧ (s.bf F.EVR_STAT_RESERVE = false → t.evr.resv = s.evr.resv) ∧
      t = { s with regs := t.regs, evr := t.evr, irq := t.irq })) ∧
  (∀ (s : State) (code : Nat), s.rateOk code = true ↔ s.gf (F.EVR_RATE_LIMIT (codeIdx code)) = 0xFFFF ∨ code = 1 ∨ code = 0x22 ∨ code = 0x31 ∨
    s.evr.winCnt.get (fun _ => 0) (codeIdx code) < s.gf (F.EVR_RATE_LIMIT (codeIdx code))) ∧
  (∀ s : State, s.stopped = false → let n := s.evr.winStart + 250000 * max 1 (s.gf F.EVR_CFG_RATE_MS)
    (s.tick < n → Into .rateWindow s s) ∧ (n ≤ s.tick → Into .rateWindow s (EvrIs s { s.evr with winCnt := [], winStart := n })))

/-- R375 to R377, R380. -/
def Obligations.SpillReservesAndMemoryFaults : Prop :=
  (∀ s : State, s.stopped = false → let q := s.evr.spillNext
    (s.bf F.EVR_SPILL_CTL_EN = false ∨ s.dramUp = false ∨ s.dramIdle cEVR = false ∨ s.evr.head ≤ q → Into .spillWrite s s) ∧
    (s.bf F.EVR_SPILL_CTL_EN = true → s.dramUp = true → s.dramIdle cEVR = true → q < s.evr.head →
      (s.recAt q = none → Into .spillWrite s (s.spillMiss q)) ∧
      (∀ r, s.recAt q = some r → Does .spillWrite s (fun t => t.rdB (s.spillAddr q) 32 = leBytes 32 r.toNat ∧
        (∀ a, a < s.spillAddr q ∨ s.spillAddr q + 32 ≤ a → t.rd8 a = s.rd8 a) ∧
        t.evr = { s.evr with spillNext := q + 1, spilled := s.evr.spilled.set (fun _ => false) q true } ∧
        t = { s with mem := t.mem, ecc := t.ecc, evr := t.evr, arb := { s.arb with req := setAt s.arb.req cEVR (s.arb.req.getD cEVR 0 + 1) },
                     irq := t.irq })))) ∧
  (∀ (s : State) (q : Nat), s.spillMiss q = EvrIs ((s.sf F.EVR_STAT_SPILL_GAP 1).incf F.EVR_CNT_SPILL_MISSING_COUNT) { s.evr with
    spillNext := q + 1, gap := some (match s.evr.gap with | none => (q, 1) | some (a, n) => (a, n + 1)) }) ∧
  (∀ s : State, s.stopped = false →
    (s.evr.gap = none ∨ s.dramUp = false → Into .spillGap s s) ∧
    (∀ a n, s.evr.gap = some (a, n) → s.dramUp = true →
      Into .spillGap s ((EvrIs s { s.evr with gap := none }).logRec 3 0x0032 a n))) ∧
  (∀ (s : State) (v : BitVec 32), Runs s → let k := v.toNat % 32
    (s.bf F.EVR_CTL_LOCK = true → Into (.spillEnable v) s s) ∧
    (s.bf F.EVR_CTL_LOCK = false → s.spillOk k = true → Into (.spillEnable v) s (EvrIs (s.setReg R.EVR_SPILL_CTL (2 ^ 31 + k))
      { s.evr with spillNext := s.evr.head, gap := none, spilled := [] })) ∧
    (s.bf F.EVR_CTL_LOCK = false → s.spillOk k = false → Into (.spillEnable v) s (s.sf F.EVR_STAT_CFG_REJ 1))) ∧
  (∀ (s : State) (k : Nat), s.spillOk k = true ↔
    let base := s.gf F.EVR_SPILL_BASE_BASE * 2 ^ 13
    let size := 32 * 2 ^ k
    13 ≤ k ∧ k ≤ 21 ∧ base % size = 0 ∧ base + size ≤ s.usable ∧
    (s.bf F.LFT_CTL_EN = true → overlap base size s.loftRegion.1 s.loftRegion.2 = false ∧ overlap base size s.auxRegion.1 s.auxRegion.2 = false) ∧
    (s.bf F.SAX_CTL_EN = true → overlap base size s.saxRegion.1 s.saxRegion.2 = false)) ∧
  (∀ (s : State) (slot : Fin 8192) (w : Fin 8), s.stopped = false →
    Does (.recorderMemFault slot w) s (fun t => t.bf F.EVR_STAT_RESERVE = true ∧ t.bf F.EVR_STAT_MEM_UE = true ∧
      (s.bf F.EVR_STAT_RESERVE = true → ∀ q, q % 8192 = slot.val → t.evr.chip.get (fun _ => none) q = none) ∧
      (s.bf F.EVR_STAT_RESERVE = true → t.evr.head = s.evr.head ∧ t.evr.ret = s.evr.ret) ∧
      (s.bf F.EVR_STAT_RESERVE = false → t.evr.head = (s.evr.head + 1) % 2 ^ 40 ∧ t.evr.ret.length = min 4 (s.evr.ret.length + 1)) ∧
      t = { s with regs := t.regs, evr := t.evr, fcu := { s.fcu with inbox := s.fcu.inbox ++ [⟨3, 1, 0, false, s.tick⟩] }, free := t.free, irq := t.irq })) ∧
  (∀ s : State, Runs s → Into .retentionClr s (EvrIs s { s.evr with ret := [] })) ∧
  (∀ s : State, Runs s →
    (3 ∈ s.fcu.inReset → Into .evrBlockReset s s) ∧
    (3 ∉ s.fcu.inReset → Does .evrBlockReset s (fun t => 3 ∈ t.fcu.inReset ∧ t.bf F.EVR_STAT_TEST_BUSY = true ∧ t.bf F.EVR_STAT_RESERVE = true ∧
      t.evr = { s.evr with chip := [], tail := t.evr.tail, cur := t.evr.cur } ∧ (s.evr.tail ≤ s.evr.head → s.evr.tail ≤ t.evr.tail) ∧
      t = { s with regs := t.regs, evr := t.evr, fcu := { s.fcu with inReset := t.fcu.inReset }, irq := t.irq }))) ∧
  (∀ (s : State) (pass : Bool), s.stopped = false →
    (s.bf F.EVR_STAT_TEST_BUSY = false → Into (.memoryTestDone pass) s s) ∧
    (s.bf F.EVR_STAT_TEST_BUSY = true → Does (.memoryTestDone pass) s (fun t => 3 ∉ t.fcu.inReset ∧ t.bf F.EVR_STAT_TEST_BUSY = false ∧
      t.bf F.EVR_STAT_RESERVE = (s.bf F.EVR_STAT_RESERVE && !pass) ∧
      t.fcu.inbox = s.fcu.inbox ++ (if pass then [] else [⟨3, 1, 0, false, s.tick⟩]) ∧
      t = { s with regs := t.regs, fcu := t.fcu, irq := t.irq })))

/-- R8, R175, R377 to R379. A host read is a wake event (R386). -/
def Obligations.CursorsMove : Prop :=
  (∀ (s : State) (c : Fin 4), s.stopped = false → Into (.adv c) s (curAdv c s)) ∧
  (∀ (s : State) (c : Fin 4), s.evr.cur.length = 4 → let t := curAdv c s
    (s.evr.head ≤ Cur s c → t = s) ∧
    (Cur s c < s.evr.head → t = { s with regs := t.regs, evr := { s.evr with cur := t.evr.cur } } ∧
      (Stands s (Cur s c + 1) → Cur t c = Cur s c + 1 ∧ t.gf (F.EVR_CUR_STAT_LOST c) = s.gf (F.EVR_CUR_STAT_LOST c)) ∧
      (¬ Stands s (Cur s c + 1) → Cur t c = s.nextReadable (Cur s c + 1)) ∧
      (∀ d : Fin 4, d ≠ c → Stands s (Cur s d) → Cur t d = Cur s d))) ∧
  (∀ (s : State) (c : Fin 4), s.stopped = false → let u := s.wake 3
    (∀ (o : BitVec 12) (be : BitVec 4), let v := winRead c (o.toNat / 4 * 4) u
      (be = 0 → Into (.cursorRead ⟨c, .part o be⟩) s (u.emit .hostRead 2 [])) ∧
      (be ≠ 0 → Into (.cursorRead ⟨c, .part o be⟩) s (v.1.emit .hostRead 2 (rdBytes be.toNat v.2)))) ∧
    Into (.cursorRead ⟨c, .record⟩) s ((curAdv c u).emit .hostRead 2 ((List.range 8).flatMap (fun k => leBytes 4 (u.curWord c k))))) ∧
  (∀ (s : State) (c : Fin 4) (k : Nat),
    (∀ w, s.recAt (Cur s c) = some w → s.curWord c k = w.toNat / 2 ^ (32 * k) % 2 ^ 32) ∧ (s.recAt (Cur s c) = none → s.curWord c k = 2 ^ 32 - 1) ∧
    (k < 7 → winRead c (4 * k) s = (s, s.curWord c k)) ∧ winRead c 0x1C s = (curAdv c s, s.curWord c 7) ∧
    (winRead c 0x20 s).2 = Cur s c % 2 ^ 32 ∧
    (winRead c 0x20 s).1 = { s with hiCap := (winRead c 0x20 s).1.hiCap } ∧
    (winRead c 0x24 (winRead c 0x20 s).1).2 = Cur s c / 2 ^ 32 % 2 ^ 32 ∧
    winRead c 0x28 s = (s, b2n (s.recAt (Cur s c)).isSome * 2 ^ 31 + s.gf (F.EVR_CUR_STAT_LOST c)) ∧
    (0x2C ≤ k → winRead c k s = (s, 0))) ∧
  (∀ (s : State) (c : Fin 4), s.stopped = false → s.evr.cur.length = 4 → s.evr.tail ≤ s.evr.head →
    (Stands s s.evr.tail → Does (.seekOldest c) s (fun t => Cur t c = s.evr.tail ∧ t.gf (F.EVR_CUR_STAT_LOST c) = 0 ∧
      t = { s with regs := t.regs, evr := { s.evr with cur := t.evr.cur }, irq := t.irq })) ∧
    (¬ Stands s s.evr.tail → Does (.seekOldest c) s (fun t => Cur t c = s.nextReadable s.evr.tail ∧
      t = { s with regs := t.regs, evr := { s.evr with cur := t.evr.cur }, irq := t.irq })) ∧
    Does (.seekHead c) s (fun t => Cur t c = s.evr.head ∧ t.gf (F.EVR_CUR_STAT_LOST c) = 0 ∧
      t = { s with regs := t.regs, evr := { s.evr with cur := t.evr.cur }, irq := t.irq })) ∧
  (∀ (s : State) (c : Fin 4), s.evr.cur.length = 4 → Cur s c < s.evr.head → (s.recAt (Cur s c)).isSome = false →
    Cur s.fixCursors c = s.nextReadable (Cur s c) ∧ s.fixCursors.gf (F.EVR_CUR_STAT_LOST c) =
      satAdd ((F.EVR_CUR_STAT_LOST c).hi + 1 - (F.EVR_CUR_STAT_LOST c).lo) (s.gf (F.EVR_CUR_STAT_LOST c)) (s.nextReadable (Cur s c) - Cur s c)) ∧
  (∀ (s : State) (q : Nat), let n := s.nextReadable q
    max q s.evr.tail ≤ n ∨ n = s.evr.head)

/-- R351, R384 to R387. -/
def Obligations.PowerStatesAndWakes : Prop :=
  (∀ s : State, s.stopped = false → s.pwr.wakeDue.isSome = true → Into .pstateEvaluate s s) ∧
  (∀ s : State, s.stopped = false → s.pwr.wakeDue = none → let old := s.gf F.PWR_STAT_PS
    Does .pstateEvaluate s (fun t =>
    t.gf F.PWR_STAT_PS = s.psSelect ∧ t.gf F.PWR_STAT_PS_TARGET = s.psSelect ∧
    t.bf F.DMC_STAT_SREF = (s.bf F.DMC_STAT_SREF || decide (2 ≤ s.psSelect)) ∧
    (s.psSelect < old → t.pwr.wakeDue = some (s.tick + wakeTicks old)) ∧ (old ≤ s.psSelect → t.pwr.wakeDue = none) ∧
    (old = s.psSelect → t = { s with regs := t.regs, sax := { s.sax with dark := s.sax.dark || decide (3 ≤ s.psSelect) }, irq := t.irq }) ∧
    (old ≠ s.psSelect → t.bf F.PWR_STAT_PS_CHG = true ∧ PsCounted s t ∧ t.evr = Recorded s 2 0x0023 (s.psSelect + 8 * old) 0 ∧
      t = { s with regs := t.regs, pwr := t.pwr, brn := { s.brn with woken := 0 }, evr := t.evr,
                   sax := { s.sax with dark := s.sax.dark || decide (3 ≤ s.psSelect) }, irq := t.irq }) ∧
    (∀ o, o ≠ R.PWR_STAT → o ≠ R.DMC_STAT → o ≠ R.EVR_CNT_HW_LOST → t.reg o = s.reg o))) ∧
  (∀ s : State, s.psSelect ≤ 4 ∧ s.psAllowed s.psSelect = true ∧ ∀ k, s.psSelect < k → k ≤ 4 → s.psAllowed k = false) ∧
  (∀ (s : State) (k : Nat), k ≠ 0 → (s.psAllowed k = true ↔ s.psEligible k = true ∧ k ≤ s.gf F.PWR_CTL_PS_MAX ∧
    (∀ i < 8, s.bf (F.PWR_LTR_EN i) = true → wakeUs k ≤ s.gf (F.PWR_LTR_TOL i)) ∧ (∀ n, s.nextTimed k = some n → wakeTicks k + 2500 ≤ n))) ∧
  (∀ s : State, let idle := ∀ x ∈ s.brn.thr, x.2.st ≠ 1 ∧ x.2.st ≠ 4
    (s.psEligible 1 = true ↔ idle) ∧ (s.psEligible 2 = true ↔ idle ∧ s.dramWork = false) ∧
    (s.psEligible 3 = true ↔ idle ∧ s.dramWork = false ∧ (∀ p < 8, s.bf (F.ETH_CTL_EN p) = false) ∧ s.gf F.VOX_CTL_EN = 0 ∧
      (∀ x ∈ s.brn.thr, x.2.st = 2 → ∃ y ∈ x.2.txns, y.waiting = true ∧ y.op = 0x12) ∧ s.swpState 0 = 0 ∧ s.swpState 1 = 0 ∧ ∀ v ∈ s.lft.views, v = none) ∧
    (s.psEligible 4 = true ↔ s.psEligible 3 = true ∧ s.bf F.ZTT_CTL_EN = false)) ∧
  (∀ (s : State) (cause : Nat), cause < 16 → let old := s.gf F.PWR_STAT_PS
    (old = 0 → s.wake cause = s) ∧
    (old ≠ 0 → let t := s.wake cause
      t.gf F.PWR_STAT_PS = 0 ∧ t.gf F.PWR_STAT_PS_TARGET = 0 ∧ t.bf F.PWR_STAT_PS_CHG = true ∧ t.gf F.PWR_WAKE_FROM = old ∧
      t.gf F.PWR_WAKE_CAUSE = cause ∧ t.pwr.wakeDue = some (s.tick + wakeTicks old) ∧ PsCounted s t ∧ t.evr = Recorded s 2 0x0023 (8 * old) 0 ∧
      (∀ o, o ≠ R.PWR_STAT → o ≠ R.PWR_WAKE → o ≠ R.EVR_CNT_HW_LOST → t.reg o = s.reg o) ∧
      t = { s with regs := t.regs, pwr := t.pwr, brn := { s.brn with woken := 0 }, evr := t.evr })) ∧
  (∀ s : State, s.stopped = false → let k := s.gf F.PWR_STAT_PS
    (k = 0 ∨ s.nextTimed k = none → Into .timedWake s s) ∧
    (∀ n, s.nextTimed k = some n → (wakeTicks k < n → Into .timedWake s s) ∧ (k ≠ 0 → n ≤ wakeTicks k → Into .timedWake s (s.wake 1))) ∧
    Into (.untimedWake .thread) s (s.wake 2) ∧ Into (.untimedWake .host) s (s.wake 3) ∧ Into (.untimedWake .queue) s (s.wake 4) ∧
    Into (.untimedWake .fault) s (s.wake 5)) ∧
  (∀ s : State, s.stopped = false → (s.pwr.wakeDue = none → Into .wakeDone s s) ∧
    (∀ e, s.pwr.wakeDue = some e → (s.tick < e → Into .wakeDone s s) ∧
      (e ≤ s.tick → let u := ({ s with pwr := { s.pwr with wakeDue := none } } : State).powerBack.dramBack
        (u.gf F.PWR_STAT_SH = 2 → u.lftShed = false → Into .wakeDone s u.sh2In) ∧
        (u.gf F.PWR_STAT_SH ≠ 2 ∨ u.lftShed = true → Into .wakeDone s u)))) ∧
  (∀ s : State, (3 ≤ s.gf F.PWR_STAT_SH ∨ 3 ≤ s.gf F.PWR_STAT_PS ∨ s.sax.dark = false → s.powerBack = s) ∧
    (s.gf F.PWR_STAT_SH < 3 → s.gf F.PWR_STAT_PS < 3 → s.sax.dark = true →
      let x := { s.sax with dark := false, clearing := false, resync := false, inWait := [] }
      (s.bf F.SAX_CTL_EN = false → s.powerBack = SaxIs s x) ∧
      (s.bf F.SAX_CTL_EN = true → let t := s.powerBack
        t.sax = { x with sess := [], bad := [] } ∧ t.bf F.SAX_STAT_READY = true ∧ t.bf F.SAX_STAT_LOST = true ∧ t.gf F.SAX_OCC_OPEN = 0 ∧
        t.evr = Recorded s 0x21 0x2011 (s.gf F.SAX_OCC_OPEN) 0 ∧ t = { s with regs := t.regs, sax := t.sax, evr := t.evr }))) ∧
  (∀ s : State, (2 ≤ s.gf F.PWR_STAT_PS ∨ s.shedDram = true ∨ s.bf F.DMC_STAT_SREF = false → s.dramBack = s) ∧
    (s.gf F.PWR_STAT_PS < 2 → s.shedDram = false → s.bf F.DMC_STAT_SREF = true → s.dramBack = (s.sf F.DMC_STAT_SREF 0).sealReady.flushHeld) ∧
    (s.shedDram = true ↔ 3 ≤ s.gf F.PWR_STAT_SH ∨ (s.gf F.PWR_STAT_SH = 2 ∧ (s.bf F.LFT_STAT_SHED_SEALED = true ∨ s.bf F.LFT_CTL_EN = false)))) ∧
  (∀ (s : State) (v : BitVec 32), Runs s →
    ∃ x, Into (.psMaxWrite v) s ((s.setReg R.PWR_CTL x).wake 6) ∧ bits x 10 8 = v.toNat / 2 ^ 8 % 8 ∧
      bit x 0 = (if s.bf F.PWR_CTL_LOCK = true then s.bf F.PWR_CTL_THERM_SH1 else bit v.toNat 0) ∧ bit x 31 = (s.bf F.PWR_CTL_LOCK || bit v.toNat 31))

/-- R170, R182, R266, R388 to R392. -/
def Obligations.ShedLevelsFallAndReturn : Prop :=
  (∀ (s : State) (vin : BitVec 13), s.stopped = false →
    let v := vin.toNat
    let k := s.gf F.PWR_STAT_SH + 1
    (4 < k ∨ s.gf (F.PWR_SH_THR_FALL (k - 1)) ≤ v → Into (.shedEnter vin) s (s.vinSample v)) ∧
    (k ≤ 4 → v < s.gf (F.PWR_SH_THR_FALL (k - 1)) → Does (.shedEnter vin) s (fun t =>
      t.gf F.PWR_STAT_SH = k ∧ t.bf F.PWR_STAT_SH_CHG = true ∧ t.gf F.PWR_VIN_VIN = v ∧ t.gf F.PWR_VIN_MIN = min v (s.gf F.PWR_VIN_MIN) ∧
      t.gf (shCnt k) = min 255 (s.gf (shCnt k) + 1) ∧ (⟨2, 12, k + v * 2 ^ 32, false, s.tick⟩ : FaultMsg) ∈ t.fcu.inbox ∧
      (s.gf F.PWR_STAT_PS ≠ 4 → (waitingOf 0x8002 s.evr.offered < 4 → s.mkRec 0x0021 0x8002 (k + (k - 1) * 8) v ∈ t.evr.offered)) ∧
      (∀ p : Fin 8, (k = 2 ∧ s.bf (F.ETH_CTL_NONCRIT p) = true) ∨ 3 ≤ k → t.ethLink p = false ∧ t.gf (F.ETH_STAT_ACT_MODE p) = 0) ∧
      (∀ p : Fin 8, k ≤ 2 → s.bf (F.ETH_CTL_EN p) = true → s.gf (F.ETH_MODE_MODE p) = 1 → s.bf (F.ETH_CTL_NONCRIT p) = false →
        t.gf (F.ETH_STAT_ACT_MODE p) = s.gf (F.ETH_MODE_SHED_MODE p)) ∧
      (k = 1 ∨ (k = 2 ∧ 3 ≤ s.gf F.PWR_STAT_PS) → ShedFrame s t) ∧
      (k = 2 → s.gf F.PWR_STAT_PS < 3 → t.lftShed = true ∧ t.lft.work = 0 ∧ t.bf F.LFT_STAT_FORMATTING = false ∧
        (s.lftEn = false → t.bf F.DMC_STAT_SREF = true ∧ t.bf F.LFT_STAT_SHED_SEALED = true) ∧
        (s.lftEn = true → t.bf F.DMC_STAT_SREF = true ∨ (t.lft.extra = some (s.tick + 1) ∧ t.lft.shedB = false) ∨ t.lft.closed ≠ []) ∧
        (s.bf F.RED_TWIN_CFG_SHED_SWAP = false → t.red = s.red) ∧
        (s.bf F.RED_TWIN_CFG_SHED_SWAP = true → s.red.peerShed < 2 → s.hoOk = true → s.role = rACTIVE → s.red.ho = 0 → t.bf F.RED_ROLE_HANDOVER = true) ∧
        t = { s with regs := t.regs, eth := t.eth, yrd := t.yrd, sch := t.sch, qm := t.qm, host := t.host, fcu := t.fcu, outbox := t.outbox,
                     irq := t.irq, evr := { s.evr with offered := t.evr.offered }, lft := t.lft, red := t.red }) ∧
      (k = 3 → t.bf F.DMC_STAT_SREF = true ∧ t.sax = { s.sax with dark := true } ∧ t.bf F.QM_PCIE_STAT_LINK_UP = false ∧ t.linkUp 0 = false ∧
        t.linkUp 1 = false ∧ t.qm.pair = [] ∧ t.qm.posted = [] ∧ (s.linkUp 0 = true → t.bf F.VOX_REPL_STAT_BROKEN = true) ∧
        (∀ th, (∀ x ∈ (t.thr th).txns, x.space ≠ .host) ∧ (t.thr th).pc = (s.thr th).pc ∧ (t.thr th).st = (s.thr th).st) ∧
        t = { s with regs := t.regs, eth := t.eth, yrd := t.yrd, sch := t.sch, qm := t.qm, host := t.host, fcu := t.fcu, evr := t.evr,
                     outbox := t.outbox, irq := t.irq, sax := t.sax, lft := t.lft, vox := t.vox,
                     brn := { s.brn with thr := t.brn.thr, orphans := t.brn.orphans } }) ∧
      (k = 4 → t.red.stopped = true ∧ t.errPin = true ∧ (∃ w : BitVec 256, t.evr.ret = (w :: s.evr.ret).take 4 ∧ w.toNat / 2 ^ 80 % 2 ^ 16 = 0x22 ∧
          w.toNat / 2 ^ 128 % 2 ^ 64 = v) ∧ t.evr.head = (s.evr.head + 1) % 2 ^ 40 ∧ t.ztt = s.ztt ∧
        t = { s with regs := t.regs, eth := t.eth, yrd := t.yrd, sch := t.sch, qm := t.qm, host := t.host, fcu := t.fcu, evr := t.evr,
                     outbox := t.outbox, irq := t.irq, red := t.red }))) ∧
    (s.gf F.PWR_STAT_SH = 3 → exec (.supplyLost vin) s = exec (.shedEnter vin) s) ∧
    (s.gf F.PWR_STAT_SH ≠ 3 → Into (.supplyLost vin) s s)) ∧
  (∀ (s : State) (vin : BitVec 13), s.stopped = false →
    let v := vin.toNat
    let k := s.gf F.PWR_STAT_SH
    (k = 0 ∨ 4 ≤ k ∨ v ≤ s.gf (F.PWR_SH_THR_FALL (k - 1)) + 60 → Into (.shedExit vin) s (s.vinSample v)) ∧
    (k ≠ 0 → k < 4 → s.gf (F.PWR_SH_THR_FALL (k - 1)) + 60 < v →
      let u := (s.vinSample v).setShed (k - 1) v
      u.gf F.PWR_STAT_SH = k - 1 ∧ u.bf F.PWR_STAT_SH_CHG = true ∧ ShedFrame s u ∧
      (k = 1 → Into (.shedExit vin) s u) ∧ (k = 2 → Into (.shedExit vin) s u.dramBack.lftShedExit) ∧ (k = 3 → Into (.shedExit vin) s u.powerBack))) ∧
  (∀ s : State, s.stopped = false → (2 ≤ s.gf F.PWR_STAT_SH → s.shedSealReady = true →
      Into .shedSealed s (s.lftShedSealed.sf F.DMC_STAT_SREF 1) ∧
      Does .shedSealed s (fun t => t.bf F.DMC_STAT_SREF = true ∧ t.bf F.LFT_STAT_SHED_SEALED = true ∧ t.lft.held = [] ∧ t.mem = s.mem)) ∧
    (s.gf F.PWR_STAT_SH < 2 ∨ s.shedSealReady = false → Into .shedSealed s s)) ∧
  (∀ (s : State) (k : Fin 4) (v : BitVec 32), Runs s →
    let f := v.toNat % 8192
    let bad := f < s.gf (F.PWR_SH_THR_FALL k) ∨ (k.val ≠ 0 ∧ s.gf (F.PWR_SH_THR_FALL (k.val - 1)) ≤ f) ∨ (k.val = 0 ∧ 5440 < f)
    (bad → Into (.shThrWrite k v) s (s.sf F.PWR_STAT_CFG_REJ 1)) ∧
    (¬ bad → Into (.shThrWrite k v) s ((s.sf (F.PWR_SH_THR_FALL k) f).sf (F.PWR_SH_THR_RISE k) (f + 60)))) ∧
  (∀ (s : State) (vin : BitVec 13), s.stopped = false →
    (s.gf F.PWR_STAT_SH = 4 → s.gf (F.PWR_SH_THR_RISE 0) < vin.toNat → Into (.sh4Recovery vin) s (coldReset 3 s)) ∧
    (s.gf F.PWR_STAT_SH ≠ 4 ∨ vin.toNat ≤ s.gf (F.PWR_SH_THR_RISE 0) → Into (.sh4Recovery vin) s s)) ∧
  (∀ (s : State) (vin : BitVec 13), let b := GctlIs s { s.gctl with brown := true }
    let u := coldReset 1 b
    ColdFrom b u 1 ∧
    (vin.toNat < 1800 → s.gctl.brown = false → Into (.brownOut vin) s u.loseRetention) ∧
    (vin.toNat < 2620 → 1800 ≤ vin.toNat → s.gctl.brown = false → Into (.brownOut vin) s u) ∧
    (vin.toNat < 2620 → 1800 ≤ vin.toNat → s.gctl.brown = true → Into (.brownOut vin) s s) ∧
    (vin.toNat < 1800 → s.gctl.brown = true → Into (.brownOut vin) s s.loseRetention) ∧
    (3260 < vin.toNat → s.gctl.brown = true → Into (.brownOut vin) s { s with gctl := { s.gctl with brown := false, relFrom := s.tick } }) ∧
    (2620 ≤ vin.toNat → s.gctl.brown = false ∨ vin.toNat ≤ 3260 → Into (.brownOut vin) s s)) ∧
  (∀ s : State, s.loseRetention = { s with
    evr := { s.evr with ret := [] }, sec := { s.sec with fails := 3, waitEnd := none, relWait := true },
    gctl := { s.gctl with cause := 1, warmCnt := 0, froze := false, wasSafe := false } })

/-- R382, R393. Tj and the limit are in sixteenths of a degree. -/
def Obligations.RailsAndTemperature : Prop :=
  (∀ (s : State) (good : BitVec 4) (a b : Bool),
    (s.stopped = false → let fell := ∃ i < 4, bit (s.gf F.PWR_RAIL_STAT_GOOD) i = true ∧ bit good.toNat i = false
      Does (.railChange good a b) s (fun t =>
      t.gf F.PWR_RAIL_STAT_GOOD = good.toNat ∧ t.bf F.PWR_RAIL_STAT_VIO_A_33 = a ∧ t.bf F.PWR_RAIL_STAT_VIO_B_25 = b ∧
      (fell → t.bf F.PWR_STAT_RAIL_FAULT = true ∧ (⟨2, 12, 0, false, s.tick⟩ : FaultMsg) ∈ t.fcu.inbox) ∧
      (¬ fell → t.bf F.PWR_STAT_RAIL_FAULT = s.bf F.PWR_STAT_RAIL_FAULT) ∧
      (bit good.toNat 0 = true → t.ztt = s.ztt) ∧ (bit good.toNat 0 = false → t.ztt = { s.ztt with tx := none }) ∧
      (∀ x, bit good.toNat 0 = false → s.ztt.tx = some x → ∀ o ∈ Cuts x, o ∈ t.outbox) ∧
      (bit good.toNat 1 = false → t.ethLink 6 = false ∧ t.ethLink 7 = false) ∧ (t.vioA = bit good.toNat 0) ∧
      (t.dramUp = (!s.bf F.DMC_STAT_SREF && bit good.toNat 2 && bit good.toNat 3)) ∧
      t = { s with regs := t.regs, eth := t.eth, yrd := t.yrd, sch := t.sch, qm := t.qm, host := t.host, fcu := t.fcu, outbox := t.outbox, irq := t.irq,
                   ztt := t.ztt })) ∧
    (s.stopped = true → Into (.railChange good a b) s (s.sfs [(F.PWR_RAIL_STAT_GOOD, good.toNat), (F.PWR_RAIL_STAT_VIO_A_33, b2n a),
      (F.PWR_RAIL_STAT_VIO_B_25, b2n b)]))) ∧
  (∀ (s : State) (tj : BitVec 16), s.stopped = false →
    let now := tj.toInt
    let lim := s.tjLimit
    Does (.thermal tj) s (fun t => t.gf F.PWR_TEMP_TJ = tj.toNat ∧
      (lim ≤ now → s.pwr.hot = false → t.bf F.PWR_STAT_THERMAL = true ∧
        (⟨2, 11, tj.toNat + s.gf F.PWR_TJ_LIMIT_LIMIT * 2 ^ 16, false, s.tick⟩ : FaultMsg) ∈ t.fcu.inbox) ∧
      (now < lim ∨ s.pwr.hot = true → t.bf F.PWR_STAT_THERMAL = s.bf F.PWR_STAT_THERMAL) ∧
      (lim ≤ now → t.bf F.PWR_STAT_THERM_SHED = (s.bf F.PWR_STAT_THERM_SHED || s.bf F.PWR_CTL_THERM_SH1)) ∧
      (now ≤ lim - 80 → t.bf F.PWR_STAT_THERM_SHED = false) ∧
      (lim - 80 < now → now < lim → t.bf F.PWR_STAT_THERM_SHED = s.bf F.PWR_STAT_THERM_SHED) ∧ t.gf F.PWR_STAT_SH = s.gf F.PWR_STAT_SH ∧
      (t.bf F.PWR_STAT_THERM_SHED = s.bf F.PWR_STAT_THERM_SHED → t = { s with regs := t.regs, fcu := t.fcu, pwr := t.pwr, irq := t.irq } ∧
        (now < lim ∨ s.pwr.hot = true → t.fcu = s.fcu)) ∧
      (∀ p : Fin 8, t.bf F.PWR_STAT_THERM_SHED ≠ s.bf F.PWR_STAT_THERM_SHED → s.gf F.PWR_STAT_SH = 0 → s.bf (F.ETH_CTL_EN p) = true →
        s.gf (F.ETH_MODE_MODE p) = 1 → t.bf F.PWR_STAT_THERM_SHED = true → t.gf (F.ETH_STAT_ACT_MODE p) = s.gf (F.ETH_MODE_SHED_MODE p)) ∧
      t.shedEff = max (s.gf F.PWR_STAT_SH) (if t.bf F.PWR_STAT_THERM_SHED = true then 1 else 0) ∧
      t = { s with regs := t.regs, eth := t.eth, yrd := t.yrd, sch := t.sch, qm := t.qm, host := t.host, fcu := t.fcu, outbox := t.outbox, irq := t.irq,
                   pwr := { s.pwr with hot := decide (lim ≤ now) } }))

/-- R13, R50, R394 to R399, R416, R418. That RST_N raised too early is a fault is the model's choice (log 121). -/
def Obligations.ResetsHoldAndRelease : Prop :=
  (∀ s : State, let b := GctlIs s { s.gctl with rstLow := some s.tick }
    (s.gctl.rstLow = none → s.vioA = true ∨ s.gctl.inReset = true → Does (.rstN true) s (fun t => ColdFrom b t 2)) ∧
    (s.gctl.rstLow.isSome = true ∨ (s.vioA = false ∧ s.gctl.inReset = false) → Into (.rstN true) s s) ∧
    (s.gctl.rstLow = none → Into (.rstN false) s s) ∧
    (∀ e, s.gctl.rstLow = some e →
      (e + 250 ≤ s.tick → Into (.rstN false) s { s with
        gctl := { s.gctl with rstLow := none, relFrom := s.tick }, sec := { s.sec with extest := false } }) ∧
      (s.tick < e + 250 → exec (.rstN false) s = .fault .rstHeldTooShort))) ∧
  (∀ (s : State) (sel : BitVec 2) (role : Bool),
    let may := s.gctl.inReset = true ∧ s.gctl.rstLow = none ∧ s.gctl.brown = false ∧ s.gctl.frzLow = false ∧ s.gctl.relFrom + 25000 ≤ s.tick
    let u := ((GctlIs s { s.gctl with inReset := false }).sf F.GCTL_BOOT_STAT_BOOT_SEL sel.toNat).sf F.GCTL_BOOT_STAT_TWIN_ROLE (b2n role)
    (¬ may → Into (.resetRelease sel role) s s) ∧
    (may → s.sec.relWait = false → Into (.resetRelease sel role) s u) ∧
    (may → s.sec.relWait = true →
      Into (.resetRelease sel role) s (SecIs u { s.sec with waitEnd := some (s.tick + 60 * 250000000), relWait := false }))) ∧
  (∀ (s u : State) (w : Writer) (v : BitVec 32), Asks s u w →
    let key := v.toNat / 2 ^ 24 = 0xA5
    let old := u.dbgLevel
    (key → Does (.cold w v) s (fun t => ColdFrom u t 4)) ∧
    (¬ key → Into (.cold w v) s (u.sf F.GCTL_STAT_CFG_REJ 1) ∧ Into (.warm w v) s (u.sf F.GCTL_STAT_CFG_REJ 1)) ∧
    (key → w.mayControl s = false ∨ s.safe = true ∨ s.bf F.GCTL_BOOT_STAT_DONE = false → Into (.warm w v) s (u.sf F.GCTL_STAT_CFG_REJ 1)) ∧
    (key → w.mayControl s = true → s.safe = false → s.bf F.GCTL_BOOT_STAT_DONE = true → Does (.warm w v) s (fun t =>
      t.gctl = { u.gctl with cause := 5, warmCnt := min 65535 (s.gctl.warmCnt + 1), froze := false, wasSafe := false, reloadDue := true, phase := 0,
                             imgFlags := 0, ownerHash := [], heldLocks := [], lastFail := 0, twinRetry := none } ∧
      (∀ off, warmKeeps off = false → off ≠ R.GCTL_BOOT_STAT → off ≠ R.SEC_STAT → off ≠ R.LFT_STAT → t.reg off = (resetAt off).toNat) ∧
      (∀ off, warmKeeps off = true → off ≠ R.EVR_CNT_HW_LOST → t.reg off = u.reg off) ∧
      t.bf F.GCTL_BOOT_STAT_DONE = false ∧ t.gf F.GCTL_BOOT_STAT_BOOT_SEL = s.gf F.GCTL_BOOT_STAT_BOOT_SEL ∧
      t.gf F.GCTL_BOOT_STAT_TWIN_ROLE = s.gf F.GCTL_BOOT_STAT_TWIN_ROLE ∧ t.dbgLevel = 0 ∧ t.lftReady = false ∧ t.lftShed = s.lftShed ∧
      (∀ i, t.thr i = { Thread.init with pc := (s.thr i).pc, lastPc := (s.thr i).lastPc, instret := (s.thr i).instret, nextId := (s.thr i).nextId }) ∧
      (∀ i, ∀ x ∈ (s.thr i).txns, x.isAccess = true → (i, { x with granted := true }) ∈ t.brn.orphans) ∧
      t.brn = { u.brn with thr := t.brn.thr, gpr := [], div := [], pad := [], qWait := [], icAgain := false, orphans := t.brn.orphans,
                           rstEnd := BrnSt.init.rstEnd } ∧
      t.lft = { u.lft with txns := [], pins := [], views := List.replicate 16 none, held := [], writes := [], closed := [], opn := none, next := none,
                           extra := none, work := 0, redo := 0, repl := [], inbox := [], sealed := 0, sweeps := [], vep := List.replicate 16 0 } ∧
      (waitingOf 0x8001 u.evr.offered < 4 → u.gf F.PWR_STAT_PS ≠ 4 →
        u.mkRec 0x0011 0x8001 (5 + min 65535 (s.gctl.warmCnt + 1) * 2 ^ 16) 0 ∈ t.evr.offered) ∧
      (old ≠ 0 → waitingOf 0x8004 u.evr.offered < 4 → u.gf F.PWR_STAT_PS ≠ 4 → u.mkRec 0x0041 0x8004 (old * 4 + 48) 0 ∈ t.evr.offered) ∧
      t = { u with regs := t.regs, hiCap := [], fcu := FcuSt.init, arb := ArbSt.init, eth := [], yrd := YrdSt.init, sch := SchSt.init,
                   red := t.red, vox := VoxSt.init, sax := { SaxSt.init with dark := s.sax.dark },
                   qm := { s.qm with iq := [], pair := [], cmds := [], rstEnd := none, held := [] }, sec := { s.sec with nonce := none, data := [] },
                   brn := t.brn, lft := t.lft, gctl := t.gctl, evr := { u.evr with offered := t.evr.offered }, irq := t.irq }))) ∧
  (∀ (s : State) (w : Writer) (v : BitVec 32), s.stopped = false → s.asks w = false ∨ (w = .jtag ∧ s.dbgLevel ≠ 2) →
    Into (.cold w v) s s ∧ Into (.warm w v) s s) ∧
  (∀ s : State,
    let u := fun b => GctlIs s { s.gctl with frzLow := b }
    let w := GctlIs s { s.gctl with frzLow := true, frozen := true, froze := true }
    (s.vioA = false → Into (.freeze true) s s) ∧
    (s.vioA = true → s.gctl.inReset = true ∨ s.gctl.frozen = true → Into (.freeze true) s (u true)) ∧
    (s.vioA = true → s.gctl.inReset = false → s.gctl.frozen = false →
      (s.ztt.tx = none → Into (.freeze true) s (w.sf F.DMC_STAT_SREF 1)) ∧
      (∀ x, s.ztt.tx = some x → Into (.freeze true) s ((({ (ZttIs w { s.ztt with tx := none }) with outbox := s.outbox ++ Cuts x } : State)).sf F.DMC_STAT_SREF 1)) ∧
      Does (.freeze true) s (fun t => t.stopped = true ∧ t.errPin = true)) ∧
    (s.gctl.inReset = true → Into (.freeze false) s (GctlIs s { s.gctl with frzLow := false, relFrom := s.tick })) ∧
    (s.gctl.inReset = false → Into (.freeze false) s (u false)))

/-- R5, R400 to R407. -/
def Obligations.BootRomAndImages : Prop :=
  (∀ s : State, s.stopped = false →
    let idle := s.gctl.phase ≠ 0 ∨ s.gctl.reloadDue = true ∨ s.bf F.GCTL_BOOT_STAT_DONE = true
    let g := s.gctl.fuses.grade
    let sel := s.gf F.GCTL_BOOT_STAT_BOOT_SEL
    (idle → Into .boot s s) ∧
    (¬ idle → g = 0 ∨ g = 3 → Into .boot s (Phase (Reports s 0x10 1 g) 5)) ∧
    (¬ idle → g ≠ 0 → g ≠ 3 → (sel = 3 → Into .boot s (Phase (Reports s 0x11 4 0x11) 5)) ∧
      (sel ≠ 3 → s.gctl.dramOk = false → Into .boot s (Phase (Reports s.dramTrain 0x19 4 0x19) 5)) ∧
      (sel ≠ 3 → s.gctl.dramOk = true → Into .boot s s.dramTrain.bootFetch))) ∧
  (∀ s : State, let ch := if s.gctl.dramMiB ≤ 1792 then 1 else 3
    (s.gctl.dramOk = false → s.dramTrain = s.sf F.DMC_STAT_FITTED ch) ∧
    (s.gctl.dramOk = true → s.dramTrain = ((((s.sf F.DMC_STAT_FITTED ch).sf F.DMC_STAT_TRAINED ch).sf F.DMC_STAT_READY 1).sf F.DMC_SIZE_USABLE
      s.gctl.dramMiB).setReg R.GCTL_IMG_BASE ((s.gctl.dramMiB - 16) * 2 ^ 20))) ∧
  (∀ s : State, let sel := s.gf F.GCTL_BOOT_STAT_BOOT_SEL
    let u := s.sf F.VOX_CTL_EN (s.gf F.VOX_CTL_EN ||| 1)
    (sel = 0 → s.bootFetch = Phase (s.sf F.GCTL_BOOT_STAT_CODE 0) 1) ∧ (sel = 1 → s.bootFetch = Phase (s.sf F.GCTL_BOOT_STAT_CODE 2) 3) ∧
    (2 ≤ sel → s.linkUp 0 = true → s.bootFetch = u.twinAsk) ∧
    (2 ≤ sel → s.linkUp 0 = false →
      s.bootFetch = GctlIs (u.sf F.GCTL_BOOT_STAT_CODE 3) { s.gctl with phase := 4, twinRetry := some (s.tick + 250000000 + 25000000) })) ∧
  (∀ s : State, s.twinAsk = ({ (GctlIs s { s.gctl with phase := 4, twinRetry := some (s.tick + 2 * 25000000) }) with
    outbox := s.outbox ++ [⟨.imgRequest, 0, []⟩] } : State).sf F.GCTL_BOOT_STAT_CODE 3) ∧
  (∀ (s : State) (l : List Byte), s.stopped = false →
    let img := l.take (min 0x1000000 (max 384 (imgLen l)))
    let u := s.wrL s.stagingAddr img
    let code := if img.length < imgLen l then 0x13 else u.bootJudge false none img
    let v := Reports u code 4 code
    (s.gctl.phase ≠ 1 → s.gctl.phase ≠ 2 → s.gctl.phase ≠ 4 → Into (.imageFetched l) s s) ∧
    (s.gctl.phase = 1 ∨ s.gctl.phase = 2 ∨ s.gctl.phase = 4 → code = 0 → Into (.imageFetched l) s (u.bootPass img)) ∧
    (s.gctl.phase = 1 → code ≠ 0 → Into (.imageFetched l) s (Phase ((v.sf F.GCTL_BOOT_STAT_CODE 0).sf F.GCTL_BOOT_STAT_COPY_B 1) 2)) ∧
    (s.gctl.phase = 2 → code ≠ 0 → Into (.imageFetched l) s (Phase v 5)) ∧
    (s.gctl.phase = 4 → code ≠ 0 → Into (.imageFetched l) s (GctlIs v { v.gctl with twinRetry := some (s.tick + 25000000) }))) ∧
  (∀ (f : Fuses) (given : Option Nat) (l : List Byte),
    let h := headerOk l = true ∧ (∀ n, given = some n → n = imgLen l)
    let p := imgN l 12 2 = 0x7128 ∧ bit (imgN l 14 2) 1 = true
    let k := imgN l 17 1
    let key := k < 4 ∧ bit f.prog k = true ∧ bit f.revoked k = false ∧ Config.sha256 (sliceB l 32 64) = f.keyHash.getD k []
    let sig := Config.ecdsaVerify (sliceB l 32 64) (Config.sha256 (l.take (imgLen l - 64))) (sliceB l (imgLen l - 64) 64) = true
    (¬ h → imageCheck f given l = 0x13) ∧ (h → ¬ p → imageCheck f given l = 0x14) ∧
    (h → p → ¬ key → imageCheck f given l = 0x15) ∧
    (h → p → key → imgN l 16 1 < f.svnMin → imageCheck f given l = 0x16) ∧
    (h → p → key → f.svnMin ≤ imgN l 16 1 → ¬ sig → imageCheck f given l = 0x17) ∧
    (h → p → key → f.svnMin ≤ imgN l 16 1 → sig → sectionsOk l = false → imageCheck f given l = 0x18) ∧
    (h → p → key → f.svnMin ≤ imgN l 16 1 → sig → sectionsOk l = true → imageCheck f given l = 0)) ∧
  (∀ (s : State) (warm : Bool) (given : Option Nat) (l : List Byte),
    (s.bootJudge warm given l = 0 ↔ imageCheck s.gctl.fuses given l = 0 ∧ (s.bootLoad warm l).isSome = true) ∧
    (∀ u, (((if warm then s else GctlIs s { s.gctl with staged := true }).setReg R.GCTL_IMG_LEN (imgLen l)).setReg R.GCTL_IMG_VER
        (imgN l 20 4)).bootLoad warm l = some u →
      (if warm then s.bootRun true l else s.bootPass l) = (u.bootFlags l).bootStart warm l)) ∧
  (∀ (s : State) (l : List Byte) (x : Section) (xs : List Section), let body := sliceB l x.off x.len
    s.loadSections l [] = some s ∧
    (x.typ = 1 → s.loadSections l (x :: xs) = (s.wrL (codeBase + x.dst) body).loadSections l xs) ∧
    (x.typ = 2 → s.loadSections l (x :: xs) = (s.loadBarns (x.dst / 2 ^ 24) (x.dst % 2 ^ 19) body).loadSections l xs) ∧
    (x.typ = 3 → s.loadSections l (x :: xs) = (s.loadPaddocks body).bind (fun u => u.loadSections l xs)) ∧
    (x.typ ≠ 1 → x.typ ≠ 2 → x.typ ≠ 3 → s.loadSections l (x :: xs) = s.loadSections l xs)) ∧
  (∀ (s : State) (mask off : Nat) (body : List Byte), off + body.length ≤ 0x80000 → (∀ a, s.eccOf a = .ok) → let t := s.loadBarns mask off body
    (∀ b : Fin 8, t.rdB (barnBase b + off) body.length = (if bit mask b then body else s.rdB (barnBase b + off) body.length)) ∧
    t = { s with mem := t.mem, ecc := t.ecc }) ∧
  (∀ (s : State) (th : Fin 512) (r : List Byte), s.loadThread th r =
    (ThrIs s th { s.thr th with pc := imgN r 0 4 / 4 % 2 ^ 19 * 4 }).sf (F.BRN_THR_CTL_PADDOCK (barnOf th) (engOf th) (thrOf th)) (imgN r 4 1 % 32)) ∧
  (∀ (s : State) (ok : Nat → Bool) (warm : Bool) (l : List (Nat × Nat)),
    (s.loadRecs ok warm l = none ↔ ∃ r ∈ l, r.1 % 4 ≠ 0 ∨ ok r.1 = false) ∧
    (∀ off v, off % 4 = 0 → ok off = true → s.loadRecs ok warm ((off, v) :: l) =
      (if warm = true ∧ ((0x50000 ≤ off ∧ off < 0x80000) ∨ (0x120000 ≤ off ∧ off < 0x140000)) then s else s.loadRec off v).loadRecs ok warm l)) ∧
  (∀ (s : State) (off v : Nat),
    (off ∈ lockRegs → bit v 31 = true → s.loadRec off v = ctlStore .rom off (v % 2 ^ 31) (GctlIs s { s.gctl with heldLocks := s.gctl.heldLocks ++ [off] })) ∧
    (off ∉ lockRegs ∨ bit v 31 = false → s.loadRec off v = ctlStore .rom off v s)) ∧
  (∀ (s : State) (l : List Byte), let t := s.bootFlags l
    t.bf F.QM_QSPI_CFG_MGMT_EN = bit (imgN l 18 2) 3 ∧ t.dbgLevel = (if bit (imgN l 18 2) 4 = true then min 1 s.dbgLevel else s.dbgLevel) ∧
    t.gctl = { s.gctl with imgFlags := imgN l 18 2, ownerHash := sliceB l 96 32, keySlot := imgN l 17 1 } ∧
    (∀ o, o ≠ R.QM_QSPI_CFG → o ≠ R.SEC_STAT → t.reg o = s.reg o) ∧ t = { s with regs := t.regs, gctl := t.gctl }) ∧
  (∀ (s : State) (warm : Bool) (l : List Byte), let t := s.bootStart warm l
    t.bf F.GCTL_BOOT_STAT_DONE = true ∧ t.bf F.GCTL_BOOT_STAT_WARM = warm ∧ t.gf F.GCTL_BOOT_STAT_CODE = 1 ∧
    t.gf F.GCTL_BOOT_STAT_SVN = imgN l 16 1 % 2 ^ (F.GCTL_BOOT_STAT_SVN.hi + 1 - F.GCTL_BOOT_STAT_SVN.lo) ∧
    t.gctl = { s.gctl with phase := 6, heldLocks := [], twinRetry := none, reloadDue := false, lastFail := 0 } ∧
    t = { s with regs := t.regs, brn := { s.brn with thr := t.brn.thr }, gctl := t.gctl } ∧
    (∀ u, (∀ x ∈ runThreads l, x.1 ≠ u) → t.thr u = s.thr u) ∧
    ((∀ o ∈ s.gctl.heldLocks, o ∈ lockRegs) →
      (∀ b : Fin 8, t.bf (F.BRN_CTL_EN b) = (s.bf (F.BRN_CTL_EN b) || bit (usedBarns l) b)) ∧
      (∀ o ∈ lockRegs, o ∈ s.gctl.heldLocks ∨ bit (imgN l 18 2) 2 = true → bit (t.reg o) 31 = true) ∧
      (∀ x ∈ runThreads l, (s.thr x.1).st = 0 → s.bf (F.BRN_STAT_RST_BUSY (barnOf x.1)) = false →
        bit (s.gf (F.BRN_ENG_DIS_DIS (barnOf x.1))) (engOf x.1) = false →
        t.thr x.1 = { s.thr x.1 with st := 1, instret := 0 } ∧ t.padOf x.1 = x.2))) ∧
  (∀ (s : State) (v : BitVec 32), Runs s →
    let u := s.wake 3
    let n := v.toNat % 2 ^ 25
    let img := u.rdB u.stagingAddr (min 0x1000000 (max 384 n))
    let code := u.bootJudge false (some n) img
    (s.gctl.phase ≠ 3 ∨ s.gctl.perst = true → Into (.go v) s u) ∧
    (s.gctl.phase = 3 → s.gctl.perst = false → (code = 0 → Into (.go v) s ((u.sf F.GCTL_BOOT_STAT_CODE 0).bootPass img)) ∧
      (code ≠ 0 → Into (.go v) s (Reports u code 4 code)))) ∧
  (∀ (s : State) (off : BitVec 24) (l : List Byte), s.stopped = false → let u := s.wake 3
    (s.gctl.phase ≠ 3 ∨ s.gctl.perst = true → Into (.stagingWrite off l) s u) ∧
    (s.gctl.phase = 3 → s.gctl.perst = false → Into (.stagingWrite off l) s (u.wrL (u.stagingAddr + off.toNat) (l.take (0x1000000 - off.toNat))))) ∧
  (∀ s : State, s.stopped = false →
    (s.gctl.twinRetry = none ∨ s.gctl.phase ≠ 4 → Into .twinBootRetry s s) ∧
    (∀ n, s.gctl.twinRetry = some n → s.gctl.phase = 4 → (s.tick < n → Into .twinBootRetry s s) ∧
      (n ≤ s.tick → (s.linkUp 0 = true → Into .twinBootRetry s s.twinAsk) ∧ (s.linkUp 0 = false → Into .twinBootRetry s
        (GctlIs (s.sf F.GCTL_BOOT_STAT_CODE 3) { s.gctl with twinRetry := some (s.tick + 250000000 + 25000000) })))) ∧
    (s.bf F.GCTL_BOOT_STAT_DONE = true → bit s.gctl.imgFlags 1 = true → Into .twinImageRequest s
      { s with outbox := s.outbox ++ [⟨.imgData, 0, s.rdB s.stagingAddr (s.reg R.GCTL_IMG_LEN)⟩] }) ∧
    (s.bf F.GCTL_BOOT_STAT_DONE = false ∨ bit s.gctl.imgFlags 1 = false → Into .twinImageRequest s s)) ∧
  (∀ s : State, s.stopped = false →
    let u := (GctlIs s { s.gctl with reloadDue := false }).setReg R.GCTL_IMG_BASE ((s.gctl.dramMiB - 16) * 2 ^ 20)
    let img := u.rdB u.stagingAddr (min 0x1000000 (max 384 (imgLen (u.rdB u.stagingAddr 384))))
    let code := u.bootJudge true none img
    (s.gctl.reloadDue = false → Into .warmReload s s) ∧
    (s.gctl.reloadDue = true → s.gctl.staged = true → code = 0 → Into .warmReload s (u.bootRun true img)) ∧
    (s.gctl.reloadDue = true → s.gctl.staged = true → code ≠ 0 → Into .warmReload s (Reports u code 4 code).bootFetch) ∧
    (s.gctl.reloadDue = true → s.gctl.staged = false → Into .warmReload s u.bootFetch))

/-- R411 to R415, R419. Results: 0 OK, 1 WRONG, 2 BACKOFF, 3 NO_NONCE, 4 DISABLED. -/
def Obligations.DebugAndFuses : Prop :=
  (∀ (s u : State) (w : Writer), Debugs s w → u = wakeBy w s →
    let noOwner := ∀ x ∈ s.gctl.ownerHash, x = 0
    let right := Config.sha256 (sliceB s.sec.data 0 16) = s.gctl.ownerHash
    let lv := s.dbgLevel
    let up := max 1 lv
    (s.backoff = true → Into (.password w) s (Over (u.logRec 4 0x0042 (1 + 4 + s.sec.fails * 256) s.waitSecs) 2)) ∧
    (s.backoff = false → noOwner → Into (.password w) s (Over (u.logRec 4 0x0042 (1 + 8 + s.sec.fails * 256) s.waitSecs) 4)) ∧
    (s.backoff = false → ¬ noOwner → right →
      Into (.password w) s (Over (((Cleared u).sf F.SEC_STAT_LEVEL up).logRec 4 0x0041 (up + lv * 4 + dbgChannel w * 16) 0) 0)) ∧
    (s.backoff = false → ¬ noOwner → ¬ right → let x := Erred u
      Into (.password w) s (Over (x.logRec 4 0x0042 (1 + x.sec.fails * 256) x.waitSecs) 1))) ∧
  (∀ (s u : State) (w : Writer), Debugs s w → u = wakeBy w s → let lv := s.dbgLevel
    let n := leBytes 8 (Config.freeVal s.free).toNat ++ leBytes 8 (Config.freeVal (s.free + 1)).toNat
    let x := SecIs { u with free := s.free + 2 } { s.sec with nonce := some (n, s.tick + 60 * 250000000) }
    Into (.challenge w) s (Over ((x.sf F.SEC_STAT_LEVEL lv).logRec 4 0x0041 (lv + lv * 4 + dbgChannel w * 16) 0) 0) ∧
    Into (.debugClose w) s (Over ((u.sf F.SEC_STAT_LEVEL 0).logRec 4 0x0041 (lv * 4 + 3 * 16) 0) 0)) ∧
  (∀ (s u : State) (w : Writer), Debugs s w → u = wakeBy w s →
    let v := SecIs u { s.sec with nonce := none }
    let lv := s.dbgLevel
    let right := fun n => s.dbgAnswer n = sliceB s.sec.data 0 16
    (s.backoff = true → Into (.response w) s (Over (v.logRec 4 0x0042 (2 + 4 + s.sec.fails * 256) s.waitSecs) 2)) ∧
    (s.backoff = false → s.nonceNow = none → Into (.response w) s (Over (v.logRec 4 0x0042 (2 + 8 + s.sec.fails * 256) s.waitSecs) 3)) ∧
    (∀ n, s.backoff = false → s.nonceNow = some n →
      (¬ right n → let x := Erred v; Into (.response w) s (Over (x.logRec 4 0x0042 (2 + x.sec.fails * 256) x.waitSecs) 1)) ∧
      (right n → bit s.gctl.imgFlags 4 = true → Into (.response w) s (Over (v.logRec 4 0x0042 (2 + 8 + s.sec.fails * 256) s.waitSecs) 4)) ∧
      (right n → bit s.gctl.imgFlags 4 = false →
        Into (.response w) s (Over (((Cleared v).sf F.SEC_STAT_LEVEL 2).logRec 4 0x0041 (2 + lv * 4 + dbgChannel w * 16) 0) 0)))) ∧
  (∀ (s : State) (n : List Byte), s.dbgAnswer n = (Config.hmac s.gctl.fuses.deviceKey (n ++ leBytes 8 s.gctl.fuses.serial)).take 16 ∧
    (s.nonceNow = some n ↔ ∃ e, s.sec.nonce = some (n, e) ∧ s.tick < e) ∧ (s.backoff = true ↔ ∃ e, s.sec.waitEnd = some e ∧ s.tick < e) ∧
    (∀ e, s.sec.waitEnd = some e → s.waitSecs = ceilDiv (e - s.tick) 250000000)) ∧
  (∀ (s : State) (th : Fin 512) (c : Writer → Instr), c ∈ [Instr.password, .challenge, .response, .debugClose] → Runs s →
    (s.ctlWr th = true → Into (c (.thread th)) s (s.sf F.SEC_STAT_CFG_REJ 1)) ∧ (s.ctlWr th = false → Into (c (.thread th)) s s) ∧
    (s.mgmtOn = false → Into (c .mgmt) s s)) ∧
  (∀ s : State, s.gctl.frozen = true ∨ s.gctl.inReset = false →
    (s.sec.nonce = none → Does .nonceExpire s (fun t => t = { s with irq := t.irq })) ∧
    (∀ n e, s.sec.nonce = some (n, e) → (s.tick < e → Does .nonceExpire s (fun t => t = { s with irq := t.irq })) ∧
      (e ≤ s.tick → Does .nonceExpire s (fun t => t = { s with sec := { s.sec with nonce := none }, irq := t.irq }))) ∧
    (s.sec.waitEnd = none → Does .debugWaitEnd s (fun t => t = { s with irq := t.irq })) ∧
    (∀ e, s.sec.waitEnd = some e → (s.tick < e → Does .debugWaitEnd s (fun t => t = { s with irq := t.irq })) ∧
      (e ≤ s.tick → Does .debugWaitEnd s (fun t => t = { s with sec := { s.sec with waitEnd := none }, irq := t.irq } ∧ t.backoff = false)))) ∧
  (∀ (s u : State) (w : Writer) (v : BitVec 32), FuseAsked s u w v.toNat →
    let svn := v.toNat % 64
    let rev := v.toNat / 2 ^ 20 % 16
    let own := s.bf F.GCTL_BOOT_STAT_DONE = true ∧ bit rev s.gctl.keySlot = true
    let lo := s.gf F.GCTL_BOOT_STAT_SVN < svn ∨ svn < s.gctl.fuses.svnMin
    let r := u.sf F.SEC_FUSE_RES_VALID 0
    let burn := fun (n : Nat) => (SecIs u { s.sec with fuse := some (s.tick + 2500000, 0, n, s.gctl.fuses.revoked ||| rev) }).sf F.SEC_FUSE_RES_VALID 0
    (own ∨ lo → Into (.svnEn w v) s (FuseOver r 1)) ∧ (¬ own → ¬ lo → Into (.svnEn w v) s (burn svn)) ∧
    (own → Into (.revoke w v) s (FuseOver r 1)) ∧ (¬ own → Into (.revoke w v) s (burn s.gctl.fuses.svnMin))) ∧
  (∀ (s : State) (w : Writer) (v : BitVec 32) (c : Writer → BitVec 32 → Instr), c ∈ [Instr.svnEn, .revoke] → Runs s → let u := wakeBy w s
    (s.asks w = false → Into (c w v) s s) ∧
    (s.asks w = true → fuseWriter w u = false ∨ v.toNat / 2 ^ 24 % 256 ≠ 0x5C ∨ u.sec.fuse ≠ none → Into (c w v) s (u.sf F.SEC_STAT_CFG_REJ 1))) ∧
  (∀ (s : State), s.gctl.frozen = true ∨ s.gctl.inReset = false →
    (s.sec.fuse = none → ∀ ok, Does (.fuseDone ok) s (fun t => t = { s with irq := t.irq })) ∧
    (∀ a b svn rev, s.sec.fuse = some (a, b, svn, rev) →
      let u := fun (f : Fuses) => SecIs (GctlIs s { s.gctl with fuses := f }) { s.sec with fuse := none }
      Does (.fuseDone true) s (fun t => t = { FuseOver (u { s.gctl.fuses with svnMin := svn, revoked := rev }) 0 with irq := t.irq }) ∧
      Does (.fuseDone false) s (fun t => ∃ n k, (n = svn ∨ n = s.gctl.fuses.svnMin) ∧ (k = rev ∨ k = s.gctl.fuses.revoked) ∧
        t = { FuseOver (u { s.gctl.fuses with svnMin := n, revoked := k }) 2 with
              free := s.free + 1, fcu := { s.fcu with inbox := s.fcu.inbox ++ [⟨4, 13, 0, false, s.tick⟩] }, irq := t.irq })))

/-- R8 to R11, R175, R398, R410, R417. The emissions on TDO and to the host are the model's own record of what goes out. -/
def Obligations.JtagAndRegisterAccesses : Prop :=
  (∀ s : State, (s.tapOn = true ↔ s.gctl.brown = false ∧ bit (s.reg R.PWR_RAIL_STAT) 0 = true) ∧
    (s.tapOn = false → ∀ c, Tapped c → exec c s = .next s)) ∧
  (∀ s : State, s.tapOn = true →
    exec .idcode s = .next (s.endExtest.emit .jtag 1 (leBytes 4 0x17128B4F)) ∧
    exec .bypass s = .next (s.endExtest.emit .jtag 0xFF [0]) ∧
    (∀ v, exec (.samplePreload v) s = .next (SecIs s { s.sec with bsr := v, extest := false })) ∧
    (s.gctl.rstLow.isSome = true → exec .extest s = .next (SecIs s { s.sec with extest := true })) ∧
    (s.gctl.rstLow = none → exec .extest s = exec .bypass s)) ∧
  (∀ (s : State) (write : Bool) (addr : BitVec 48) (v : BitVec 32) (src : BitVec 8), s.tapOn = true →
    (s.dbgLevel = 0 → exec (.diagRead addr) s = exec .bypass s) ∧
    (s.dbgLevel < 2 → exec (.regAccess write addr v) s = exec .bypass s ∧ exec (.memRead addr) s = exec .bypass s) ∧
    (s.dbgLevel < 2 ∨ s.gctl.frozen = false → exec (.frzChain src) s = exec .bypass s)) ∧
  (∀ (s : State) (a : Nat), let o := a - ctlBase
    (a % 4 = 0 → ctlBase ≤ a → o < 0x4000000 → jtagRead a s = ((ctlRead o s).1, some (ctlRead o s).2)) ∧
    (a % 4 ≠ 0 ∨ a < ctlBase ∨ 0x4000000 ≤ o → jtagRead a s = (s, none)) ∧
    (a % 4 = 0 → ctlBase ≤ a → o < 0x4000000 → s.gctl.inReset = false → ∀ v, jtagWrite a v s = ((ctlWrite .jtag o v s).irqSync, none)) ∧
    (a % 4 ≠ 0 ∨ a < ctlBase ∨ 0x4000000 ≤ o ∨ s.gctl.inReset = true → ∀ v, jtagWrite a v s = (s, none))) ∧
  (∀ (s : State) (addr : BitVec 48) (v : BitVec 32), s.tapOn = true →
    let a := addr.toNat
    let r := Shifts s 0x11
    let x := jtagRead a r
    let y := jtagRead a (Shifts s 0x12)
    let m := Shifts s 0x13
    let o := a - ctlBase - 0x1000000
    let window := a % 4 = 0 ∧ ctlBase + 0x1000000 ≤ a ∧ a < ctlBase + 0x1004000
    (1 ≤ s.dbgLevel → ¬ window → exec (.diagRead addr) s = .next (Holds x.1 x.2)) ∧
    (1 ≤ s.dbgLevel → window → let z := winRead (o / 0x1000) (o % 0x1000) r; exec (.diagRead addr) s = .next (Holds z.1 (some z.2))) ∧
    (2 ≤ s.dbgLevel → exec (.regAccess false addr v) s = .next (Holds y.1 y.2)) ∧
    (2 ≤ s.dbgLevel → s.gctl.frozen = true → exec (.regAccess true addr v) s = .next (Holds (Shifts s 0x12) none)) ∧
    (2 ≤ s.dbgLevel → s.gctl.frozen = false → let z := jtagWrite a v.toNat (Shifts s 0x12)
      exec (.regAccess true addr v) s = .next (Holds z.1 z.2)) ∧
    (2 ≤ s.dbgLevel → a % 4 = 0 → m.memReach a = true → s.saxTable a = false → exec (.memRead addr) s = .next (Holds m (some (s.rdN a 4)))) ∧
    (2 ≤ s.dbgLevel → a % 4 = 0 → m.memReach a = true → s.saxTable a = true → Does (.memRead addr) s (fun t => ∃ v < 2 ^ 32,
      t = Holds { m with free := s.free + 1 } (some v))) ∧
    (2 ≤ s.dbgLevel → a % 4 ≠ 0 ∨ m.memReach a = false → exec (.memRead addr) s = .next (Holds m none))) ∧
  (∀ (s : State) (write : Bool) (addr : BitVec 48) (v : BitVec 32), s.tapOn = true →
    let a := addr.toNat
    let u := Shifts s 0x10
    let o := a - ctlBase
    (a < ctlBase ∨ o < 0x40000 ∨ 0x50000 ≤ o → exec (.secAccess write addr v) s = .next (Holds u none)) ∧
    (ctlBase ≤ a → 0x40000 ≤ o → o < 0x50000 → let r := if write then jtagWrite a v.toNat u else jtagRead a u
      exec (.secAccess write addr v) s = .next (Holds r.1 r.2))) ∧
  (∀ (s : State) (src : BitVec 8), s.tapOn = true → 2 ≤ s.dbgLevel → s.gctl.frozen = true → Does (.frzChain src) s (fun t =>
    ∃ l, l.length = 8 ∧ t = { s.endExtest with free := s.free + 1, outbox := s.outbox ++ [⟨.jtag, 0x1400 + src.toNat, l⟩] })) ∧
  (∀ (s : State) (w : Writer) (off : BitVec 26) (v : BitVec 32) (be : BitVec 4), s.stopped = false →
    let u := wakeBy w s
    let o := off.toNat / 4 * 4
    (s.reaches w = false → Into (.registerWrite w off v be) s s) ∧
    (s.reaches w = true → be = 15 → Into (.registerWrite w off v be) s (ctlWrite w o v.toNat u)) ∧
    (s.reaches w = true → findReg o = none → Into (.registerWrite w off v be) s u) ∧
    (s.reaches w = true → be ≠ 15 → (findReg o).isSome = true → Into (.registerWrite w off v be) s (FcuIs u { u.fcu with
      inbox := u.fcu.inbox ++ [⟨1, 7, (o + lowBit be.toNat) + be.toNat * 2 ^ 32 + writerId w * 2 ^ 48, false, s.tick⟩] }))) ∧
  (∀ (s : State) (off : BitVec 26) (be : BitVec 4), s.stopped = false →
    let o := off.toNat / 4 * 4
    let u := s.wake 3
    let r := ctlRead o u
    (be = 0 → Into (.loRead ⟨off, be⟩) s (u.emit .hostRead 0 [])) ∧ (be ≠ 0 → Into (.loRead ⟨off, be⟩) s (r.1.emit .hostRead 0 (rdBytes be.toNat r.2))) ∧
    (be ≠ 0 → findReg o = none → Into (.loRead ⟨off, be⟩) s (u.emit .hostRead 0 (rdBytes be.toNat 0)))) ∧
  (∀ v : Nat, v < 2 ^ 32 → rdBytes 15 v = leBytes 4 v ∧ rdBytes 3 v = leBytes 2 v ∧ rdBytes 12 v = leBytes 2 (v / 2 ^ 16) ∧ rdBytes 0 v = [] ∧
    ∀ k < 4, rdBytes (2 ^ k) v = leBytes 1 (v / 2 ^ (8 * k))) ∧
  (∀ s : State, s.stopped = false → let u := s.wake 3
    Does (.loRead ⟨BitVec.ofNat 26 R.EVR_HEAD_LO, 15⟩) s (fun t => t.outbox = s.outbox ++ [⟨.hostRead, 0, leBytes 4 (s.evr.head % 2 ^ 32)⟩] ∧
      t.ctlValue R.EVR_HEAD_HI = s.evr.head / 2 ^ 32 % 2 ^ 32 ∧ t = { u with hiCap := t.hiCap, outbox := t.outbox, irq := t.irq }))

/-- The queue of commands is the model's (log 10); commands act in the order in which they came. -/
def Obligations.StepRunsFront : Prop :=
  ∀ (s : State) (c : Instr) (l : List Instr), s.pending = c :: l → step s = exec c { s with pending := l }

/-- R333. The record of the requests last seen is the model's own. -/
def Obligations.RequestsSettleAtEachStep : Prop :=
  ∀ s t : State, s.irq.prev = irqSources.filter s.irqLevel → step s = .next t → t.irq.prev = irqSources.filter t.irqLevel

/-- R4, R9, R13, R387; that State.reset stands right after the release of the internal reset, its memory and its fuses are the model's choice
(log 4 to log 7). -/
def Obligations.StateAfterReset : Prop :=
  State.reset.ctlValue R.GCTL_ID = 0x5A771281 ∧ State.reset.gf F.PWR_STAT_PS = 0 ∧ State.reset.gf F.PWR_STAT_SH = 0 ∧ State.reset.safe = false ∧
  State.reset.stopped = false ∧ (∀ i, (State.reset.thr i).st = 0) ∧ (∀ off, State.reset.reg off = (resetAt off).toNat) ∧ State.reset.mem = [] ∧
  State.reset.pending = [] ∧ State.reset.irq.prev = irqSources.filter State.reset.irqLevel ∧ (∀ k : Fin 64, State.reset.fenced k = false) ∧
  State.reset.bf F.GCTL_BOOT_STAT_DONE = false ∧ State.reset.dbgLevel = State.reset.gctl.fuses.startLevel

/-- R120, R394, R397, R416, R417. The tick on an empty queue and the fault are the model's choice (log 10, log 121). -/
def Obligations.HeldDevicesIdleQueuesAndStops : Prop :=
  (∀ (s : State) (c : Instr), s.stopped = true →
    (∀ b, c ≠ .rstN b) → (∀ a b, c ≠ .resetRelease a b) → (∀ b, c ≠ .freeze b) → (∀ b, c ≠ .perst b) → (∀ a b d, c ≠ .railChange a b d) →
    (∀ v, c ≠ .brownOut v) → c ≠ .nonceExpire → c ≠ .debugWaitEnd → (∀ b, c ≠ .fuseDone b) → ¬ Tapped c → exec c s = .next s) ∧
  (∀ s : State, s.pending = [] → ∃ t, step s = .next t ∧ t.pending = [] ∧ t.gctl = s.gctl ∧
    (s.gctl.frozen = true → t = { s with
      sec := { s.sec with waitEnd := s.sec.waitEnd.map (· - 1), nonce := s.sec.nonce.map (fun n => (n.1, n.2 - 1)) } }) ∧
    (s.gctl.frozen = false → t.tick = s.tick + 1) ∧
    (s.gctl.frozen = false → s.gctl.inReset = true → s.gctl.brown = true ∨ s.gctl.frzLow = true → t = { s with tick := s.tick + 1 }) ∧
    (s.gctl.frozen = false → s.gctl.inReset = true → s.gctl.brown = false → s.gctl.frzLow = false →
      t = ({ s with tick := s.tick + 1 } : State).tickDomains) ∧
    (s.stopped = false → s.gf F.PWR_STAT_PS = 0 → ∀ b : Fin 8,
      t.brn.cyc.getD b 0 = s.brn.cyc.getD b 0 + (if 3 ≤ s.gf F.PWR_STAT_SH then 0 else if 1 ≤ s.shedEff then 2 else 4))) ∧
  (∀ (s : State) (c : Instr) (r : Refusal), exec c s ≠ .refused r) ∧
  (∀ (s : State) (c : Instr) (f : Fault), exec c s = .fault f → c = .rstN false ∧ f = .rstHeldTooShort)

/-- R9: the one operation that reads the control space, and those that write it whole or in part. -/
def Obligations.UnlistedOffsetsReadZero : Prop :=
  ∀ (s : State) (off : Nat), findReg off = none →
    ctlRead off s = (s, 0) ∧ (∀ (w : Writer) (v : Nat), ctlWrite w off v s = s ∧ ctlStore w off v s = s) ∧
    (∀ (w : Writer) (b be : Nat), b / 4 * 4 = off → narrowWrite w b be s = s) ∧
    (∀ (w : Writer) (o : BitVec 26) (v : BitVec 32) (be : BitVec 4), s.stopped = false → o.toNat / 4 * 4 = off →
      Does (.registerWrite w o v be) s (fun t => (s.reaches w = false → t.fcu = s.fcu ∧ t.regs = s.regs) ∧
        (s.reaches w = true → t.fcu = s.fcu ∧ t.regs = (wakeBy w s).regs ∧ t.mem = s.mem)))

end
end

