-- ==== Sys2Proof/Laws/Bits.lean ====
section
/-! SUPPORT. Bit fields: what a field reads after a write of the same field or of another, and the round trip of little-endian bytes. -/
namespace Sys2Proof.Machine

theorem testBit_bits (n hi lo i : Nat) : (bits n hi lo).testBit i = (decide (i < hi + 1 - lo) && n.testBit (lo + i)) := by
  simp [bits, Nat.testBit_mod_two_pow, Nat.testBit_shiftRight]

theorem bits_lt (n hi lo : Nat) : bits n hi lo < 2 ^ (hi + 1 - lo) := Nat.mod_lt _ (Nat.two_pow_pos _)

/-- A number split at a field: what lies above, the field, what lies below. -/
theorem setBits_eq (n hi lo v : Nat) (h : lo ≤ hi) :
    setBits n hi lo v = n / 2 ^ (hi + 1) * 2 ^ (hi + 1) + (v % 2 ^ (hi + 1 - lo)) * 2 ^ lo + n % 2 ^ lo := by
  have hp : 2 ^ (hi + 1) = 2 ^ (hi + 1 - lo) * 2 ^ lo := by rw [← pow_add]; congr 1; omega
  have h1 : n / 2 ^ lo / 2 ^ (hi + 1 - lo) = n / 2 ^ (hi + 1) := by
    rw [Nat.div_div_eq_div_mul, ← pow_add]; congr 2; omega
  have h2 : n = n / 2 ^ lo * 2 ^ lo + n % 2 ^ lo := (Nat.div_add_mod' n (2 ^ lo)).symm
  have h3 : n / 2 ^ lo = n / 2 ^ (hi + 1) * 2 ^ (hi + 1 - lo) + n / 2 ^ lo % 2 ^ (hi + 1 - lo) := by
    rw [← h1]; exact (Nat.div_add_mod' _ _).symm
  have h4 : n / 2 ^ lo * 2 ^ lo = n / 2 ^ (hi + 1) * 2 ^ (hi + 1) + n / 2 ^ lo % 2 ^ (hi + 1 - lo) * 2 ^ lo := by
    calc n / 2 ^ lo * 2 ^ lo = (n / 2 ^ (hi + 1) * 2 ^ (hi + 1 - lo) + n / 2 ^ lo % 2 ^ (hi + 1 - lo)) * 2 ^ lo := by rw [← h3]
      _ = _ := by rw [Nat.add_mul, hp, Nat.mul_assoc]
  simp only [setBits, bits, Nat.shiftLeft_eq, Nat.shiftRight_eq_div_pow]
  omega

theorem testBit_setBits (n hi lo v i : Nat) (h : lo ≤ hi) :
    (setBits n hi lo v).testBit i = if lo ≤ i ∧ i ≤ hi then v.testBit (i - lo) else n.testBit i := by
  rw [setBits_eq n hi lo v h]
  have hx : n % 2 ^ lo < 2 ^ lo := Nat.mod_lt _ (Nat.two_pow_pos _)
  have hb : v % 2 ^ (hi + 1 - lo) < 2 ^ (hi + 1 - lo) := Nat.mod_lt _ (Nat.two_pow_pos _)
  have hp : 2 ^ (hi + 1) = 2 ^ (hi + 1 - lo) * 2 ^ lo := by rw [← pow_add]; congr 1; omega
  have hlow : (v % 2 ^ (hi + 1 - lo)) * 2 ^ lo + n % 2 ^ lo < 2 ^ (hi + 1) := by
    rw [hp]
    calc _ < v % 2 ^ (hi + 1 - lo) * 2 ^ lo + 2 ^ lo := by omega
      _ = (v % 2 ^ (hi + 1 - lo) + 1) * 2 ^ lo := by rw [Nat.add_mul, Nat.one_mul]
      _ ≤ _ := Nat.mul_le_mul_right _ hb
  have e : n / 2 ^ (hi + 1) * 2 ^ (hi + 1) + (v % 2 ^ (hi + 1 - lo)) * 2 ^ lo + n % 2 ^ lo
      = 2 ^ (hi + 1) * (n / 2 ^ (hi + 1)) + (2 ^ lo * (v % 2 ^ (hi + 1 - lo)) + n % 2 ^ lo) := by
    rw [Nat.mul_comm (2 ^ (hi + 1)), Nat.mul_comm (2 ^ lo), Nat.add_assoc]
  rw [e, Nat.testBit_two_pow_mul_add _ (by rw [Nat.mul_comm (2 ^ lo)]; exact hlow), Nat.testBit_two_pow_mul_add _ hx]
  by_cases h1 : i < hi + 1
  · by_cases h2 : i < lo
    · simp [h1, h2, show ¬ lo ≤ i by omega]
    · simp only [h1, h2, if_true, if_false, Nat.testBit_mod_two_pow]
      simp [show lo ≤ i ∧ i ≤ hi by omega, show i - lo < hi + 1 - lo by omega]
  · simp only [h1, if_false, Nat.testBit_div_two_pow]
    rw [if_neg (by omega)]
    congr 1
    omega

/-- A field reads what was written, cut to its width. -/
@[simp] theorem bits_setBits_same (n hi lo v : Nat) (h : lo ≤ hi) : bits (setBits n hi lo v) hi lo = v % 2 ^ (hi + 1 - lo) := by
  apply Nat.eq_of_testBit_eq
  intro i
  rw [testBit_bits, testBit_setBits _ _ _ _ _ h, Nat.testBit_mod_two_pow]
  by_cases hi' : i < hi + 1 - lo
  · simp [hi', show lo ≤ lo + i ∧ lo + i ≤ hi by omega]
  · simp [hi']

/-- A field that shares no bit with the one written reads as before. -/
theorem bits_setBits_other (n hi lo v hi' lo' : Nat) (h : lo ≤ hi) (hd : hi' < lo ∨ hi < lo') :
    bits (setBits n hi lo v) hi' lo' = bits n hi' lo' := by
  apply Nat.eq_of_testBit_eq
  intro i
  rw [testBit_bits, testBit_bits, testBit_setBits _ _ _ _ _ h]
  by_cases hi2 : i < hi' + 1 - lo'
  · rw [if_neg (by omega)]
  · simp [hi2]

/-- A register keeps to its 32 bits. -/
theorem setBits_lt (n hi lo v w : Nat) (h : lo ≤ hi) (hw : hi < w) (hn : n < 2 ^ w) : setBits n hi lo v < 2 ^ w := by
  apply Nat.lt_pow_two_of_testBit
  intro i hi'
  rw [testBit_setBits _ _ _ _ _ h, if_neg (by omega)]
  exact Nat.testBit_lt_two_pow (lt_of_lt_of_le hn (Nat.pow_le_pow_right (by decide) hi'))

@[simp] theorem leBytes_length (n v : Nat) : (leBytes n v).length = n := by
  induction n generalizing v with
  | zero => rfl
  | succ n ih => simp [leBytes, ih]

/-- Bytes of a number read back as the number, cut to its bytes. -/
theorem leNat_leBytes (n v : Nat) : leNat (leBytes n v) = v % 256 ^ n := by
  induction n generalizing v with
  | zero => simp [leBytes, leNat, Nat.mod_one]
  | succ n ih =>
    simp only [leBytes, leNat, ih, BitVec.toNat_ofNat, show (2 : Nat) ^ 8 = 256 from rfl]
    rw [show 256 ^ (n + 1) = 256 * 256 ^ n by rw [Nat.pow_succ, Nat.mul_comm], Nat.mod_mul]

theorem leNat_lt (l : List Byte) : leNat l < 256 ^ l.length := by
  induction l with
  | nil => simp [leNat]
  | cons b l ih =>
    have hb := b.isLt
    simp only [leNat, List.length_cons, pow_succ]
    omega

@[simp] theorem setAt_length {α : Type} (l : List α) (i : Nat) (v : α) : (setAt l i v).length = l.length := by
  induction l generalizing i with
  | nil => rfl
  | cons x l ih => cases i <;> simp [setAt, ih]

theorem getD_setAt {α : Type} (l : List α) (i j : Nat) (v d : α) :
    (setAt l i v).getD j d = if i = j ∧ i < l.length then v else l.getD j d := by
  induction l generalizing i j with
  | nil => simp [setAt]
  | cons x l ih =>
    cases i with
    | zero => cases j <;> simp [setAt]
    | succ i =>
      cases j with
      | zero => simp [setAt]
      | succ j => simpa [setAt] using ih i j

end Sys2Proof.Machine
end

