-- ==== Sys2Proof/Laws/SMap.lean ====
section
/-! SUPPORT. Sparse maps: what a key reads as after each operation, and that every operation keeps the canonical form. -/
namespace Sys2Proof.Machine.SMap
variable {α : Type}

theorem get_erase (d : Nat → α) (m : SMap α) (k j : Nat) : (m.erase k).get d j = if j = k then d j else m.get d j := by
  induction m with
  | nil => simp [erase, get]
  | cons p r ih =>
    obtain ⟨a, v⟩ := p
    by_cases hak : a = k <;> by_cases haj : a = j <;> simp_all [erase, get]

theorem get_ins (d : Nat → α) (m : SMap α) (k j : Nat) (v : α) (hj : j ≠ k) : (m.ins k v).get d j = m.get d j := by
  induction m with
  | nil => simp [ins, get, Ne.symm hj]
  | cons p r ih =>
    obtain ⟨a, w⟩ := p
    by_cases hka : k < a
    · simp [ins, hka, get, Ne.symm hj]
    · by_cases haj : a = j
      · subst haj; simp [ins, hka, get]
      · simp [ins, hka, get, haj, ih]

theorem get_ins_erase_same (d : Nat → α) (m : SMap α) (k : Nat) (v : α) : ((m.erase k).ins k v).get d k = v := by
  induction m with
  | nil => simp [erase, ins, get]
  | cons p r ih =>
    obtain ⟨a, w⟩ := p
    by_cases hak : a = k
    · simpa [erase, hak] using ih
    · by_cases hka : k < a <;> simp [erase, hak, ins, hka, get, ih]

variable [DecidableEq α]

/-- A key reads what was set. -/
@[simp] theorem get_set_same (d : Nat → α) (m : SMap α) (k : Nat) (v : α) : (m.set d k v).get d k = v := by
  by_cases h : v = d k
  · simp [set, h, get_erase]
  · simp [set, h, get_ins_erase_same]

/-- Every other key reads as before. -/
theorem get_set_ne (d : Nat → α) (m : SMap α) (k j : Nat) (v : α) (hj : j ≠ k) : (m.set d k v).get d j = m.get d j := by
  by_cases h : v = d k
  · simp [set, h, get_erase, hj]
  · simp only [set, h, if_false]
    rw [get_ins d _ k j v hj, get_erase]
    simp [hj]

theorem get_set (d : Nat → α) (m : SMap α) (k j : Nat) (v : α) : (m.set d k v).get d j = if j = k then v else m.get d j := by
  by_cases h : j = k
  · subst h; simp
  · simp [h, get_set_ne]

omit [DecidableEq α] in
theorem get_clearRange (d : Nat → α) (m : SMap α) (lo hi j : Nat) :
    (m.clearRange lo hi).get d j = if lo ≤ j ∧ j < hi then d j else m.get d j := by
  induction m with
  | nil => simp [clearRange, get]
  | cons p r ih =>
    obtain ⟨a, v⟩ := p
    by_cases ha : lo ≤ a ∧ a < hi
    · simp only [clearRange, List.filter, ha, decide_true, Bool.and_self, Bool.not_true] at ih ⊢
      rw [ih]
      by_cases haj : a = j
      · subst haj; simp [ha]
      · simp [get, haj]
    · have hd : (!(decide (lo ≤ a) && decide (a < hi))) = true := by
        simp only [Bool.not_eq_true', Bool.and_eq_false_iff, decide_eq_false_iff_not]
        omega
      simp only [clearRange, List.filter, hd] at ih ⊢
      by_cases haj : a = j
      · subst haj; simp [get, ha]
      · simp only [get, haj, if_false]
        exact ih

/-! ### The canonical form -/

/-- A bound may be lowered. -/
theorem wfFrom_mono (d : Nat → α) (m : SMap α) (a b : Nat) (hab : a ≤ b) (h : wfFrom d (some b) m = true) : wfFrom d (some a) m = true := by
  cases m with
  | nil => rfl
  | cons p r =>
    simp only [wfFrom, Bool.and_eq_true, decide_eq_true_eq] at h ⊢
    exact ⟨⟨by omega, h.1.2⟩, h.2⟩

theorem wfFrom_none (d : Nat → α) (m : SMap α) (b : Nat) (h : wfFrom d (some b) m = true) : wfFrom d none m = true := by
  cases m with
  | nil => rfl
  | cons p r =>
    simp only [wfFrom, Bool.and_eq_true] at h ⊢
    exact ⟨⟨trivial, h.1.2⟩, h.2⟩

theorem wfFrom_erase (d : Nat → α) (k : Nat) (m : SMap α) : ∀ b, wfFrom d b m = true → wfFrom d b (m.erase k) = true := by
  induction m with
  | nil => intro b h; exact h
  | cons p r ih =>
    intro b h
    obtain ⟨a, v⟩ := p
    simp only [wfFrom, Bool.and_eq_true] at h
    by_cases hak : a = k
    · simp only [erase, hak, if_true]
      have hr := ih (some a) h.2
      cases b with
      | none => exact wfFrom_none d _ a hr
      | some c =>
        simp only [decide_eq_true_eq] at h
        exact wfFrom_mono d _ c a (by omega) hr
    · simp only [erase, hak, if_false, wfFrom, Bool.and_eq_true]
      exact ⟨h.1, ih (some a) h.2⟩

theorem wfFrom_ins (d : Nat → α) (k : Nat) (v : α) (hv : v ≠ d k) (m : SMap α) (hk : ∀ p ∈ m, p.1 ≠ k) :
    ∀ b, wfFrom d b m = true → (∀ c, b = some c → c < k) → wfFrom d b (m.ins k v) = true := by
  induction m with
  | nil =>
    intro b _ hb
    cases b with
    | none => simp [ins, wfFrom, hv]
    | some c => simp [ins, wfFrom, hv, hb c rfl]
  | cons p r ih =>
    intro b h hb
    obtain ⟨a, w⟩ := p
    have hak : a ≠ k := hk (a, w) (List.mem_cons_self ..)
    simp only [wfFrom, Bool.and_eq_true] at h
    by_cases hka : k < a
    · simp only [ins, hka, if_true, wfFrom, Bool.and_eq_true, decide_eq_true_eq]
      refine ⟨⟨?_, by simp [hv]⟩, ⟨trivial, h.1.2⟩, h.2⟩
      cases b with
      | none => trivial
      | some c => simpa using hb c rfl
    · simp only [ins, hka, if_false, wfFrom, Bool.and_eq_true]
      refine ⟨h.1, ih (fun q hq => hk q (List.mem_cons_of_mem _ hq)) (some a) h.2 ?_⟩
      intro c hc
      cases hc
      omega

omit [DecidableEq α] in
theorem erase_keys (k : Nat) (m : SMap α) : ∀ p ∈ m.erase k, p.1 ≠ k := by
  induction m with
  | nil => intro p hp; cases hp
  | cons q r ih =>
    obtain ⟨a, v⟩ := q
    intro p hp
    by_cases hak : a = k
    · simp only [erase, hak, if_true] at hp
      exact ih p hp
    · simp only [erase, hak, if_false, List.mem_cons] at hp
      rcases hp with rfl | hp
      · exact hak
      · exact ih p hp

/-- Setting a key keeps the canonical form. -/
theorem set_wf (d : Nat → α) (m : SMap α) (k : Nat) (v : α) (h : m.wf d = true) : (m.set d k v).wf d = true := by
  unfold set wf
  have he := wfFrom_erase d k m none h
  by_cases hv : v = d k
  · simpa [hv] using he
  · simp only [hv, if_false]
    exact wfFrom_ins d k v hv _ (erase_keys k m) none he (fun c hc => by cases hc)

theorem wfFrom_filter (d : Nat → α) (f : Nat × α → Bool) (m : SMap α) : ∀ b, wfFrom d b m = true → wfFrom d b (m.filter f) = true := by
  induction m with
  | nil => intro b h; exact h
  | cons p r ih =>
    intro b h
    obtain ⟨a, v⟩ := p
    simp only [wfFrom, Bool.and_eq_true] at h
    by_cases hf : f (a, v) = true
    · simp only [List.filter, hf, wfFrom, Bool.and_eq_true]
      exact ⟨h.1, ih (some a) h.2⟩
    · simp only [List.filter, hf]
      have hr := ih (some a) h.2
      cases b with
      | none => exact wfFrom_none d _ a hr
      | some c =>
        simp only [decide_eq_true_eq] at h
        exact wfFrom_mono d _ c a (by omega) hr

/-- Clearing a range keeps the canonical form. -/
theorem clearRange_wf (d : Nat → α) (m : SMap α) (lo hi : Nat) (h : m.wf d = true) : (m.clearRange lo hi).wf d = true :=
  wfFrom_filter d _ m none h

end Sys2Proof.Machine.SMap
end

