-- ==== Sys2Proof/Laws/State.lean ====
section
/-! SUPPORT. What each basic update of the state leaves alone, part by part, and what a register and a field read after a write. -/
namespace Sys2Proof.Machine

/-! ### setReg -/

@[simp] theorem State.setReg_mem (s : State) (off v : Nat) : (s.setReg off v).mem = s.mem := rfl
@[simp] theorem State.setReg_host (s : State) (off v : Nat) : (s.setReg off v).host = s.host := rfl
@[simp] theorem State.setReg_ecc (s : State) (off v : Nat) : (s.setReg off v).ecc = s.ecc := rfl
@[simp] theorem State.setReg_hiCap (s : State) (off v : Nat) : (s.setReg off v).hiCap = s.hiCap := rfl
@[simp] theorem State.setReg_tick (s : State) (off v : Nat) : (s.setReg off v).tick = s.tick := rfl
@[simp] theorem State.setReg_free (s : State) (off v : Nat) : (s.setReg off v).free = s.free := rfl
@[simp] theorem State.setReg_outbox (s : State) (off v : Nat) : (s.setReg off v).outbox = s.outbox := rfl
@[simp] theorem State.setReg_fcu (s : State) (off v : Nat) : (s.setReg off v).fcu = s.fcu := rfl
@[simp] theorem State.setReg_evr (s : State) (off v : Nat) : (s.setReg off v).evr = s.evr := rfl
@[simp] theorem State.setReg_tbu (s : State) (off v : Nat) : (s.setReg off v).tbu = s.tbu := rfl
@[simp] theorem State.setReg_qm (s : State) (off v : Nat) : (s.setReg off v).qm = s.qm := rfl
@[simp] theorem State.setReg_irq (s : State) (off v : Nat) : (s.setReg off v).irq = s.irq := rfl
@[simp] theorem State.setReg_pwr (s : State) (off v : Nat) : (s.setReg off v).pwr = s.pwr := rfl
@[simp] theorem State.setReg_gctl (s : State) (off v : Nat) : (s.setReg off v).gctl = s.gctl := rfl
@[simp] theorem State.setReg_sec (s : State) (off v : Nat) : (s.setReg off v).sec = s.sec := rfl
@[simp] theorem State.setReg_brn (s : State) (off v : Nat) : (s.setReg off v).brn = s.brn := rfl
@[simp] theorem State.setReg_arb (s : State) (off v : Nat) : (s.setReg off v).arb = s.arb := rfl
@[simp] theorem State.setReg_eth (s : State) (off v : Nat) : (s.setReg off v).eth = s.eth := rfl
@[simp] theorem State.setReg_yrd (s : State) (off v : Nat) : (s.setReg off v).yrd = s.yrd := rfl
@[simp] theorem State.setReg_sch (s : State) (off v : Nat) : (s.setReg off v).sch = s.sch := rfl
@[simp] theorem State.setReg_lft (s : State) (off v : Nat) : (s.setReg off v).lft = s.lft := rfl
@[simp] theorem State.setReg_red (s : State) (off v : Nat) : (s.setReg off v).red = s.red := rfl
@[simp] theorem State.setReg_vox (s : State) (off v : Nat) : (s.setReg off v).vox = s.vox := rfl
@[simp] theorem State.setReg_ztt (s : State) (off v : Nat) : (s.setReg off v).ztt = s.ztt := rfl
@[simp] theorem State.setReg_sax (s : State) (off v : Nat) : (s.setReg off v).sax = s.sax := rfl
@[simp] theorem State.setReg_pending (s : State) (off v : Nat) : (s.setReg off v).pending = s.pending := rfl

/-! ### sf -/

@[simp] theorem State.sf_mem (s : State) (f : Fld) (v : Nat) : (s.sf f v).mem = s.mem := rfl
@[simp] theorem State.sf_host (s : State) (f : Fld) (v : Nat) : (s.sf f v).host = s.host := rfl
@[simp] theorem State.sf_ecc (s : State) (f : Fld) (v : Nat) : (s.sf f v).ecc = s.ecc := rfl
@[simp] theorem State.sf_hiCap (s : State) (f : Fld) (v : Nat) : (s.sf f v).hiCap = s.hiCap := rfl
@[simp] theorem State.sf_tick (s : State) (f : Fld) (v : Nat) : (s.sf f v).tick = s.tick := rfl
@[simp] theorem State.sf_free (s : State) (f : Fld) (v : Nat) : (s.sf f v).free = s.free := rfl
@[simp] theorem State.sf_outbox (s : State) (f : Fld) (v : Nat) : (s.sf f v).outbox = s.outbox := rfl
@[simp] theorem State.sf_fcu (s : State) (f : Fld) (v : Nat) : (s.sf f v).fcu = s.fcu := rfl
@[simp] theorem State.sf_evr (s : State) (f : Fld) (v : Nat) : (s.sf f v).evr = s.evr := rfl
@[simp] theorem State.sf_tbu (s : State) (f : Fld) (v : Nat) : (s.sf f v).tbu = s.tbu := rfl
@[simp] theorem State.sf_qm (s : State) (f : Fld) (v : Nat) : (s.sf f v).qm = s.qm := rfl
@[simp] theorem State.sf_irq (s : State) (f : Fld) (v : Nat) : (s.sf f v).irq = s.irq := rfl
@[simp] theorem State.sf_pwr (s : State) (f : Fld) (v : Nat) : (s.sf f v).pwr = s.pwr := rfl
@[simp] theorem State.sf_gctl (s : State) (f : Fld) (v : Nat) : (s.sf f v).gctl = s.gctl := rfl
@[simp] theorem State.sf_sec (s : State) (f : Fld) (v : Nat) : (s.sf f v).sec = s.sec := rfl
@[simp] theorem State.sf_brn (s : State) (f : Fld) (v : Nat) : (s.sf f v).brn = s.brn := rfl
@[simp] theorem State.sf_arb (s : State) (f : Fld) (v : Nat) : (s.sf f v).arb = s.arb := rfl
@[simp] theorem State.sf_eth (s : State) (f : Fld) (v : Nat) : (s.sf f v).eth = s.eth := rfl
@[simp] theorem State.sf_yrd (s : State) (f : Fld) (v : Nat) : (s.sf f v).yrd = s.yrd := rfl
@[simp] theorem State.sf_sch (s : State) (f : Fld) (v : Nat) : (s.sf f v).sch = s.sch := rfl
@[simp] theorem State.sf_lft (s : State) (f : Fld) (v : Nat) : (s.sf f v).lft = s.lft := rfl
@[simp] theorem State.sf_red (s : State) (f : Fld) (v : Nat) : (s.sf f v).red = s.red := rfl
@[simp] theorem State.sf_vox (s : State) (f : Fld) (v : Nat) : (s.sf f v).vox = s.vox := rfl
@[simp] theorem State.sf_ztt (s : State) (f : Fld) (v : Nat) : (s.sf f v).ztt = s.ztt := rfl
@[simp] theorem State.sf_sax (s : State) (f : Fld) (v : Nat) : (s.sf f v).sax = s.sax := rfl
@[simp] theorem State.sf_pending (s : State) (f : Fld) (v : Nat) : (s.sf f v).pending = s.pending := rfl

/-! ### addf -/

@[simp] theorem State.addf_mem (s : State) (f : Fld) (n : Nat) : (s.addf f n).mem = s.mem := rfl
@[simp] theorem State.addf_host (s : State) (f : Fld) (n : Nat) : (s.addf f n).host = s.host := rfl
@[simp] theorem State.addf_ecc (s : State) (f : Fld) (n : Nat) : (s.addf f n).ecc = s.ecc := rfl
@[simp] theorem State.addf_hiCap (s : State) (f : Fld) (n : Nat) : (s.addf f n).hiCap = s.hiCap := rfl
@[simp] theorem State.addf_tick (s : State) (f : Fld) (n : Nat) : (s.addf f n).tick = s.tick := rfl
@[simp] theorem State.addf_free (s : State) (f : Fld) (n : Nat) : (s.addf f n).free = s.free := rfl
@[simp] theorem State.addf_outbox (s : State) (f : Fld) (n : Nat) : (s.addf f n).outbox = s.outbox := rfl
@[simp] theorem State.addf_fcu (s : State) (f : Fld) (n : Nat) : (s.addf f n).fcu = s.fcu := rfl
@[simp] theorem State.addf_evr (s : State) (f : Fld) (n : Nat) : (s.addf f n).evr = s.evr := rfl
@[simp] theorem State.addf_tbu (s : State) (f : Fld) (n : Nat) : (s.addf f n).tbu = s.tbu := rfl
@[simp] theorem State.addf_qm (s : State) (f : Fld) (n : Nat) : (s.addf f n).qm = s.qm := rfl
@[simp] theorem State.addf_irq (s : State) (f : Fld) (n : Nat) : (s.addf f n).irq = s.irq := rfl
@[simp] theorem State.addf_pwr (s : State) (f : Fld) (n : Nat) : (s.addf f n).pwr = s.pwr := rfl
@[simp] theorem State.addf_gctl (s : State) (f : Fld) (n : Nat) : (s.addf f n).gctl = s.gctl := rfl
@[simp] theorem State.addf_sec (s : State) (f : Fld) (n : Nat) : (s.addf f n).sec = s.sec := rfl
@[simp] theorem State.addf_brn (s : State) (f : Fld) (n : Nat) : (s.addf f n).brn = s.brn := rfl
@[simp] theorem State.addf_arb (s : State) (f : Fld) (n : Nat) : (s.addf f n).arb = s.arb := rfl
@[simp] theorem State.addf_eth (s : State) (f : Fld) (n : Nat) : (s.addf f n).eth = s.eth := rfl
@[simp] theorem State.addf_yrd (s : State) (f : Fld) (n : Nat) : (s.addf f n).yrd = s.yrd := rfl
@[simp] theorem State.addf_sch (s : State) (f : Fld) (n : Nat) : (s.addf f n).sch = s.sch := rfl
@[simp] theorem State.addf_lft (s : State) (f : Fld) (n : Nat) : (s.addf f n).lft = s.lft := rfl
@[simp] theorem State.addf_red (s : State) (f : Fld) (n : Nat) : (s.addf f n).red = s.red := rfl
@[simp] theorem State.addf_vox (s : State) (f : Fld) (n : Nat) : (s.addf f n).vox = s.vox := rfl
@[simp] theorem State.addf_ztt (s : State) (f : Fld) (n : Nat) : (s.addf f n).ztt = s.ztt := rfl
@[simp] theorem State.addf_sax (s : State) (f : Fld) (n : Nat) : (s.addf f n).sax = s.sax := rfl
@[simp] theorem State.addf_pending (s : State) (f : Fld) (n : Nat) : (s.addf f n).pending = s.pending := rfl

/-! ### incf -/

@[simp] theorem State.incf_mem (s : State) (f : Fld) : (s.incf f).mem = s.mem := rfl
@[simp] theorem State.incf_host (s : State) (f : Fld) : (s.incf f).host = s.host := rfl
@[simp] theorem State.incf_ecc (s : State) (f : Fld) : (s.incf f).ecc = s.ecc := rfl
@[simp] theorem State.incf_hiCap (s : State) (f : Fld) : (s.incf f).hiCap = s.hiCap := rfl
@[simp] theorem State.incf_tick (s : State) (f : Fld) : (s.incf f).tick = s.tick := rfl
@[simp] theorem State.incf_free (s : State) (f : Fld) : (s.incf f).free = s.free := rfl
@[simp] theorem State.incf_outbox (s : State) (f : Fld) : (s.incf f).outbox = s.outbox := rfl
@[simp] theorem State.incf_fcu (s : State) (f : Fld) : (s.incf f).fcu = s.fcu := rfl
@[simp] theorem State.incf_evr (s : State) (f : Fld) : (s.incf f).evr = s.evr := rfl
@[simp] theorem State.incf_tbu (s : State) (f : Fld) : (s.incf f).tbu = s.tbu := rfl
@[simp] theorem State.incf_qm (s : State) (f : Fld) : (s.incf f).qm = s.qm := rfl
@[simp] theorem State.incf_irq (s : State) (f : Fld) : (s.incf f).irq = s.irq := rfl
@[simp] theorem State.incf_pwr (s : State) (f : Fld) : (s.incf f).pwr = s.pwr := rfl
@[simp] theorem State.incf_gctl (s : State) (f : Fld) : (s.incf f).gctl = s.gctl := rfl
@[simp] theorem State.incf_sec (s : State) (f : Fld) : (s.incf f).sec = s.sec := rfl
@[simp] theorem State.incf_brn (s : State) (f : Fld) : (s.incf f).brn = s.brn := rfl
@[simp] theorem State.incf_arb (s : State) (f : Fld) : (s.incf f).arb = s.arb := rfl
@[simp] theorem State.incf_eth (s : State) (f : Fld) : (s.incf f).eth = s.eth := rfl
@[simp] theorem State.incf_yrd (s : State) (f : Fld) : (s.incf f).yrd = s.yrd := rfl
@[simp] theorem State.incf_sch (s : State) (f : Fld) : (s.incf f).sch = s.sch := rfl
@[simp] theorem State.incf_lft (s : State) (f : Fld) : (s.incf f).lft = s.lft := rfl
@[simp] theorem State.incf_red (s : State) (f : Fld) : (s.incf f).red = s.red := rfl
@[simp] theorem State.incf_vox (s : State) (f : Fld) : (s.incf f).vox = s.vox := rfl
@[simp] theorem State.incf_ztt (s : State) (f : Fld) : (s.incf f).ztt = s.ztt := rfl
@[simp] theorem State.incf_sax (s : State) (f : Fld) : (s.incf f).sax = s.sax := rfl
@[simp] theorem State.incf_pending (s : State) (f : Fld) : (s.incf f).pending = s.pending := rfl

/-! ### resetRegs -/

@[simp] theorem State.resetRegs_mem (s : State) (lo hi : Nat) : (s.resetRegs lo hi).mem = s.mem := rfl
@[simp] theorem State.resetRegs_host (s : State) (lo hi : Nat) : (s.resetRegs lo hi).host = s.host := rfl
@[simp] theorem State.resetRegs_ecc (s : State) (lo hi : Nat) : (s.resetRegs lo hi).ecc = s.ecc := rfl
@[simp] theorem State.resetRegs_hiCap (s : State) (lo hi : Nat) : (s.resetRegs lo hi).hiCap = s.hiCap := rfl
@[simp] theorem State.resetRegs_tick (s : State) (lo hi : Nat) : (s.resetRegs lo hi).tick = s.tick := rfl
@[simp] theorem State.resetRegs_free (s : State) (lo hi : Nat) : (s.resetRegs lo hi).free = s.free := rfl
@[simp] theorem State.resetRegs_outbox (s : State) (lo hi : Nat) : (s.resetRegs lo hi).outbox = s.outbox := rfl
@[simp] theorem State.resetRegs_fcu (s : State) (lo hi : Nat) : (s.resetRegs lo hi).fcu = s.fcu := rfl
@[simp] theorem State.resetRegs_evr (s : State) (lo hi : Nat) : (s.resetRegs lo hi).evr = s.evr := rfl
@[simp] theorem State.resetRegs_tbu (s : State) (lo hi : Nat) : (s.resetRegs lo hi).tbu = s.tbu := rfl
@[simp] theorem State.resetRegs_qm (s : State) (lo hi : Nat) : (s.resetRegs lo hi).qm = s.qm := rfl
@[simp] theorem State.resetRegs_irq (s : State) (lo hi : Nat) : (s.resetRegs lo hi).irq = s.irq := rfl
@[simp] theorem State.resetRegs_pwr (s : State) (lo hi : Nat) : (s.resetRegs lo hi).pwr = s.pwr := rfl
@[simp] theorem State.resetRegs_gctl (s : State) (lo hi : Nat) : (s.resetRegs lo hi).gctl = s.gctl := rfl
@[simp] theorem State.resetRegs_sec (s : State) (lo hi : Nat) : (s.resetRegs lo hi).sec = s.sec := rfl
@[simp] theorem State.resetRegs_brn (s : State) (lo hi : Nat) : (s.resetRegs lo hi).brn = s.brn := rfl
@[simp] theorem State.resetRegs_arb (s : State) (lo hi : Nat) : (s.resetRegs lo hi).arb = s.arb := rfl
@[simp] theorem State.resetRegs_eth (s : State) (lo hi : Nat) : (s.resetRegs lo hi).eth = s.eth := rfl
@[simp] theorem State.resetRegs_yrd (s : State) (lo hi : Nat) : (s.resetRegs lo hi).yrd = s.yrd := rfl
@[simp] theorem State.resetRegs_sch (s : State) (lo hi : Nat) : (s.resetRegs lo hi).sch = s.sch := rfl
@[simp] theorem State.resetRegs_lft (s : State) (lo hi : Nat) : (s.resetRegs lo hi).lft = s.lft := rfl
@[simp] theorem State.resetRegs_red (s : State) (lo hi : Nat) : (s.resetRegs lo hi).red = s.red := rfl
@[simp] theorem State.resetRegs_vox (s : State) (lo hi : Nat) : (s.resetRegs lo hi).vox = s.vox := rfl
@[simp] theorem State.resetRegs_ztt (s : State) (lo hi : Nat) : (s.resetRegs lo hi).ztt = s.ztt := rfl
@[simp] theorem State.resetRegs_sax (s : State) (lo hi : Nat) : (s.resetRegs lo hi).sax = s.sax := rfl
@[simp] theorem State.resetRegs_pending (s : State) (lo hi : Nat) : (s.resetRegs lo hi).pending = s.pending := rfl

/-! ### useFree -/

@[simp] theorem State.useFree_regs (s : State) : (s.useFree).regs = s.regs := rfl
@[simp] theorem State.useFree_mem (s : State) : (s.useFree).mem = s.mem := rfl
@[simp] theorem State.useFree_host (s : State) : (s.useFree).host = s.host := rfl
@[simp] theorem State.useFree_ecc (s : State) : (s.useFree).ecc = s.ecc := rfl
@[simp] theorem State.useFree_hiCap (s : State) : (s.useFree).hiCap = s.hiCap := rfl
@[simp] theorem State.useFree_tick (s : State) : (s.useFree).tick = s.tick := rfl
@[simp] theorem State.useFree_outbox (s : State) : (s.useFree).outbox = s.outbox := rfl
@[simp] theorem State.useFree_fcu (s : State) : (s.useFree).fcu = s.fcu := rfl
@[simp] theorem State.useFree_evr (s : State) : (s.useFree).evr = s.evr := rfl
@[simp] theorem State.useFree_tbu (s : State) : (s.useFree).tbu = s.tbu := rfl
@[simp] theorem State.useFree_qm (s : State) : (s.useFree).qm = s.qm := rfl
@[simp] theorem State.useFree_irq (s : State) : (s.useFree).irq = s.irq := rfl
@[simp] theorem State.useFree_pwr (s : State) : (s.useFree).pwr = s.pwr := rfl
@[simp] theorem State.useFree_gctl (s : State) : (s.useFree).gctl = s.gctl := rfl
@[simp] theorem State.useFree_sec (s : State) : (s.useFree).sec = s.sec := rfl
@[simp] theorem State.useFree_brn (s : State) : (s.useFree).brn = s.brn := rfl
@[simp] theorem State.useFree_arb (s : State) : (s.useFree).arb = s.arb := rfl
@[simp] theorem State.useFree_eth (s : State) : (s.useFree).eth = s.eth := rfl
@[simp] theorem State.useFree_yrd (s : State) : (s.useFree).yrd = s.yrd := rfl
@[simp] theorem State.useFree_sch (s : State) : (s.useFree).sch = s.sch := rfl
@[simp] theorem State.useFree_lft (s : State) : (s.useFree).lft = s.lft := rfl
@[simp] theorem State.useFree_red (s : State) : (s.useFree).red = s.red := rfl
@[simp] theorem State.useFree_vox (s : State) : (s.useFree).vox = s.vox := rfl
@[simp] theorem State.useFree_ztt (s : State) : (s.useFree).ztt = s.ztt := rfl
@[simp] theorem State.useFree_sax (s : State) : (s.useFree).sax = s.sax := rfl
@[simp] theorem State.useFree_pending (s : State) : (s.useFree).pending = s.pending := rfl

/-! ### emit -/

@[simp] theorem State.emit_regs (s : State) (k : OutKind) (u : Nat) (d : List Byte) : (s.emit k u d).regs = s.regs := rfl
@[simp] theorem State.emit_mem (s : State) (k : OutKind) (u : Nat) (d : List Byte) : (s.emit k u d).mem = s.mem := rfl
@[simp] theorem State.emit_host (s : State) (k : OutKind) (u : Nat) (d : List Byte) : (s.emit k u d).host = s.host := rfl
@[simp] theorem State.emit_ecc (s : State) (k : OutKind) (u : Nat) (d : List Byte) : (s.emit k u d).ecc = s.ecc := rfl
@[simp] theorem State.emit_hiCap (s : State) (k : OutKind) (u : Nat) (d : List Byte) : (s.emit k u d).hiCap = s.hiCap := rfl
@[simp] theorem State.emit_tick (s : State) (k : OutKind) (u : Nat) (d : List Byte) : (s.emit k u d).tick = s.tick := rfl
@[simp] theorem State.emit_free (s : State) (k : OutKind) (u : Nat) (d : List Byte) : (s.emit k u d).free = s.free := rfl
@[simp] theorem State.emit_fcu (s : State) (k : OutKind) (u : Nat) (d : List Byte) : (s.emit k u d).fcu = s.fcu := rfl
@[simp] theorem State.emit_evr (s : State) (k : OutKind) (u : Nat) (d : List Byte) : (s.emit k u d).evr = s.evr := rfl
@[simp] theorem State.emit_tbu (s : State) (k : OutKind) (u : Nat) (d : List Byte) : (s.emit k u d).tbu = s.tbu := rfl
@[simp] theorem State.emit_qm (s : State) (k : OutKind) (u : Nat) (d : List Byte) : (s.emit k u d).qm = s.qm := rfl
@[simp] theorem State.emit_irq (s : State) (k : OutKind) (u : Nat) (d : List Byte) : (s.emit k u d).irq = s.irq := rfl
@[simp] theorem State.emit_pwr (s : State) (k : OutKind) (u : Nat) (d : List Byte) : (s.emit k u d).pwr = s.pwr := rfl
@[simp] theorem State.emit_gctl (s : State) (k : OutKind) (u : Nat) (d : List Byte) : (s.emit k u d).gctl = s.gctl := rfl
@[simp] theorem State.emit_sec (s : State) (k : OutKind) (u : Nat) (d : List Byte) : (s.emit k u d).sec = s.sec := rfl
@[simp] theorem State.emit_brn (s : State) (k : OutKind) (u : Nat) (d : List Byte) : (s.emit k u d).brn = s.brn := rfl
@[simp] theorem State.emit_arb (s : State) (k : OutKind) (u : Nat) (d : List Byte) : (s.emit k u d).arb = s.arb := rfl
@[simp] theorem State.emit_eth (s : State) (k : OutKind) (u : Nat) (d : List Byte) : (s.emit k u d).eth = s.eth := rfl
@[simp] theorem State.emit_yrd (s : State) (k : OutKind) (u : Nat) (d : List Byte) : (s.emit k u d).yrd = s.yrd := rfl
@[simp] theorem State.emit_sch (s : State) (k : OutKind) (u : Nat) (d : List Byte) : (s.emit k u d).sch = s.sch := rfl
@[simp] theorem State.emit_lft (s : State) (k : OutKind) (u : Nat) (d : List Byte) : (s.emit k u d).lft = s.lft := rfl
@[simp] theorem State.emit_red (s : State) (k : OutKind) (u : Nat) (d : List Byte) : (s.emit k u d).red = s.red := rfl
@[simp] theorem State.emit_vox (s : State) (k : OutKind) (u : Nat) (d : List Byte) : (s.emit k u d).vox = s.vox := rfl
@[simp] theorem State.emit_ztt (s : State) (k : OutKind) (u : Nat) (d : List Byte) : (s.emit k u d).ztt = s.ztt := rfl
@[simp] theorem State.emit_sax (s : State) (k : OutKind) (u : Nat) (d : List Byte) : (s.emit k u d).sax = s.sax := rfl
@[simp] theorem State.emit_pending (s : State) (k : OutKind) (u : Nat) (d : List Byte) : (s.emit k u d).pending = s.pending := rfl

/-! ### wr8 -/

@[simp] theorem State.wr8_regs (s : State) (a : Nat) (b : Byte) : (s.wr8 a b).regs = s.regs := rfl
@[simp] theorem State.wr8_host (s : State) (a : Nat) (b : Byte) : (s.wr8 a b).host = s.host := rfl
@[simp] theorem State.wr8_ecc (s : State) (a : Nat) (b : Byte) : (s.wr8 a b).ecc = s.ecc := rfl
@[simp] theorem State.wr8_hiCap (s : State) (a : Nat) (b : Byte) : (s.wr8 a b).hiCap = s.hiCap := rfl
@[simp] theorem State.wr8_tick (s : State) (a : Nat) (b : Byte) : (s.wr8 a b).tick = s.tick := rfl
@[simp] theorem State.wr8_free (s : State) (a : Nat) (b : Byte) : (s.wr8 a b).free = s.free := rfl
@[simp] theorem State.wr8_outbox (s : State) (a : Nat) (b : Byte) : (s.wr8 a b).outbox = s.outbox := rfl
@[simp] theorem State.wr8_fcu (s : State) (a : Nat) (b : Byte) : (s.wr8 a b).fcu = s.fcu := rfl
@[simp] theorem State.wr8_evr (s : State) (a : Nat) (b : Byte) : (s.wr8 a b).evr = s.evr := rfl
@[simp] theorem State.wr8_tbu (s : State) (a : Nat) (b : Byte) : (s.wr8 a b).tbu = s.tbu := rfl
@[simp] theorem State.wr8_qm (s : State) (a : Nat) (b : Byte) : (s.wr8 a b).qm = s.qm := rfl
@[simp] theorem State.wr8_irq (s : State) (a : Nat) (b : Byte) : (s.wr8 a b).irq = s.irq := rfl
@[simp] theorem State.wr8_pwr (s : State) (a : Nat) (b : Byte) : (s.wr8 a b).pwr = s.pwr := rfl
@[simp] theorem State.wr8_gctl (s : State) (a : Nat) (b : Byte) : (s.wr8 a b).gctl = s.gctl := rfl
@[simp] theorem State.wr8_sec (s : State) (a : Nat) (b : Byte) : (s.wr8 a b).sec = s.sec := rfl
@[simp] theorem State.wr8_brn (s : State) (a : Nat) (b : Byte) : (s.wr8 a b).brn = s.brn := rfl
@[simp] theorem State.wr8_arb (s : State) (a : Nat) (b : Byte) : (s.wr8 a b).arb = s.arb := rfl
@[simp] theorem State.wr8_eth (s : State) (a : Nat) (b : Byte) : (s.wr8 a b).eth = s.eth := rfl
@[simp] theorem State.wr8_yrd (s : State) (a : Nat) (b : Byte) : (s.wr8 a b).yrd = s.yrd := rfl
@[simp] theorem State.wr8_sch (s : State) (a : Nat) (b : Byte) : (s.wr8 a b).sch = s.sch := rfl
@[simp] theorem State.wr8_lft (s : State) (a : Nat) (b : Byte) : (s.wr8 a b).lft = s.lft := rfl
@[simp] theorem State.wr8_red (s : State) (a : Nat) (b : Byte) : (s.wr8 a b).red = s.red := rfl
@[simp] theorem State.wr8_vox (s : State) (a : Nat) (b : Byte) : (s.wr8 a b).vox = s.vox := rfl
@[simp] theorem State.wr8_ztt (s : State) (a : Nat) (b : Byte) : (s.wr8 a b).ztt = s.ztt := rfl
@[simp] theorem State.wr8_sax (s : State) (a : Nat) (b : Byte) : (s.wr8 a b).sax = s.sax := rfl
@[simp] theorem State.wr8_pending (s : State) (a : Nat) (b : Byte) : (s.wr8 a b).pending = s.pending := rfl

/-! ### setEcc -/

@[simp] theorem State.setEcc_regs (s : State) (a : Nat) (e : Ecc) : (s.setEcc a e).regs = s.regs := rfl
@[simp] theorem State.setEcc_mem (s : State) (a : Nat) (e : Ecc) : (s.setEcc a e).mem = s.mem := rfl
@[simp] theorem State.setEcc_host (s : State) (a : Nat) (e : Ecc) : (s.setEcc a e).host = s.host := rfl
@[simp] theorem State.setEcc_hiCap (s : State) (a : Nat) (e : Ecc) : (s.setEcc a e).hiCap = s.hiCap := rfl
@[simp] theorem State.setEcc_tick (s : State) (a : Nat) (e : Ecc) : (s.setEcc a e).tick = s.tick := rfl
@[simp] theorem State.setEcc_free (s : State) (a : Nat) (e : Ecc) : (s.setEcc a e).free = s.free := rfl
@[simp] theorem State.setEcc_outbox (s : State) (a : Nat) (e : Ecc) : (s.setEcc a e).outbox = s.outbox := rfl
@[simp] theorem State.setEcc_fcu (s : State) (a : Nat) (e : Ecc) : (s.setEcc a e).fcu = s.fcu := rfl
@[simp] theorem State.setEcc_evr (s : State) (a : Nat) (e : Ecc) : (s.setEcc a e).evr = s.evr := rfl
@[simp] theorem State.setEcc_tbu (s : State) (a : Nat) (e : Ecc) : (s.setEcc a e).tbu = s.tbu := rfl
@[simp] theorem State.setEcc_qm (s : State) (a : Nat) (e : Ecc) : (s.setEcc a e).qm = s.qm := rfl
@[simp] theorem State.setEcc_irq (s : State) (a : Nat) (e : Ecc) : (s.setEcc a e).irq = s.irq := rfl
@[simp] theorem State.setEcc_pwr (s : State) (a : Nat) (e : Ecc) : (s.setEcc a e).pwr = s.pwr := rfl
@[simp] theorem State.setEcc_gctl (s : State) (a : Nat) (e : Ecc) : (s.setEcc a e).gctl = s.gctl := rfl
@[simp] theorem State.setEcc_sec (s : State) (a : Nat) (e : Ecc) : (s.setEcc a e).sec = s.sec := rfl
@[simp] theorem State.setEcc_brn (s : State) (a : Nat) (e : Ecc) : (s.setEcc a e).brn = s.brn := rfl
@[simp] theorem State.setEcc_arb (s : State) (a : Nat) (e : Ecc) : (s.setEcc a e).arb = s.arb := rfl
@[simp] theorem State.setEcc_eth (s : State) (a : Nat) (e : Ecc) : (s.setEcc a e).eth = s.eth := rfl
@[simp] theorem State.setEcc_yrd (s : State) (a : Nat) (e : Ecc) : (s.setEcc a e).yrd = s.yrd := rfl
@[simp] theorem State.setEcc_sch (s : State) (a : Nat) (e : Ecc) : (s.setEcc a e).sch = s.sch := rfl
@[simp] theorem State.setEcc_lft (s : State) (a : Nat) (e : Ecc) : (s.setEcc a e).lft = s.lft := rfl
@[simp] theorem State.setEcc_red (s : State) (a : Nat) (e : Ecc) : (s.setEcc a e).red = s.red := rfl
@[simp] theorem State.setEcc_vox (s : State) (a : Nat) (e : Ecc) : (s.setEcc a e).vox = s.vox := rfl
@[simp] theorem State.setEcc_ztt (s : State) (a : Nat) (e : Ecc) : (s.setEcc a e).ztt = s.ztt := rfl
@[simp] theorem State.setEcc_sax (s : State) (a : Nat) (e : Ecc) : (s.setEcc a e).sax = s.sax := rfl
@[simp] theorem State.setEcc_pending (s : State) (a : Nat) (e : Ecc) : (s.setEcc a e).pending = s.pending := rfl

/-! ### setDom -/

@[simp] theorem State.setDom_regs (s : State) (n : Nat) (d : Dom) : (s.setDom n d).regs = s.regs := rfl
@[simp] theorem State.setDom_mem (s : State) (n : Nat) (d : Dom) : (s.setDom n d).mem = s.mem := rfl
@[simp] theorem State.setDom_host (s : State) (n : Nat) (d : Dom) : (s.setDom n d).host = s.host := rfl
@[simp] theorem State.setDom_ecc (s : State) (n : Nat) (d : Dom) : (s.setDom n d).ecc = s.ecc := rfl
@[simp] theorem State.setDom_hiCap (s : State) (n : Nat) (d : Dom) : (s.setDom n d).hiCap = s.hiCap := rfl
@[simp] theorem State.setDom_tick (s : State) (n : Nat) (d : Dom) : (s.setDom n d).tick = s.tick := rfl
@[simp] theorem State.setDom_free (s : State) (n : Nat) (d : Dom) : (s.setDom n d).free = s.free := rfl
@[simp] theorem State.setDom_outbox (s : State) (n : Nat) (d : Dom) : (s.setDom n d).outbox = s.outbox := rfl
@[simp] theorem State.setDom_fcu (s : State) (n : Nat) (d : Dom) : (s.setDom n d).fcu = s.fcu := rfl
@[simp] theorem State.setDom_evr (s : State) (n : Nat) (d : Dom) : (s.setDom n d).evr = s.evr := rfl
@[simp] theorem State.setDom_qm (s : State) (n : Nat) (d : Dom) : (s.setDom n d).qm = s.qm := rfl
@[simp] theorem State.setDom_irq (s : State) (n : Nat) (d : Dom) : (s.setDom n d).irq = s.irq := rfl
@[simp] theorem State.setDom_pwr (s : State) (n : Nat) (d : Dom) : (s.setDom n d).pwr = s.pwr := rfl
@[simp] theorem State.setDom_gctl (s : State) (n : Nat) (d : Dom) : (s.setDom n d).gctl = s.gctl := rfl
@[simp] theorem State.setDom_sec (s : State) (n : Nat) (d : Dom) : (s.setDom n d).sec = s.sec := rfl
@[simp] theorem State.setDom_brn (s : State) (n : Nat) (d : Dom) : (s.setDom n d).brn = s.brn := rfl
@[simp] theorem State.setDom_arb (s : State) (n : Nat) (d : Dom) : (s.setDom n d).arb = s.arb := rfl
@[simp] theorem State.setDom_eth (s : State) (n : Nat) (d : Dom) : (s.setDom n d).eth = s.eth := rfl
@[simp] theorem State.setDom_yrd (s : State) (n : Nat) (d : Dom) : (s.setDom n d).yrd = s.yrd := rfl
@[simp] theorem State.setDom_sch (s : State) (n : Nat) (d : Dom) : (s.setDom n d).sch = s.sch := rfl
@[simp] theorem State.setDom_lft (s : State) (n : Nat) (d : Dom) : (s.setDom n d).lft = s.lft := rfl
@[simp] theorem State.setDom_red (s : State) (n : Nat) (d : Dom) : (s.setDom n d).red = s.red := rfl
@[simp] theorem State.setDom_vox (s : State) (n : Nat) (d : Dom) : (s.setDom n d).vox = s.vox := rfl
@[simp] theorem State.setDom_ztt (s : State) (n : Nat) (d : Dom) : (s.setDom n d).ztt = s.ztt := rfl
@[simp] theorem State.setDom_sax (s : State) (n : Nat) (d : Dom) : (s.setDom n d).sax = s.sax := rfl
@[simp] theorem State.setDom_pending (s : State) (n : Nat) (d : Dom) : (s.setDom n d).pending = s.pending := rfl

/-! ### raise -/

@[simp] theorem State.raise_regs (s : State) (src kind d : Nat) : (s.raise src kind d).regs = s.regs := rfl
@[simp] theorem State.raise_mem (s : State) (src kind d : Nat) : (s.raise src kind d).mem = s.mem := rfl
@[simp] theorem State.raise_host (s : State) (src kind d : Nat) : (s.raise src kind d).host = s.host := rfl
@[simp] theorem State.raise_ecc (s : State) (src kind d : Nat) : (s.raise src kind d).ecc = s.ecc := rfl
@[simp] theorem State.raise_hiCap (s : State) (src kind d : Nat) : (s.raise src kind d).hiCap = s.hiCap := rfl
@[simp] theorem State.raise_tick (s : State) (src kind d : Nat) : (s.raise src kind d).tick = s.tick := rfl
@[simp] theorem State.raise_free (s : State) (src kind d : Nat) : (s.raise src kind d).free = s.free := rfl
@[simp] theorem State.raise_outbox (s : State) (src kind d : Nat) : (s.raise src kind d).outbox = s.outbox := rfl
@[simp] theorem State.raise_evr (s : State) (src kind d : Nat) : (s.raise src kind d).evr = s.evr := rfl
@[simp] theorem State.raise_tbu (s : State) (src kind d : Nat) : (s.raise src kind d).tbu = s.tbu := rfl
@[simp] theorem State.raise_qm (s : State) (src kind d : Nat) : (s.raise src kind d).qm = s.qm := rfl
@[simp] theorem State.raise_irq (s : State) (src kind d : Nat) : (s.raise src kind d).irq = s.irq := rfl
@[simp] theorem State.raise_pwr (s : State) (src kind d : Nat) : (s.raise src kind d).pwr = s.pwr := rfl
@[simp] theorem State.raise_gctl (s : State) (src kind d : Nat) : (s.raise src kind d).gctl = s.gctl := rfl
@[simp] theorem State.raise_sec (s : State) (src kind d : Nat) : (s.raise src kind d).sec = s.sec := rfl
@[simp] theorem State.raise_brn (s : State) (src kind d : Nat) : (s.raise src kind d).brn = s.brn := rfl
@[simp] theorem State.raise_arb (s : State) (src kind d : Nat) : (s.raise src kind d).arb = s.arb := rfl
@[simp] theorem State.raise_eth (s : State) (src kind d : Nat) : (s.raise src kind d).eth = s.eth := rfl
@[simp] theorem State.raise_yrd (s : State) (src kind d : Nat) : (s.raise src kind d).yrd = s.yrd := rfl
@[simp] theorem State.raise_sch (s : State) (src kind d : Nat) : (s.raise src kind d).sch = s.sch := rfl
@[simp] theorem State.raise_lft (s : State) (src kind d : Nat) : (s.raise src kind d).lft = s.lft := rfl
@[simp] theorem State.raise_red (s : State) (src kind d : Nat) : (s.raise src kind d).red = s.red := rfl
@[simp] theorem State.raise_vox (s : State) (src kind d : Nat) : (s.raise src kind d).vox = s.vox := rfl
@[simp] theorem State.raise_ztt (s : State) (src kind d : Nat) : (s.raise src kind d).ztt = s.ztt := rfl
@[simp] theorem State.raise_sax (s : State) (src kind d : Nat) : (s.raise src kind d).sax = s.sax := rfl
@[simp] theorem State.raise_pending (s : State) (src kind d : Nat) : (s.raise src kind d).pending = s.pending := rfl

/-! ### setIq -/

@[simp] theorem State.setIq_regs (s : State) (q : Nat) (v : Iq) : (s.setIq q v).regs = s.regs := rfl
@[simp] theorem State.setIq_mem (s : State) (q : Nat) (v : Iq) : (s.setIq q v).mem = s.mem := rfl
@[simp] theorem State.setIq_host (s : State) (q : Nat) (v : Iq) : (s.setIq q v).host = s.host := rfl
@[simp] theorem State.setIq_ecc (s : State) (q : Nat) (v : Iq) : (s.setIq q v).ecc = s.ecc := rfl
@[simp] theorem State.setIq_hiCap (s : State) (q : Nat) (v : Iq) : (s.setIq q v).hiCap = s.hiCap := rfl
@[simp] theorem State.setIq_tick (s : State) (q : Nat) (v : Iq) : (s.setIq q v).tick = s.tick := rfl
@[simp] theorem State.setIq_free (s : State) (q : Nat) (v : Iq) : (s.setIq q v).free = s.free := rfl
@[simp] theorem State.setIq_outbox (s : State) (q : Nat) (v : Iq) : (s.setIq q v).outbox = s.outbox := rfl
@[simp] theorem State.setIq_fcu (s : State) (q : Nat) (v : Iq) : (s.setIq q v).fcu = s.fcu := rfl
@[simp] theorem State.setIq_evr (s : State) (q : Nat) (v : Iq) : (s.setIq q v).evr = s.evr := rfl
@[simp] theorem State.setIq_tbu (s : State) (q : Nat) (v : Iq) : (s.setIq q v).tbu = s.tbu := rfl
@[simp] theorem State.setIq_irq (s : State) (q : Nat) (v : Iq) : (s.setIq q v).irq = s.irq := rfl
@[simp] theorem State.setIq_pwr (s : State) (q : Nat) (v : Iq) : (s.setIq q v).pwr = s.pwr := rfl
@[simp] theorem State.setIq_gctl (s : State) (q : Nat) (v : Iq) : (s.setIq q v).gctl = s.gctl := rfl
@[simp] theorem State.setIq_sec (s : State) (q : Nat) (v : Iq) : (s.setIq q v).sec = s.sec := rfl
@[simp] theorem State.setIq_brn (s : State) (q : Nat) (v : Iq) : (s.setIq q v).brn = s.brn := rfl
@[simp] theorem State.setIq_arb (s : State) (q : Nat) (v : Iq) : (s.setIq q v).arb = s.arb := rfl
@[simp] theorem State.setIq_eth (s : State) (q : Nat) (v : Iq) : (s.setIq q v).eth = s.eth := rfl
@[simp] theorem State.setIq_yrd (s : State) (q : Nat) (v : Iq) : (s.setIq q v).yrd = s.yrd := rfl
@[simp] theorem State.setIq_sch (s : State) (q : Nat) (v : Iq) : (s.setIq q v).sch = s.sch := rfl
@[simp] theorem State.setIq_lft (s : State) (q : Nat) (v : Iq) : (s.setIq q v).lft = s.lft := rfl
@[simp] theorem State.setIq_red (s : State) (q : Nat) (v : Iq) : (s.setIq q v).red = s.red := rfl
@[simp] theorem State.setIq_vox (s : State) (q : Nat) (v : Iq) : (s.setIq q v).vox = s.vox := rfl
@[simp] theorem State.setIq_ztt (s : State) (q : Nat) (v : Iq) : (s.setIq q v).ztt = s.ztt := rfl
@[simp] theorem State.setIq_sax (s : State) (q : Nat) (v : Iq) : (s.setIq q v).sax = s.sax := rfl
@[simp] theorem State.setIq_pending (s : State) (q : Nat) (v : Iq) : (s.setIq q v).pending = s.pending := rfl

/-! ### setPair -/

@[simp] theorem State.setPair_regs (s : State) (i : Nat) (v : Pair) : (s.setPair i v).regs = s.regs := rfl
@[simp] theorem State.setPair_mem (s : State) (i : Nat) (v : Pair) : (s.setPair i v).mem = s.mem := rfl
@[simp] theorem State.setPair_host (s : State) (i : Nat) (v : Pair) : (s.setPair i v).host = s.host := rfl
@[simp] theorem State.setPair_ecc (s : State) (i : Nat) (v : Pair) : (s.setPair i v).ecc = s.ecc := rfl
@[simp] theorem State.setPair_hiCap (s : State) (i : Nat) (v : Pair) : (s.setPair i v).hiCap = s.hiCap := rfl
@[simp] theorem State.setPair_tick (s : State) (i : Nat) (v : Pair) : (s.setPair i v).tick = s.tick := rfl
@[simp] theorem State.setPair_free (s : State) (i : Nat) (v : Pair) : (s.setPair i v).free = s.free := rfl
@[simp] theorem State.setPair_outbox (s : State) (i : Nat) (v : Pair) : (s.setPair i v).outbox = s.outbox := rfl
@[simp] theorem State.setPair_fcu (s : State) (i : Nat) (v : Pair) : (s.setPair i v).fcu = s.fcu := rfl
@[simp] theorem State.setPair_evr (s : State) (i : Nat) (v : Pair) : (s.setPair i v).evr = s.evr := rfl
@[simp] theorem State.setPair_tbu (s : State) (i : Nat) (v : Pair) : (s.setPair i v).tbu = s.tbu := rfl
@[simp] theorem State.setPair_irq (s : State) (i : Nat) (v : Pair) : (s.setPair i v).irq = s.irq := rfl
@[simp] theorem State.setPair_pwr (s : State) (i : Nat) (v : Pair) : (s.setPair i v).pwr = s.pwr := rfl
@[simp] theorem State.setPair_gctl (s : State) (i : Nat) (v : Pair) : (s.setPair i v).gctl = s.gctl := rfl
@[simp] theorem State.setPair_sec (s : State) (i : Nat) (v : Pair) : (s.setPair i v).sec = s.sec := rfl
@[simp] theorem State.setPair_brn (s : State) (i : Nat) (v : Pair) : (s.setPair i v).brn = s.brn := rfl
@[simp] theorem State.setPair_arb (s : State) (i : Nat) (v : Pair) : (s.setPair i v).arb = s.arb := rfl
@[simp] theorem State.setPair_eth (s : State) (i : Nat) (v : Pair) : (s.setPair i v).eth = s.eth := rfl
@[simp] theorem State.setPair_yrd (s : State) (i : Nat) (v : Pair) : (s.setPair i v).yrd = s.yrd := rfl
@[simp] theorem State.setPair_sch (s : State) (i : Nat) (v : Pair) : (s.setPair i v).sch = s.sch := rfl
@[simp] theorem State.setPair_lft (s : State) (i : Nat) (v : Pair) : (s.setPair i v).lft = s.lft := rfl
@[simp] theorem State.setPair_red (s : State) (i : Nat) (v : Pair) : (s.setPair i v).red = s.red := rfl
@[simp] theorem State.setPair_vox (s : State) (i : Nat) (v : Pair) : (s.setPair i v).vox = s.vox := rfl
@[simp] theorem State.setPair_ztt (s : State) (i : Nat) (v : Pair) : (s.setPair i v).ztt = s.ztt := rfl
@[simp] theorem State.setPair_sax (s : State) (i : Nat) (v : Pair) : (s.setPair i v).sax = s.sax := rfl
@[simp] theorem State.setPair_pending (s : State) (i : Nat) (v : Pair) : (s.setPair i v).pending = s.pending := rfl

/-! ### irqSync -/

@[simp] theorem State.irqSync_regs (s : State) : (s.irqSync).regs = s.regs := rfl
@[simp] theorem State.irqSync_mem (s : State) : (s.irqSync).mem = s.mem := rfl
@[simp] theorem State.irqSync_host (s : State) : (s.irqSync).host = s.host := rfl
@[simp] theorem State.irqSync_ecc (s : State) : (s.irqSync).ecc = s.ecc := rfl
@[simp] theorem State.irqSync_hiCap (s : State) : (s.irqSync).hiCap = s.hiCap := rfl
@[simp] theorem State.irqSync_tick (s : State) : (s.irqSync).tick = s.tick := rfl
@[simp] theorem State.irqSync_free (s : State) : (s.irqSync).free = s.free := rfl
@[simp] theorem State.irqSync_outbox (s : State) : (s.irqSync).outbox = s.outbox := rfl
@[simp] theorem State.irqSync_fcu (s : State) : (s.irqSync).fcu = s.fcu := rfl
@[simp] theorem State.irqSync_evr (s : State) : (s.irqSync).evr = s.evr := rfl
@[simp] theorem State.irqSync_tbu (s : State) : (s.irqSync).tbu = s.tbu := rfl
@[simp] theorem State.irqSync_qm (s : State) : (s.irqSync).qm = s.qm := rfl
@[simp] theorem State.irqSync_pwr (s : State) : (s.irqSync).pwr = s.pwr := rfl
@[simp] theorem State.irqSync_gctl (s : State) : (s.irqSync).gctl = s.gctl := rfl
@[simp] theorem State.irqSync_sec (s : State) : (s.irqSync).sec = s.sec := rfl
@[simp] theorem State.irqSync_brn (s : State) : (s.irqSync).brn = s.brn := rfl
@[simp] theorem State.irqSync_arb (s : State) : (s.irqSync).arb = s.arb := rfl
@[simp] theorem State.irqSync_eth (s : State) : (s.irqSync).eth = s.eth := rfl
@[simp] theorem State.irqSync_yrd (s : State) : (s.irqSync).yrd = s.yrd := rfl
@[simp] theorem State.irqSync_sch (s : State) : (s.irqSync).sch = s.sch := rfl
@[simp] theorem State.irqSync_lft (s : State) : (s.irqSync).lft = s.lft := rfl
@[simp] theorem State.irqSync_red (s : State) : (s.irqSync).red = s.red := rfl
@[simp] theorem State.irqSync_vox (s : State) : (s.irqSync).vox = s.vox := rfl
@[simp] theorem State.irqSync_ztt (s : State) : (s.irqSync).ztt = s.ztt := rfl
@[simp] theorem State.irqSync_sax (s : State) : (s.irqSync).sax = s.sax := rfl
@[simp] theorem State.irqSync_pending (s : State) : (s.irqSync).pending = s.pending := rfl

/-! ### setTbu -/

@[simp] theorem State.setTbu_regs (s : State) (t : TbuSt) : (s.setTbu t).regs = s.regs := rfl
@[simp] theorem State.setTbu_mem (s : State) (t : TbuSt) : (s.setTbu t).mem = s.mem := rfl
@[simp] theorem State.setTbu_host (s : State) (t : TbuSt) : (s.setTbu t).host = s.host := rfl
@[simp] theorem State.setTbu_ecc (s : State) (t : TbuSt) : (s.setTbu t).ecc = s.ecc := rfl
@[simp] theorem State.setTbu_hiCap (s : State) (t : TbuSt) : (s.setTbu t).hiCap = s.hiCap := rfl
@[simp] theorem State.setTbu_tick (s : State) (t : TbuSt) : (s.setTbu t).tick = s.tick := rfl
@[simp] theorem State.setTbu_free (s : State) (t : TbuSt) : (s.setTbu t).free = s.free := rfl
@[simp] theorem State.setTbu_outbox (s : State) (t : TbuSt) : (s.setTbu t).outbox = s.outbox := rfl
@[simp] theorem State.setTbu_fcu (s : State) (t : TbuSt) : (s.setTbu t).fcu = s.fcu := rfl
@[simp] theorem State.setTbu_evr (s : State) (t : TbuSt) : (s.setTbu t).evr = s.evr := rfl
@[simp] theorem State.setTbu_qm (s : State) (t : TbuSt) : (s.setTbu t).qm = s.qm := rfl
@[simp] theorem State.setTbu_irq (s : State) (t : TbuSt) : (s.setTbu t).irq = s.irq := rfl
@[simp] theorem State.setTbu_pwr (s : State) (t : TbuSt) : (s.setTbu t).pwr = s.pwr := rfl
@[simp] theorem State.setTbu_gctl (s : State) (t : TbuSt) : (s.setTbu t).gctl = s.gctl := rfl
@[simp] theorem State.setTbu_sec (s : State) (t : TbuSt) : (s.setTbu t).sec = s.sec := rfl
@[simp] theorem State.setTbu_brn (s : State) (t : TbuSt) : (s.setTbu t).brn = s.brn := rfl
@[simp] theorem State.setTbu_arb (s : State) (t : TbuSt) : (s.setTbu t).arb = s.arb := rfl
@[simp] theorem State.setTbu_eth (s : State) (t : TbuSt) : (s.setTbu t).eth = s.eth := rfl
@[simp] theorem State.setTbu_yrd (s : State) (t : TbuSt) : (s.setTbu t).yrd = s.yrd := rfl
@[simp] theorem State.setTbu_sch (s : State) (t : TbuSt) : (s.setTbu t).sch = s.sch := rfl
@[simp] theorem State.setTbu_lft (s : State) (t : TbuSt) : (s.setTbu t).lft = s.lft := rfl
@[simp] theorem State.setTbu_red (s : State) (t : TbuSt) : (s.setTbu t).red = s.red := rfl
@[simp] theorem State.setTbu_vox (s : State) (t : TbuSt) : (s.setTbu t).vox = s.vox := rfl
@[simp] theorem State.setTbu_ztt (s : State) (t : TbuSt) : (s.setTbu t).ztt = s.ztt := rfl
@[simp] theorem State.setTbu_sax (s : State) (t : TbuSt) : (s.setTbu t).sax = s.sax := rfl
@[simp] theorem State.setTbu_pending (s : State) (t : TbuSt) : (s.setTbu t).pending = s.pending := rfl

/-! ### setBrn -/

@[simp] theorem State.setBrn_regs (s : State) (b : BrnSt) : (s.setBrn b).regs = s.regs := rfl
@[simp] theorem State.setBrn_mem (s : State) (b : BrnSt) : (s.setBrn b).mem = s.mem := rfl
@[simp] theorem State.setBrn_host (s : State) (b : BrnSt) : (s.setBrn b).host = s.host := rfl
@[simp] theorem State.setBrn_ecc (s : State) (b : BrnSt) : (s.setBrn b).ecc = s.ecc := rfl
@[simp] theorem State.setBrn_hiCap (s : State) (b : BrnSt) : (s.setBrn b).hiCap = s.hiCap := rfl
@[simp] theorem State.setBrn_tick (s : State) (b : BrnSt) : (s.setBrn b).tick = s.tick := rfl
@[simp] theorem State.setBrn_free (s : State) (b : BrnSt) : (s.setBrn b).free = s.free := rfl
@[simp] theorem State.setBrn_outbox (s : State) (b : BrnSt) : (s.setBrn b).outbox = s.outbox := rfl
@[simp] theorem State.setBrn_fcu (s : State) (b : BrnSt) : (s.setBrn b).fcu = s.fcu := rfl
@[simp] theorem State.setBrn_evr (s : State) (b : BrnSt) : (s.setBrn b).evr = s.evr := rfl
@[simp] theorem State.setBrn_tbu (s : State) (b : BrnSt) : (s.setBrn b).tbu = s.tbu := rfl
@[simp] theorem State.setBrn_qm (s : State) (b : BrnSt) : (s.setBrn b).qm = s.qm := rfl
@[simp] theorem State.setBrn_irq (s : State) (b : BrnSt) : (s.setBrn b).irq = s.irq := rfl
@[simp] theorem State.setBrn_pwr (s : State) (b : BrnSt) : (s.setBrn b).pwr = s.pwr := rfl
@[simp] theorem State.setBrn_gctl (s : State) (b : BrnSt) : (s.setBrn b).gctl = s.gctl := rfl
@[simp] theorem State.setBrn_sec (s : State) (b : BrnSt) : (s.setBrn b).sec = s.sec := rfl
@[simp] theorem State.setBrn_arb (s : State) (b : BrnSt) : (s.setBrn b).arb = s.arb := rfl
@[simp] theorem State.setBrn_eth (s : State) (b : BrnSt) : (s.setBrn b).eth = s.eth := rfl
@[simp] theorem State.setBrn_yrd (s : State) (b : BrnSt) : (s.setBrn b).yrd = s.yrd := rfl
@[simp] theorem State.setBrn_sch (s : State) (b : BrnSt) : (s.setBrn b).sch = s.sch := rfl
@[simp] theorem State.setBrn_lft (s : State) (b : BrnSt) : (s.setBrn b).lft = s.lft := rfl
@[simp] theorem State.setBrn_red (s : State) (b : BrnSt) : (s.setBrn b).red = s.red := rfl
@[simp] theorem State.setBrn_vox (s : State) (b : BrnSt) : (s.setBrn b).vox = s.vox := rfl
@[simp] theorem State.setBrn_ztt (s : State) (b : BrnSt) : (s.setBrn b).ztt = s.ztt := rfl
@[simp] theorem State.setBrn_sax (s : State) (b : BrnSt) : (s.setBrn b).sax = s.sax := rfl
@[simp] theorem State.setBrn_pending (s : State) (b : BrnSt) : (s.setBrn b).pending = s.pending := rfl

/-! ### setThr -/

@[simp] theorem State.setThr_regs (s : State) (t : Nat) (v : Thread) : (s.setThr t v).regs = s.regs := rfl
@[simp] theorem State.setThr_mem (s : State) (t : Nat) (v : Thread) : (s.setThr t v).mem = s.mem := rfl
@[simp] theorem State.setThr_host (s : State) (t : Nat) (v : Thread) : (s.setThr t v).host = s.host := rfl
@[simp] theorem State.setThr_ecc (s : State) (t : Nat) (v : Thread) : (s.setThr t v).ecc = s.ecc := rfl
@[simp] theorem State.setThr_hiCap (s : State) (t : Nat) (v : Thread) : (s.setThr t v).hiCap = s.hiCap := rfl
@[simp] theorem State.setThr_tick (s : State) (t : Nat) (v : Thread) : (s.setThr t v).tick = s.tick := rfl
@[simp] theorem State.setThr_free (s : State) (t : Nat) (v : Thread) : (s.setThr t v).free = s.free := rfl
@[simp] theorem State.setThr_outbox (s : State) (t : Nat) (v : Thread) : (s.setThr t v).outbox = s.outbox := rfl
@[simp] theorem State.setThr_fcu (s : State) (t : Nat) (v : Thread) : (s.setThr t v).fcu = s.fcu := rfl
@[simp] theorem State.setThr_evr (s : State) (t : Nat) (v : Thread) : (s.setThr t v).evr = s.evr := rfl
@[simp] theorem State.setThr_tbu (s : State) (t : Nat) (v : Thread) : (s.setThr t v).tbu = s.tbu := rfl
@[simp] theorem State.setThr_qm (s : State) (t : Nat) (v : Thread) : (s.setThr t v).qm = s.qm := rfl
@[simp] theorem State.setThr_irq (s : State) (t : Nat) (v : Thread) : (s.setThr t v).irq = s.irq := rfl
@[simp] theorem State.setThr_pwr (s : State) (t : Nat) (v : Thread) : (s.setThr t v).pwr = s.pwr := rfl
@[simp] theorem State.setThr_gctl (s : State) (t : Nat) (v : Thread) : (s.setThr t v).gctl = s.gctl := rfl
@[simp] theorem State.setThr_sec (s : State) (t : Nat) (v : Thread) : (s.setThr t v).sec = s.sec := rfl
@[simp] theorem State.setThr_arb (s : State) (t : Nat) (v : Thread) : (s.setThr t v).arb = s.arb := rfl
@[simp] theorem State.setThr_eth (s : State) (t : Nat) (v : Thread) : (s.setThr t v).eth = s.eth := rfl
@[simp] theorem State.setThr_yrd (s : State) (t : Nat) (v : Thread) : (s.setThr t v).yrd = s.yrd := rfl
@[simp] theorem State.setThr_sch (s : State) (t : Nat) (v : Thread) : (s.setThr t v).sch = s.sch := rfl
@[simp] theorem State.setThr_lft (s : State) (t : Nat) (v : Thread) : (s.setThr t v).lft = s.lft := rfl
@[simp] theorem State.setThr_red (s : State) (t : Nat) (v : Thread) : (s.setThr t v).red = s.red := rfl
@[simp] theorem State.setThr_vox (s : State) (t : Nat) (v : Thread) : (s.setThr t v).vox = s.vox := rfl
@[simp] theorem State.setThr_ztt (s : State) (t : Nat) (v : Thread) : (s.setThr t v).ztt = s.ztt := rfl
@[simp] theorem State.setThr_sax (s : State) (t : Nat) (v : Thread) : (s.setThr t v).sax = s.sax := rfl
@[simp] theorem State.setThr_pending (s : State) (t : Nat) (v : Thread) : (s.setThr t v).pending = s.pending := rfl

/-! ### setPad -/

@[simp] theorem State.setPad_regs (s : State) (p : Nat) (v : PadSt) : (s.setPad p v).regs = s.regs := rfl
@[simp] theorem State.setPad_mem (s : State) (p : Nat) (v : PadSt) : (s.setPad p v).mem = s.mem := rfl
@[simp] theorem State.setPad_host (s : State) (p : Nat) (v : PadSt) : (s.setPad p v).host = s.host := rfl
@[simp] theorem State.setPad_ecc (s : State) (p : Nat) (v : PadSt) : (s.setPad p v).ecc = s.ecc := rfl
@[simp] theorem State.setPad_hiCap (s : State) (p : Nat) (v : PadSt) : (s.setPad p v).hiCap = s.hiCap := rfl
@[simp] theorem State.setPad_tick (s : State) (p : Nat) (v : PadSt) : (s.setPad p v).tick = s.tick := rfl
@[simp] theorem State.setPad_free (s : State) (p : Nat) (v : PadSt) : (s.setPad p v).free = s.free := rfl
@[simp] theorem State.setPad_outbox (s : State) (p : Nat) (v : PadSt) : (s.setPad p v).outbox = s.outbox := rfl
@[simp] theorem State.setPad_fcu (s : State) (p : Nat) (v : PadSt) : (s.setPad p v).fcu = s.fcu := rfl
@[simp] theorem State.setPad_evr (s : State) (p : Nat) (v : PadSt) : (s.setPad p v).evr = s.evr := rfl
@[simp] theorem State.setPad_tbu (s : State) (p : Nat) (v : PadSt) : (s.setPad p v).tbu = s.tbu := rfl
@[simp] theorem State.setPad_qm (s : State) (p : Nat) (v : PadSt) : (s.setPad p v).qm = s.qm := rfl
@[simp] theorem State.setPad_irq (s : State) (p : Nat) (v : PadSt) : (s.setPad p v).irq = s.irq := rfl
@[simp] theorem State.setPad_pwr (s : State) (p : Nat) (v : PadSt) : (s.setPad p v).pwr = s.pwr := rfl
@[simp] theorem State.setPad_gctl (s : State) (p : Nat) (v : PadSt) : (s.setPad p v).gctl = s.gctl := rfl
@[simp] theorem State.setPad_sec (s : State) (p : Nat) (v : PadSt) : (s.setPad p v).sec = s.sec := rfl
@[simp] theorem State.setPad_arb (s : State) (p : Nat) (v : PadSt) : (s.setPad p v).arb = s.arb := rfl
@[simp] theorem State.setPad_eth (s : State) (p : Nat) (v : PadSt) : (s.setPad p v).eth = s.eth := rfl
@[simp] theorem State.setPad_yrd (s : State) (p : Nat) (v : PadSt) : (s.setPad p v).yrd = s.yrd := rfl
@[simp] theorem State.setPad_sch (s : State) (p : Nat) (v : PadSt) : (s.setPad p v).sch = s.sch := rfl
@[simp] theorem State.setPad_lft (s : State) (p : Nat) (v : PadSt) : (s.setPad p v).lft = s.lft := rfl
@[simp] theorem State.setPad_red (s : State) (p : Nat) (v : PadSt) : (s.setPad p v).red = s.red := rfl
@[simp] theorem State.setPad_vox (s : State) (p : Nat) (v : PadSt) : (s.setPad p v).vox = s.vox := rfl
@[simp] theorem State.setPad_ztt (s : State) (p : Nat) (v : PadSt) : (s.setPad p v).ztt = s.ztt := rfl
@[simp] theorem State.setPad_sax (s : State) (p : Nat) (v : PadSt) : (s.setPad p v).sax = s.sax := rfl
@[simp] theorem State.setPad_pending (s : State) (p : Nat) (v : PadSt) : (s.setPad p v).pending = s.pending := rfl

/-! ### setEvr -/

@[simp] theorem State.setEvr_regs (s : State) (e : EvrSt) : (s.setEvr e).regs = s.regs := rfl
@[simp] theorem State.setEvr_mem (s : State) (e : EvrSt) : (s.setEvr e).mem = s.mem := rfl
@[simp] theorem State.setEvr_host (s : State) (e : EvrSt) : (s.setEvr e).host = s.host := rfl
@[simp] theorem State.setEvr_ecc (s : State) (e : EvrSt) : (s.setEvr e).ecc = s.ecc := rfl
@[simp] theorem State.setEvr_hiCap (s : State) (e : EvrSt) : (s.setEvr e).hiCap = s.hiCap := rfl
@[simp] theorem State.setEvr_tick (s : State) (e : EvrSt) : (s.setEvr e).tick = s.tick := rfl
@[simp] theorem State.setEvr_free (s : State) (e : EvrSt) : (s.setEvr e).free = s.free := rfl
@[simp] theorem State.setEvr_outbox (s : State) (e : EvrSt) : (s.setEvr e).outbox = s.outbox := rfl
@[simp] theorem State.setEvr_fcu (s : State) (e : EvrSt) : (s.setEvr e).fcu = s.fcu := rfl
@[simp] theorem State.setEvr_tbu (s : State) (e : EvrSt) : (s.setEvr e).tbu = s.tbu := rfl
@[simp] theorem State.setEvr_qm (s : State) (e : EvrSt) : (s.setEvr e).qm = s.qm := rfl
@[simp] theorem State.setEvr_irq (s : State) (e : EvrSt) : (s.setEvr e).irq = s.irq := rfl
@[simp] theorem State.setEvr_pwr (s : State) (e : EvrSt) : (s.setEvr e).pwr = s.pwr := rfl
@[simp] theorem State.setEvr_gctl (s : State) (e : EvrSt) : (s.setEvr e).gctl = s.gctl := rfl
@[simp] theorem State.setEvr_sec (s : State) (e : EvrSt) : (s.setEvr e).sec = s.sec := rfl
@[simp] theorem State.setEvr_brn (s : State) (e : EvrSt) : (s.setEvr e).brn = s.brn := rfl
@[simp] theorem State.setEvr_arb (s : State) (e : EvrSt) : (s.setEvr e).arb = s.arb := rfl
@[simp] theorem State.setEvr_eth (s : State) (e : EvrSt) : (s.setEvr e).eth = s.eth := rfl
@[simp] theorem State.setEvr_yrd (s : State) (e : EvrSt) : (s.setEvr e).yrd = s.yrd := rfl
@[simp] theorem State.setEvr_sch (s : State) (e : EvrSt) : (s.setEvr e).sch = s.sch := rfl
@[simp] theorem State.setEvr_lft (s : State) (e : EvrSt) : (s.setEvr e).lft = s.lft := rfl
@[simp] theorem State.setEvr_red (s : State) (e : EvrSt) : (s.setEvr e).red = s.red := rfl
@[simp] theorem State.setEvr_vox (s : State) (e : EvrSt) : (s.setEvr e).vox = s.vox := rfl
@[simp] theorem State.setEvr_ztt (s : State) (e : EvrSt) : (s.setEvr e).ztt = s.ztt := rfl
@[simp] theorem State.setEvr_sax (s : State) (e : EvrSt) : (s.setEvr e).sax = s.sax := rfl
@[simp] theorem State.setEvr_pending (s : State) (e : EvrSt) : (s.setEvr e).pending = s.pending := rfl

/-! ### setLft -/

@[simp] theorem State.setLft_regs (s : State) (l : LftSt) : (s.setLft l).regs = s.regs := rfl
@[simp] theorem State.setLft_mem (s : State) (l : LftSt) : (s.setLft l).mem = s.mem := rfl
@[simp] theorem State.setLft_host (s : State) (l : LftSt) : (s.setLft l).host = s.host := rfl
@[simp] theorem State.setLft_ecc (s : State) (l : LftSt) : (s.setLft l).ecc = s.ecc := rfl
@[simp] theorem State.setLft_hiCap (s : State) (l : LftSt) : (s.setLft l).hiCap = s.hiCap := rfl
@[simp] theorem State.setLft_tick (s : State) (l : LftSt) : (s.setLft l).tick = s.tick := rfl
@[simp] theorem State.setLft_free (s : State) (l : LftSt) : (s.setLft l).free = s.free := rfl
@[simp] theorem State.setLft_outbox (s : State) (l : LftSt) : (s.setLft l).outbox = s.outbox := rfl
@[simp] theorem State.setLft_fcu (s : State) (l : LftSt) : (s.setLft l).fcu = s.fcu := rfl
@[simp] theorem State.setLft_evr (s : State) (l : LftSt) : (s.setLft l).evr = s.evr := rfl
@[simp] theorem State.setLft_tbu (s : State) (l : LftSt) : (s.setLft l).tbu = s.tbu := rfl
@[simp] theorem State.setLft_qm (s : State) (l : LftSt) : (s.setLft l).qm = s.qm := rfl
@[simp] theorem State.setLft_irq (s : State) (l : LftSt) : (s.setLft l).irq = s.irq := rfl
@[simp] theorem State.setLft_pwr (s : State) (l : LftSt) : (s.setLft l).pwr = s.pwr := rfl
@[simp] theorem State.setLft_gctl (s : State) (l : LftSt) : (s.setLft l).gctl = s.gctl := rfl
@[simp] theorem State.setLft_sec (s : State) (l : LftSt) : (s.setLft l).sec = s.sec := rfl
@[simp] theorem State.setLft_brn (s : State) (l : LftSt) : (s.setLft l).brn = s.brn := rfl
@[simp] theorem State.setLft_arb (s : State) (l : LftSt) : (s.setLft l).arb = s.arb := rfl
@[simp] theorem State.setLft_eth (s : State) (l : LftSt) : (s.setLft l).eth = s.eth := rfl
@[simp] theorem State.setLft_yrd (s : State) (l : LftSt) : (s.setLft l).yrd = s.yrd := rfl
@[simp] theorem State.setLft_sch (s : State) (l : LftSt) : (s.setLft l).sch = s.sch := rfl
@[simp] theorem State.setLft_red (s : State) (l : LftSt) : (s.setLft l).red = s.red := rfl
@[simp] theorem State.setLft_vox (s : State) (l : LftSt) : (s.setLft l).vox = s.vox := rfl
@[simp] theorem State.setLft_ztt (s : State) (l : LftSt) : (s.setLft l).ztt = s.ztt := rfl
@[simp] theorem State.setLft_sax (s : State) (l : LftSt) : (s.setLft l).sax = s.sax := rfl
@[simp] theorem State.setLft_pending (s : State) (l : LftSt) : (s.setLft l).pending = s.pending := rfl

/-! ### setYrd -/

@[simp] theorem State.setYrd_regs (s : State) (y : YrdSt) : (s.setYrd y).regs = s.regs := rfl
@[simp] theorem State.setYrd_mem (s : State) (y : YrdSt) : (s.setYrd y).mem = s.mem := rfl
@[simp] theorem State.setYrd_host (s : State) (y : YrdSt) : (s.setYrd y).host = s.host := rfl
@[simp] theorem State.setYrd_ecc (s : State) (y : YrdSt) : (s.setYrd y).ecc = s.ecc := rfl
@[simp] theorem State.setYrd_hiCap (s : State) (y : YrdSt) : (s.setYrd y).hiCap = s.hiCap := rfl
@[simp] theorem State.setYrd_tick (s : State) (y : YrdSt) : (s.setYrd y).tick = s.tick := rfl
@[simp] theorem State.setYrd_free (s : State) (y : YrdSt) : (s.setYrd y).free = s.free := rfl
@[simp] theorem State.setYrd_outbox (s : State) (y : YrdSt) : (s.setYrd y).outbox = s.outbox := rfl
@[simp] theorem State.setYrd_fcu (s : State) (y : YrdSt) : (s.setYrd y).fcu = s.fcu := rfl
@[simp] theorem State.setYrd_evr (s : State) (y : YrdSt) : (s.setYrd y).evr = s.evr := rfl
@[simp] theorem State.setYrd_tbu (s : State) (y : YrdSt) : (s.setYrd y).tbu = s.tbu := rfl
@[simp] theorem State.setYrd_qm (s : State) (y : YrdSt) : (s.setYrd y).qm = s.qm := rfl
@[simp] theorem State.setYrd_irq (s : State) (y : YrdSt) : (s.setYrd y).irq = s.irq := rfl
@[simp] theorem State.setYrd_pwr (s : State) (y : YrdSt) : (s.setYrd y).pwr = s.pwr := rfl
@[simp] theorem State.setYrd_gctl (s : State) (y : YrdSt) : (s.setYrd y).gctl = s.gctl := rfl
@[simp] theorem State.setYrd_sec (s : State) (y : YrdSt) : (s.setYrd y).sec = s.sec := rfl
@[simp] theorem State.setYrd_brn (s : State) (y : YrdSt) : (s.setYrd y).brn = s.brn := rfl
@[simp] theorem State.setYrd_arb (s : State) (y : YrdSt) : (s.setYrd y).arb = s.arb := rfl
@[simp] theorem State.setYrd_eth (s : State) (y : YrdSt) : (s.setYrd y).eth = s.eth := rfl
@[simp] theorem State.setYrd_sch (s : State) (y : YrdSt) : (s.setYrd y).sch = s.sch := rfl
@[simp] theorem State.setYrd_lft (s : State) (y : YrdSt) : (s.setYrd y).lft = s.lft := rfl
@[simp] theorem State.setYrd_red (s : State) (y : YrdSt) : (s.setYrd y).red = s.red := rfl
@[simp] theorem State.setYrd_vox (s : State) (y : YrdSt) : (s.setYrd y).vox = s.vox := rfl
@[simp] theorem State.setYrd_ztt (s : State) (y : YrdSt) : (s.setYrd y).ztt = s.ztt := rfl
@[simp] theorem State.setYrd_sax (s : State) (y : YrdSt) : (s.setYrd y).sax = s.sax := rfl
@[simp] theorem State.setYrd_pending (s : State) (y : YrdSt) : (s.setYrd y).pending = s.pending := rfl

/-! ### setPort -/

@[simp] theorem State.setPort_regs (s : State) (p : Nat) (v : Port) : (s.setPort p v).regs = s.regs := rfl
@[simp] theorem State.setPort_mem (s : State) (p : Nat) (v : Port) : (s.setPort p v).mem = s.mem := rfl
@[simp] theorem State.setPort_host (s : State) (p : Nat) (v : Port) : (s.setPort p v).host = s.host := rfl
@[simp] theorem State.setPort_ecc (s : State) (p : Nat) (v : Port) : (s.setPort p v).ecc = s.ecc := rfl
@[simp] theorem State.setPort_hiCap (s : State) (p : Nat) (v : Port) : (s.setPort p v).hiCap = s.hiCap := rfl
@[simp] theorem State.setPort_tick (s : State) (p : Nat) (v : Port) : (s.setPort p v).tick = s.tick := rfl
@[simp] theorem State.setPort_free (s : State) (p : Nat) (v : Port) : (s.setPort p v).free = s.free := rfl
@[simp] theorem State.setPort_outbox (s : State) (p : Nat) (v : Port) : (s.setPort p v).outbox = s.outbox := rfl
@[simp] theorem State.setPort_fcu (s : State) (p : Nat) (v : Port) : (s.setPort p v).fcu = s.fcu := rfl
@[simp] theorem State.setPort_evr (s : State) (p : Nat) (v : Port) : (s.setPort p v).evr = s.evr := rfl
@[simp] theorem State.setPort_tbu (s : State) (p : Nat) (v : Port) : (s.setPort p v).tbu = s.tbu := rfl
@[simp] theorem State.setPort_qm (s : State) (p : Nat) (v : Port) : (s.setPort p v).qm = s.qm := rfl
@[simp] theorem State.setPort_irq (s : State) (p : Nat) (v : Port) : (s.setPort p v).irq = s.irq := rfl
@[simp] theorem State.setPort_pwr (s : State) (p : Nat) (v : Port) : (s.setPort p v).pwr = s.pwr := rfl
@[simp] theorem State.setPort_gctl (s : State) (p : Nat) (v : Port) : (s.setPort p v).gctl = s.gctl := rfl
@[simp] theorem State.setPort_sec (s : State) (p : Nat) (v : Port) : (s.setPort p v).sec = s.sec := rfl
@[simp] theorem State.setPort_brn (s : State) (p : Nat) (v : Port) : (s.setPort p v).brn = s.brn := rfl
@[simp] theorem State.setPort_arb (s : State) (p : Nat) (v : Port) : (s.setPort p v).arb = s.arb := rfl
@[simp] theorem State.setPort_yrd (s : State) (p : Nat) (v : Port) : (s.setPort p v).yrd = s.yrd := rfl
@[simp] theorem State.setPort_sch (s : State) (p : Nat) (v : Port) : (s.setPort p v).sch = s.sch := rfl
@[simp] theorem State.setPort_lft (s : State) (p : Nat) (v : Port) : (s.setPort p v).lft = s.lft := rfl
@[simp] theorem State.setPort_red (s : State) (p : Nat) (v : Port) : (s.setPort p v).red = s.red := rfl
@[simp] theorem State.setPort_vox (s : State) (p : Nat) (v : Port) : (s.setPort p v).vox = s.vox := rfl
@[simp] theorem State.setPort_ztt (s : State) (p : Nat) (v : Port) : (s.setPort p v).ztt = s.ztt := rfl
@[simp] theorem State.setPort_sax (s : State) (p : Nat) (v : Port) : (s.setPort p v).sax = s.sax := rfl
@[simp] theorem State.setPort_pending (s : State) (p : Nat) (v : Port) : (s.setPort p v).pending = s.pending := rfl

/-! ### setSch -/

@[simp] theorem State.setSch_regs (s : State) (x : SchSt) : (s.setSch x).regs = s.regs := rfl
@[simp] theorem State.setSch_mem (s : State) (x : SchSt) : (s.setSch x).mem = s.mem := rfl
@[simp] theorem State.setSch_host (s : State) (x : SchSt) : (s.setSch x).host = s.host := rfl
@[simp] theorem State.setSch_ecc (s : State) (x : SchSt) : (s.setSch x).ecc = s.ecc := rfl
@[simp] theorem State.setSch_hiCap (s : State) (x : SchSt) : (s.setSch x).hiCap = s.hiCap := rfl
@[simp] theorem State.setSch_tick (s : State) (x : SchSt) : (s.setSch x).tick = s.tick := rfl
@[simp] theorem State.setSch_free (s : State) (x : SchSt) : (s.setSch x).free = s.free := rfl
@[simp] theorem State.setSch_outbox (s : State) (x : SchSt) : (s.setSch x).outbox = s.outbox := rfl
@[simp] theorem State.setSch_fcu (s : State) (x : SchSt) : (s.setSch x).fcu = s.fcu := rfl
@[simp] theorem State.setSch_evr (s : State) (x : SchSt) : (s.setSch x).evr = s.evr := rfl
@[simp] theorem State.setSch_tbu (s : State) (x : SchSt) : (s.setSch x).tbu = s.tbu := rfl
@[simp] theorem State.setSch_qm (s : State) (x : SchSt) : (s.setSch x).qm = s.qm := rfl
@[simp] theorem State.setSch_irq (s : State) (x : SchSt) : (s.setSch x).irq = s.irq := rfl
@[simp] theorem State.setSch_pwr (s : State) (x : SchSt) : (s.setSch x).pwr = s.pwr := rfl
@[simp] theorem State.setSch_gctl (s : State) (x : SchSt) : (s.setSch x).gctl = s.gctl := rfl
@[simp] theorem State.setSch_sec (s : State) (x : SchSt) : (s.setSch x).sec = s.sec := rfl
@[simp] theorem State.setSch_brn (s : State) (x : SchSt) : (s.setSch x).brn = s.brn := rfl
@[simp] theorem State.setSch_arb (s : State) (x : SchSt) : (s.setSch x).arb = s.arb := rfl
@[simp] theorem State.setSch_eth (s : State) (x : SchSt) : (s.setSch x).eth = s.eth := rfl
@[simp] theorem State.setSch_yrd (s : State) (x : SchSt) : (s.setSch x).yrd = s.yrd := rfl
@[simp] theorem State.setSch_lft (s : State) (x : SchSt) : (s.setSch x).lft = s.lft := rfl
@[simp] theorem State.setSch_red (s : State) (x : SchSt) : (s.setSch x).red = s.red := rfl
@[simp] theorem State.setSch_vox (s : State) (x : SchSt) : (s.setSch x).vox = s.vox := rfl
@[simp] theorem State.setSch_ztt (s : State) (x : SchSt) : (s.setSch x).ztt = s.ztt := rfl
@[simp] theorem State.setSch_sax (s : State) (x : SchSt) : (s.setSch x).sax = s.sax := rfl
@[simp] theorem State.setSch_pending (s : State) (x : SchSt) : (s.setSch x).pending = s.pending := rfl

/-! ### setRed -/

@[simp] theorem State.setRed_regs (s : State) (r : RedSt) : (s.setRed r).regs = s.regs := rfl
@[simp] theorem State.setRed_mem (s : State) (r : RedSt) : (s.setRed r).mem = s.mem := rfl
@[simp] theorem State.setRed_host (s : State) (r : RedSt) : (s.setRed r).host = s.host := rfl
@[simp] theorem State.setRed_ecc (s : State) (r : RedSt) : (s.setRed r).ecc = s.ecc := rfl
@[simp] theorem State.setRed_hiCap (s : State) (r : RedSt) : (s.setRed r).hiCap = s.hiCap := rfl
@[simp] theorem State.setRed_tick (s : State) (r : RedSt) : (s.setRed r).tick = s.tick := rfl
@[simp] theorem State.setRed_free (s : State) (r : RedSt) : (s.setRed r).free = s.free := rfl
@[simp] theorem State.setRed_outbox (s : State) (r : RedSt) : (s.setRed r).outbox = s.outbox := rfl
@[simp] theorem State.setRed_fcu (s : State) (r : RedSt) : (s.setRed r).fcu = s.fcu := rfl
@[simp] theorem State.setRed_evr (s : State) (r : RedSt) : (s.setRed r).evr = s.evr := rfl
@[simp] theorem State.setRed_tbu (s : State) (r : RedSt) : (s.setRed r).tbu = s.tbu := rfl
@[simp] theorem State.setRed_qm (s : State) (r : RedSt) : (s.setRed r).qm = s.qm := rfl
@[simp] theorem State.setRed_irq (s : State) (r : RedSt) : (s.setRed r).irq = s.irq := rfl
@[simp] theorem State.setRed_pwr (s : State) (r : RedSt) : (s.setRed r).pwr = s.pwr := rfl
@[simp] theorem State.setRed_gctl (s : State) (r : RedSt) : (s.setRed r).gctl = s.gctl := rfl
@[simp] theorem State.setRed_sec (s : State) (r : RedSt) : (s.setRed r).sec = s.sec := rfl
@[simp] theorem State.setRed_brn (s : State) (r : RedSt) : (s.setRed r).brn = s.brn := rfl
@[simp] theorem State.setRed_arb (s : State) (r : RedSt) : (s.setRed r).arb = s.arb := rfl
@[simp] theorem State.setRed_eth (s : State) (r : RedSt) : (s.setRed r).eth = s.eth := rfl
@[simp] theorem State.setRed_yrd (s : State) (r : RedSt) : (s.setRed r).yrd = s.yrd := rfl
@[simp] theorem State.setRed_sch (s : State) (r : RedSt) : (s.setRed r).sch = s.sch := rfl
@[simp] theorem State.setRed_lft (s : State) (r : RedSt) : (s.setRed r).lft = s.lft := rfl
@[simp] theorem State.setRed_vox (s : State) (r : RedSt) : (s.setRed r).vox = s.vox := rfl
@[simp] theorem State.setRed_ztt (s : State) (r : RedSt) : (s.setRed r).ztt = s.ztt := rfl
@[simp] theorem State.setRed_sax (s : State) (r : RedSt) : (s.setRed r).sax = s.sax := rfl
@[simp] theorem State.setRed_pending (s : State) (r : RedSt) : (s.setRed r).pending = s.pending := rfl

/-! ### setZ -/

@[simp] theorem State.setZ_regs (s : State) (z : ZttSt) : (s.setZ z).regs = s.regs := rfl
@[simp] theorem State.setZ_mem (s : State) (z : ZttSt) : (s.setZ z).mem = s.mem := rfl
@[simp] theorem State.setZ_host (s : State) (z : ZttSt) : (s.setZ z).host = s.host := rfl
@[simp] theorem State.setZ_ecc (s : State) (z : ZttSt) : (s.setZ z).ecc = s.ecc := rfl
@[simp] theorem State.setZ_hiCap (s : State) (z : ZttSt) : (s.setZ z).hiCap = s.hiCap := rfl
@[simp] theorem State.setZ_tick (s : State) (z : ZttSt) : (s.setZ z).tick = s.tick := rfl
@[simp] theorem State.setZ_free (s : State) (z : ZttSt) : (s.setZ z).free = s.free := rfl
@[simp] theorem State.setZ_outbox (s : State) (z : ZttSt) : (s.setZ z).outbox = s.outbox := rfl
@[simp] theorem State.setZ_fcu (s : State) (z : ZttSt) : (s.setZ z).fcu = s.fcu := rfl
@[simp] theorem State.setZ_evr (s : State) (z : ZttSt) : (s.setZ z).evr = s.evr := rfl
@[simp] theorem State.setZ_tbu (s : State) (z : ZttSt) : (s.setZ z).tbu = s.tbu := rfl
@[simp] theorem State.setZ_qm (s : State) (z : ZttSt) : (s.setZ z).qm = s.qm := rfl
@[simp] theorem State.setZ_irq (s : State) (z : ZttSt) : (s.setZ z).irq = s.irq := rfl
@[simp] theorem State.setZ_pwr (s : State) (z : ZttSt) : (s.setZ z).pwr = s.pwr := rfl
@[simp] theorem State.setZ_gctl (s : State) (z : ZttSt) : (s.setZ z).gctl = s.gctl := rfl
@[simp] theorem State.setZ_sec (s : State) (z : ZttSt) : (s.setZ z).sec = s.sec := rfl
@[simp] theorem State.setZ_brn (s : State) (z : ZttSt) : (s.setZ z).brn = s.brn := rfl
@[simp] theorem State.setZ_arb (s : State) (z : ZttSt) : (s.setZ z).arb = s.arb := rfl
@[simp] theorem State.setZ_eth (s : State) (z : ZttSt) : (s.setZ z).eth = s.eth := rfl
@[simp] theorem State.setZ_yrd (s : State) (z : ZttSt) : (s.setZ z).yrd = s.yrd := rfl
@[simp] theorem State.setZ_sch (s : State) (z : ZttSt) : (s.setZ z).sch = s.sch := rfl
@[simp] theorem State.setZ_lft (s : State) (z : ZttSt) : (s.setZ z).lft = s.lft := rfl
@[simp] theorem State.setZ_red (s : State) (z : ZttSt) : (s.setZ z).red = s.red := rfl
@[simp] theorem State.setZ_vox (s : State) (z : ZttSt) : (s.setZ z).vox = s.vox := rfl
@[simp] theorem State.setZ_sax (s : State) (z : ZttSt) : (s.setZ z).sax = s.sax := rfl
@[simp] theorem State.setZ_pending (s : State) (z : ZttSt) : (s.setZ z).pending = s.pending := rfl

/-! ### setSax -/

@[simp] theorem State.setSax_regs (s : State) (x : SaxSt) : (s.setSax x).regs = s.regs := rfl
@[simp] theorem State.setSax_mem (s : State) (x : SaxSt) : (s.setSax x).mem = s.mem := rfl
@[simp] theorem State.setSax_host (s : State) (x : SaxSt) : (s.setSax x).host = s.host := rfl
@[simp] theorem State.setSax_ecc (s : State) (x : SaxSt) : (s.setSax x).ecc = s.ecc := rfl
@[simp] theorem State.setSax_hiCap (s : State) (x : SaxSt) : (s.setSax x).hiCap = s.hiCap := rfl
@[simp] theorem State.setSax_tick (s : State) (x : SaxSt) : (s.setSax x).tick = s.tick := rfl
@[simp] theorem State.setSax_free (s : State) (x : SaxSt) : (s.setSax x).free = s.free := rfl
@[simp] theorem State.setSax_outbox (s : State) (x : SaxSt) : (s.setSax x).outbox = s.outbox := rfl
@[simp] theorem State.setSax_fcu (s : State) (x : SaxSt) : (s.setSax x).fcu = s.fcu := rfl
@[simp] theorem State.setSax_evr (s : State) (x : SaxSt) : (s.setSax x).evr = s.evr := rfl
@[simp] theorem State.setSax_tbu (s : State) (x : SaxSt) : (s.setSax x).tbu = s.tbu := rfl
@[simp] theorem State.setSax_qm (s : State) (x : SaxSt) : (s.setSax x).qm = s.qm := rfl
@[simp] theorem State.setSax_irq (s : State) (x : SaxSt) : (s.setSax x).irq = s.irq := rfl
@[simp] theorem State.setSax_pwr (s : State) (x : SaxSt) : (s.setSax x).pwr = s.pwr := rfl
@[simp] theorem State.setSax_gctl (s : State) (x : SaxSt) : (s.setSax x).gctl = s.gctl := rfl
@[simp] theorem State.setSax_sec (s : State) (x : SaxSt) : (s.setSax x).sec = s.sec := rfl
@[simp] theorem State.setSax_brn (s : State) (x : SaxSt) : (s.setSax x).brn = s.brn := rfl
@[simp] theorem State.setSax_arb (s : State) (x : SaxSt) : (s.setSax x).arb = s.arb := rfl
@[simp] theorem State.setSax_eth (s : State) (x : SaxSt) : (s.setSax x).eth = s.eth := rfl
@[simp] theorem State.setSax_yrd (s : State) (x : SaxSt) : (s.setSax x).yrd = s.yrd := rfl
@[simp] theorem State.setSax_sch (s : State) (x : SaxSt) : (s.setSax x).sch = s.sch := rfl
@[simp] theorem State.setSax_lft (s : State) (x : SaxSt) : (s.setSax x).lft = s.lft := rfl
@[simp] theorem State.setSax_red (s : State) (x : SaxSt) : (s.setSax x).red = s.red := rfl
@[simp] theorem State.setSax_vox (s : State) (x : SaxSt) : (s.setSax x).vox = s.vox := rfl
@[simp] theorem State.setSax_ztt (s : State) (x : SaxSt) : (s.setSax x).ztt = s.ztt := rfl
@[simp] theorem State.setSax_pending (s : State) (x : SaxSt) : (s.setSax x).pending = s.pending := rfl

/-! ### setGctl -/

@[simp] theorem State.setGctl_regs (s : State) (g : GctlSt) : (s.setGctl g).regs = s.regs := rfl
@[simp] theorem State.setGctl_mem (s : State) (g : GctlSt) : (s.setGctl g).mem = s.mem := rfl
@[simp] theorem State.setGctl_host (s : State) (g : GctlSt) : (s.setGctl g).host = s.host := rfl
@[simp] theorem State.setGctl_ecc (s : State) (g : GctlSt) : (s.setGctl g).ecc = s.ecc := rfl
@[simp] theorem State.setGctl_hiCap (s : State) (g : GctlSt) : (s.setGctl g).hiCap = s.hiCap := rfl
@[simp] theorem State.setGctl_tick (s : State) (g : GctlSt) : (s.setGctl g).tick = s.tick := rfl
@[simp] theorem State.setGctl_free (s : State) (g : GctlSt) : (s.setGctl g).free = s.free := rfl
@[simp] theorem State.setGctl_outbox (s : State) (g : GctlSt) : (s.setGctl g).outbox = s.outbox := rfl
@[simp] theorem State.setGctl_fcu (s : State) (g : GctlSt) : (s.setGctl g).fcu = s.fcu := rfl
@[simp] theorem State.setGctl_evr (s : State) (g : GctlSt) : (s.setGctl g).evr = s.evr := rfl
@[simp] theorem State.setGctl_tbu (s : State) (g : GctlSt) : (s.setGctl g).tbu = s.tbu := rfl
@[simp] theorem State.setGctl_qm (s : State) (g : GctlSt) : (s.setGctl g).qm = s.qm := rfl
@[simp] theorem State.setGctl_irq (s : State) (g : GctlSt) : (s.setGctl g).irq = s.irq := rfl
@[simp] theorem State.setGctl_pwr (s : State) (g : GctlSt) : (s.setGctl g).pwr = s.pwr := rfl
@[simp] theorem State.setGctl_sec (s : State) (g : GctlSt) : (s.setGctl g).sec = s.sec := rfl
@[simp] theorem State.setGctl_brn (s : State) (g : GctlSt) : (s.setGctl g).brn = s.brn := rfl
@[simp] theorem State.setGctl_arb (s : State) (g : GctlSt) : (s.setGctl g).arb = s.arb := rfl
@[simp] theorem State.setGctl_eth (s : State) (g : GctlSt) : (s.setGctl g).eth = s.eth := rfl
@[simp] theorem State.setGctl_yrd (s : State) (g : GctlSt) : (s.setGctl g).yrd = s.yrd := rfl
@[simp] theorem State.setGctl_sch (s : State) (g : GctlSt) : (s.setGctl g).sch = s.sch := rfl
@[simp] theorem State.setGctl_lft (s : State) (g : GctlSt) : (s.setGctl g).lft = s.lft := rfl
@[simp] theorem State.setGctl_red (s : State) (g : GctlSt) : (s.setGctl g).red = s.red := rfl
@[simp] theorem State.setGctl_vox (s : State) (g : GctlSt) : (s.setGctl g).vox = s.vox := rfl
@[simp] theorem State.setGctl_ztt (s : State) (g : GctlSt) : (s.setGctl g).ztt = s.ztt := rfl
@[simp] theorem State.setGctl_sax (s : State) (g : GctlSt) : (s.setGctl g).sax = s.sax := rfl
@[simp] theorem State.setGctl_pending (s : State) (g : GctlSt) : (s.setGctl g).pending = s.pending := rfl

/-! ### setSec -/

@[simp] theorem State.setSec_regs (s : State) (x : SecSt) : (s.setSec x).regs = s.regs := rfl
@[simp] theorem State.setSec_mem (s : State) (x : SecSt) : (s.setSec x).mem = s.mem := rfl
@[simp] theorem State.setSec_host (s : State) (x : SecSt) : (s.setSec x).host = s.host := rfl
@[simp] theorem State.setSec_ecc (s : State) (x : SecSt) : (s.setSec x).ecc = s.ecc := rfl
@[simp] theorem State.setSec_hiCap (s : State) (x : SecSt) : (s.setSec x).hiCap = s.hiCap := rfl
@[simp] theorem State.setSec_tick (s : State) (x : SecSt) : (s.setSec x).tick = s.tick := rfl
@[simp] theorem State.setSec_free (s : State) (x : SecSt) : (s.setSec x).free = s.free := rfl
@[simp] theorem State.setSec_outbox (s : State) (x : SecSt) : (s.setSec x).outbox = s.outbox := rfl
@[simp] theorem State.setSec_fcu (s : State) (x : SecSt) : (s.setSec x).fcu = s.fcu := rfl
@[simp] theorem State.setSec_evr (s : State) (x : SecSt) : (s.setSec x).evr = s.evr := rfl
@[simp] theorem State.setSec_tbu (s : State) (x : SecSt) : (s.setSec x).tbu = s.tbu := rfl
@[simp] theorem State.setSec_qm (s : State) (x : SecSt) : (s.setSec x).qm = s.qm := rfl
@[simp] theorem State.setSec_irq (s : State) (x : SecSt) : (s.setSec x).irq = s.irq := rfl
@[simp] theorem State.setSec_pwr (s : State) (x : SecSt) : (s.setSec x).pwr = s.pwr := rfl
@[simp] theorem State.setSec_gctl (s : State) (x : SecSt) : (s.setSec x).gctl = s.gctl := rfl
@[simp] theorem State.setSec_brn (s : State) (x : SecSt) : (s.setSec x).brn = s.brn := rfl
@[simp] theorem State.setSec_arb (s : State) (x : SecSt) : (s.setSec x).arb = s.arb := rfl
@[simp] theorem State.setSec_eth (s : State) (x : SecSt) : (s.setSec x).eth = s.eth := rfl
@[simp] theorem State.setSec_yrd (s : State) (x : SecSt) : (s.setSec x).yrd = s.yrd := rfl
@[simp] theorem State.setSec_sch (s : State) (x : SecSt) : (s.setSec x).sch = s.sch := rfl
@[simp] theorem State.setSec_lft (s : State) (x : SecSt) : (s.setSec x).lft = s.lft := rfl
@[simp] theorem State.setSec_red (s : State) (x : SecSt) : (s.setSec x).red = s.red := rfl
@[simp] theorem State.setSec_vox (s : State) (x : SecSt) : (s.setSec x).vox = s.vox := rfl
@[simp] theorem State.setSec_ztt (s : State) (x : SecSt) : (s.setSec x).ztt = s.ztt := rfl
@[simp] theorem State.setSec_sax (s : State) (x : SecSt) : (s.setSec x).sax = s.sax := rfl
@[simp] theorem State.setSec_pending (s : State) (x : SecSt) : (s.setSec x).pending = s.pending := rfl

/-! ### Registers and fields -/

/-- A register reads what was written, cut to 32 bits; every other register reads as before. -/
theorem State.reg_setReg (s : State) (off v o : Nat) : (s.setReg off v).reg o = if o = off then v % 2 ^ 32 else s.reg o := by
  unfold State.reg State.setReg
  by_cases h : o = off
  · subst h; simp
  · simp [SMap.get_set_ne, h]

@[simp] theorem State.reg_setReg_same (s : State) (off v : Nat) : (s.setReg off v).reg off = v % 2 ^ 32 := by
  simp [State.reg_setReg]

theorem State.reg_setReg_ne (s : State) (off v o : Nat) (h : o ≠ off) : (s.setReg off v).reg o = s.reg o := by
  simp [State.reg_setReg, h]

theorem State.reg_lt (s : State) (off : Nat) : s.reg off < 2 ^ 32 := BitVec.isLt _

theorem State.reg_sf (s : State) (f : Fld) (v o : Nat) :
    (s.sf f v).reg o = if o = f.reg then setBits (s.reg f.reg) f.hi f.lo v % 2 ^ 32 else s.reg o := by
  unfold State.sf
  rw [State.reg_setReg]

theorem State.reg_sf_ne (s : State) (f : Fld) (v o : Nat) (h : o ≠ f.reg) : (s.sf f v).reg o = s.reg o := by
  simp [State.reg_sf, h]

/-- A field reads what was written, cut to its width. -/
theorem State.gf_sf_same (s : State) (f : Fld) (v : Nat) (h : f.lo ≤ f.hi) (h32 : f.hi < 32) :
    (s.sf f v).gf f = v % 2 ^ (f.hi + 1 - f.lo) := by
  unfold State.gf
  rw [State.reg_sf, if_pos rfl, Nat.mod_eq_of_lt (setBits_lt _ _ _ _ _ h h32 (s.reg_lt _)), bits_setBits_same _ _ _ _ h]

/-- A field of another register, or one that shares no bit with the field written, reads as before. -/
theorem State.gf_sf_other (s : State) (f g : Fld) (v : Nat) (h : f.lo ≤ f.hi) (h32 : f.hi < 32)
    (hd : g.reg ≠ f.reg ∨ g.hi < f.lo ∨ f.hi < g.lo) : (s.sf f v).gf g = s.gf g := by
  unfold State.gf
  rw [State.reg_sf]
  by_cases hr : g.reg = f.reg
  · rw [if_pos hr, Nat.mod_eq_of_lt (setBits_lt _ _ _ _ _ h h32 (s.reg_lt _)),
      bits_setBits_other _ _ _ _ _ _ h (by rcases hd with hd | hd; exact absurd hr hd; exact hd), hr]
  · rw [if_neg hr]

/-- What a field reads depends on the registers alone. -/
theorem State.gf_of_regs {s t : State} (h : t.regs = s.regs) (f : Fld) : t.gf f = s.gf f := by
  unfold State.gf State.reg; rw [h]

theorem State.bf_of_regs {s t : State} (h : t.regs = s.regs) (f : Fld) : t.bf f = s.bf f := by
  unfold State.bf; rw [State.gf_of_regs h]

theorem State.reg_of_regs {s t : State} (h : t.regs = s.regs) (o : Nat) : t.reg o = s.reg o := by
  unfold State.reg; rw [h]

@[simp] theorem State.reg_irqSync (s : State) (o : Nat) : s.irqSync.reg o = s.reg o := rfl
@[simp] theorem State.gf_irqSync (s : State) (f : Fld) : s.irqSync.gf f = s.gf f := rfl
@[simp] theorem State.bf_irqSync (s : State) (f : Fld) : s.irqSync.bf f = s.bf f := rfl
@[simp] theorem State.reg_raise (s : State) (a b c o : Nat) : (s.raise a b c).reg o = s.reg o := rfl
@[simp] theorem State.gf_raise (s : State) (a b c : Nat) (f : Fld) : (s.raise a b c).gf f = s.gf f := rfl
@[simp] theorem State.bf_raise (s : State) (a b c : Nat) (f : Fld) : (s.raise a b c).bf f = s.bf f := rfl
@[simp] theorem State.gf_setBrn (s : State) (b : BrnSt) (f : Fld) : (s.setBrn b).gf f = s.gf f := rfl
@[simp] theorem State.gf_setThr (s : State) (t : Nat) (v : Thread) (f : Fld) : (s.setThr t v).gf f = s.gf f := rfl
@[simp] theorem State.bf_setThr (s : State) (t : Nat) (v : Thread) (f : Fld) : (s.setThr t v).bf f = s.bf f := rfl

/-! ### The end of a command -/

/-- A command of a running device answers its effect, with the interrupt requests that rose signalled. -/
theorem live_running {s : State} (f : State → State) (h : s.stopped = false) : live s f = .next (f s).irqSync := by
  simp [live, finish, h]

/-- A command changes nothing while a cold reset or a freeze holds the device. -/
theorem live_stopped {s : State} (f : State → State) (h : s.stopped = true) : live s f = .next s := by
  simp [live, h]

/-! ### Threads and general registers -/

theorem State.thr_setThr (s : State) (t u : Nat) (v : Thread) : (s.setThr t v).thr u = if u = t then v else s.thr u := by
  unfold State.thr State.setThr State.setBrn
  exact SMap.get_set _ _ _ _ _

@[simp] theorem State.thr_setThr_same (s : State) (t : Nat) (v : Thread) : (s.setThr t v).thr t = v := by simp [State.thr_setThr]

theorem State.thr_setThr_ne (s : State) (t u : Nat) (v : Thread) (h : u ≠ t) : (s.setThr t v).thr u = s.thr u := by
  simp [State.thr_setThr, h]

@[simp] theorem State.g_setThr (s : State) (t u r : Nat) (v : Thread) : (s.setThr t v).g u r = s.g u r := rfl

/-- A general register reads what was written; g0 reads zero; every other register reads as before. -/
theorem State.g_setG (s : State) (t r u q : Nat) (v : Word) (hr : r < 32) (hq : q < 32) :
    (s.setG t r v).g u q = if u = t ∧ q = r ∧ r ≠ 0 then v else s.g u q := by
  unfold State.setG State.g
  by_cases hr0 : r = 0
  · simp [hr0]
  · rw [if_neg hr0]
    by_cases hq0 : q = 0
    · subst hq0; simp [Ne.symm hr0]
    · simp only [hq0, if_false, State.setBrn, SMap.get_set]
      by_cases h : u = t ∧ q = r
      · obtain ⟨rfl, rfl⟩ := h; simp [hq0]
      · rw [if_neg (by omega), if_neg (by tauto)]

@[simp] theorem State.g_zero (s : State) (t : Nat) : s.g t 0 = 0 := rfl

@[simp] theorem State.thr_setG (s : State) (t r u : Nat) (v : Word) : (s.setG t r v).thr u = s.thr u := by
  unfold State.setG; split <;> rfl

theorem State.setG_brn_only (s : State) (t r : Nat) (v : Word) : ∃ b, s.setG t r v = s.setBrn b := by
  unfold State.setG; split
  · exact ⟨s.brn, rfl⟩
  · exact ⟨_, rfl⟩


end Sys2Proof.Machine
end

