-- ==== Sys2Proof/Laws/Memory.lean ====
section
/-! SUPPORT. Memory: a read after a write, every other byte as before, and the canonical form that every memory operation keeps. -/
namespace Sys2Proof.Machine

/-! ### Read after write -/

theorem rd8_wr8 (s : State) (a c : Nat) (b : Byte) : (s.wr8 a b).rd8 c = if c = a then b else s.rd8 c :=
  SMap.get_set _ _ _ _ _

/-- Bytes written from an address upwards: inside the range the list's byte, outside it what was there. -/
theorem rd8_wrB (l : List Byte) : ∀ (s : State) (a c : Nat),
    (s.wrB a l).rd8 c = if a ≤ c ∧ c < a + l.length then l.getD (c - a) 0 else s.rd8 c := by
  induction l with
  | nil =>
    intro s a c
    simp [State.wrB]
  | cons b bs ih =>
    intro s a c
    rw [State.wrB, ih, rd8_wr8]
    by_cases h1 : c = a
    · subst h1; simp
    · by_cases h2 : a + 1 ≤ c ∧ c < a + 1 + bs.length
      · have h3 : a ≤ c ∧ c < a + (bs.length + 1) := by omega
        have h4 : c - a = c - (a + 1) + 1 := by omega
        simp only [h2, and_self, if_true, List.length_cons, h3, h4, List.getD_cons_succ]
      · have h3 : ¬ (a ≤ c ∧ c < a + (bs.length + 1)) := by omega
        simp only [h2, if_false, h1, List.length_cons, h3]

/-- A byte outside the range written reads as before. -/
theorem rd8_wrB_out (s : State) (a c : Nat) (l : List Byte) (h : c < a ∨ a + l.length ≤ c) : (s.wrB a l).rd8 c = s.rd8 c := by
  have h' : ¬ (a ≤ c ∧ c < a + l.length) := by omega
  simp [rd8_wrB, h']

/-- The registers and what the FCU hears are all that has changed. -/
def Counts (s u : State) : Prop := ∃ r f, u = { s with regs := r, fcu := f }

theorem counts_refl (s : State) : Counts s s := ⟨s.regs, s.fcu, rfl⟩
theorem counts_sf {s u : State} (f : Fld) (v : Nat) (h : Counts s u) : Counts s (u.sf f v) := by
  obtain ⟨r, g, rfl⟩ := h; exact ⟨_, _, rfl⟩
theorem counts_incf {s u : State} (f : Fld) (h : Counts s u) : Counts s (u.incf f) := by
  obtain ⟨r, g, rfl⟩ := h; exact ⟨_, _, rfl⟩
theorem counts_raise {s u : State} (a b c : Nat) (h : Counts s u) : Counts s (u.raise a b c) := by
  obtain ⟨r, g, rfl⟩ := h; exact ⟨_, _, rfl⟩
theorem counts_sfs {s : State} (l : List (Fld × Nat)) : ∀ {u : State}, Counts s u → Counts s (u.sfs l) := by
  induction l with
  | nil => intro u h; exact h
  | cons x xs ih => intro u h; exact ih (counts_sf x.1 x.2 h)

theorem counts_ite {s u v : State} {c : Prop} [Decidable c] (h : Counts s u) (k : Counts s v) : Counts s (if c then u else v) := by
  split <;> assumption

theorem dramError_only (s : State) (a : Nat) (ue : Bool) : Counts s (s.dramError a ue) :=
  have h := fun d => counts_raise 0x22 (if ue then kUE else kCE) d (counts_refl s)
  counts_ite (counts_ite (counts_sf _ _ (counts_incf _ (h _))) (counts_sfs _ (counts_sf _ _ (counts_incf _ (h _)))))
    (counts_sf _ _ (counts_incf _ (h _)))

theorem sramError_only (s : State) (a n : Nat) (ue : Bool) : Counts s (s.sramError a n ue) :=
  have h := fun src d => counts_raise src (if ue then kUE else kCE) d (counts_refl s)
  counts_ite (counts_ite (counts_sf _ _ (counts_incf _ (h _ _))) (counts_sfs _ (counts_sf _ _ (counts_incf _ (h _ _)))))
    (counts_sf _ _ (counts_incf _ (h _ _)))

/-- An error met touches the registers that count it and what the FCU hears. -/
theorem memError_only (s : State) (a n : Nat) : Counts s (s.memError a n) := by
  unfold State.memError
  split
  · exact counts_refl s
  · split
    · exact dramError_only _ _ _
    · exact sramError_only _ _ _ _

@[simp] theorem memError_mem (s : State) (a n : Nat) : (s.memError a n).mem = s.mem := by
  obtain ⟨r, f, h⟩ := memError_only s a n; rw [h]
@[simp] theorem memError_rd8 (s : State) (a n c : Nat) : (s.memError a n).rd8 c = s.rd8 c := by
  unfold State.rd8; rw [memError_mem]

/-- A partial word without an error takes the bytes. -/
theorem wrPart_ok (s : State) (a : Nat) (l : List Byte) (h : s.eccOf a = .ok) : s.wrPart a l = s.wrB a l := by
  cases l with
  | nil => rfl
  | cons b bs => simp [State.wrPart, h]

/-- Whatever the word's error, bytes outside the range read as before. -/
theorem rd8_wrPart_out (s : State) (a c : Nat) (l : List Byte) (h : c < a ∨ a + l.length ≤ c) : (s.wrPart a l).rd8 c = s.rd8 c := by
  unfold State.wrPart
  split
  · rfl
  · split
    · exact rd8_wrB_out _ _ _ _ h
    · show ((s.memError a 0).wrB a l).rd8 c = _
      rw [rd8_wrB_out _ _ _ _ h, memError_rd8]
    · exact memError_rd8 _ _ _ _

/-- A block's write leaves every byte outside its range. -/
theorem rd8_wrL_out (s : State) (a c : Nat) (l : List Byte) (h : c < a ∨ a + l.length ≤ c) : (s.wrL a l).rd8 c = s.rd8 c := by
  have hh : headLen a l.length ≤ l.length := by unfold headLen; omega
  have hm : (l.length - headLen a l.length) / eccWord a * eccWord a ≤ l.length - headLen a l.length := Nat.div_mul_le_self _ _
  unfold State.wrL
  dsimp only
  rw [rd8_wrPart_out _ _ _ _ (by simp only [List.length_drop]; omega)]
  show ((s.wrPart a (l.take (headLen a l.length))).wrB _ _).rd8 c = _
  rw [rd8_wrB_out _ _ _ _ (by simp only [List.length_take, List.length_drop]; omega),
    rd8_wrPart_out _ _ _ _ (by simp only [List.length_take]; omega)]

@[simp] theorem wrB_ecc (l : List Byte) : ∀ (s : State) (a : Nat), (s.wrB a l).ecc = s.ecc := by
  induction l with
  | nil => intro s a; rfl
  | cons b bs ih => intro s a; exact ih _ _

/-- Where no word has an error, a block's write stores its bytes. -/
theorem rd8_wrL (s : State) (a c : Nat) (l : List Byte) (h : ∀ x, s.eccOf x = .ok) :
    (s.wrL a l).rd8 c = if a ≤ c ∧ c < a + l.length then l.getD (c - a) 0 else s.rd8 c := by
  have hh : headLen a l.length ≤ l.length := by unfold headLen; omega
  have hm : (l.length - headLen a l.length) / eccWord a * eccWord a ≤ l.length - headLen a l.length := Nat.div_mul_le_self _ _
  have h2 : ∀ (u : State), u.ecc = s.ecc → ∀ lo hi x, ({ u with ecc := u.ecc.clearRange lo hi } : State).eccOf x = .ok := by
    intro u hu lo hi x
    unfold State.eccOf
    rw [SMap.get_clearRange, hu]
    split
    · rfl
    · exact h x
  unfold State.wrL
  dsimp only
  generalize headLen a l.length = p at *
  generalize (l.length - p) / eccWord a * eccWord a = m at *
  rw [wrPart_ok _ _ _ (h _), wrPart_ok _ _ _ (h2 _ (by simp) _ _ _), rd8_wrB]
  show (if _ then _ else ((s.wrB a (l.take p)).wrB (a + p) ((l.drop p).take m)).rd8 c) = _
  rw [rd8_wrB, rd8_wrB]
  simp only [List.length_take, List.length_drop, List.getD_eq_getElem?_getD, List.getElem?_take, List.getElem?_drop]
  by_cases c1 : a + p + m ≤ c ∧ c < a + p + m + (l.length - (p + m))
  · have e : p + m + (c - (a + p + m)) = c - a := by omega
    have c4 : a ≤ c ∧ c < a + l.length := by omega
    simp only [c1, and_self, if_true, e, c4]
  · by_cases c2 : a + p ≤ c ∧ c < a + p + min m (l.length - p)
    · have e : p + (c - (a + p)) = c - a := by omega
      have c4 : a ≤ c ∧ c < a + l.length := by omega
      have c5 : c - (a + p) < m := by omega
      rw [if_neg c1, if_pos c2, if_pos c4, if_pos c5, e]
    · by_cases c3 : a ≤ c ∧ c < a + min p l.length
      · have c4 : a ≤ c ∧ c < a + l.length := by omega
        have c5 : c - a < p := by omega
        rw [if_neg c1, if_neg c2, if_pos c3, if_pos c4, if_pos c5]
      · have c4 : ¬ (a ≤ c ∧ c < a + l.length) := by omega
        rw [if_neg c1, if_neg c2, if_neg c3, if_neg c4]

/-- `t` differs from `s` in memory and the error marks alone. -/
def MemOnly (s t : State) : Prop := ∃ m e, t = { s with mem := m, ecc := e }

theorem memOnly_trans {s t u : State} (h : MemOnly s t) (k : MemOnly t u) : MemOnly s u := by
  obtain ⟨m, e, rfl⟩ := h; obtain ⟨n, f, rfl⟩ := k; exact ⟨n, f, rfl⟩

theorem wrB_only (l : List Byte) : ∀ (s : State) (a : Nat), MemOnly s (s.wrB a l) := by
  induction l with
  | nil => intro s a; exact ⟨s.mem, s.ecc, rfl⟩
  | cons b bs ih => intro s a; exact memOnly_trans ⟨_, s.ecc, rfl⟩ (ih (s.wr8 a b) (a + 1))

/-- Where no word has an error, a block's write touches memory and the marks alone. -/
theorem wrL_only (s : State) (a : Nat) (l : List Byte) (h : ∀ x, s.eccOf x = .ok) : MemOnly s (s.wrL a l) := by
  unfold State.wrL
  dsimp only
  rw [wrPart_ok _ _ _ (h _), wrPart_ok]
  · refine memOnly_trans (wrB_only _ s _) (memOnly_trans (wrB_only _ _ _) (memOnly_trans ⟨_, _, rfl⟩ (wrB_only _ _ _)))
  · unfold State.eccOf
    rw [SMap.get_clearRange, wrB_ecc, wrB_ecc]
    split
    · rfl
    · exact h _

theorem rdB_length (n : Nat) : ∀ (s : State) (a : Nat), (s.rdB a n).length = n := by
  induction n with
  | zero => intro s a; rfl
  | succ n ih => intro s a; simp [State.rdB, ih]

/-- The range just written reads as what was written. -/
theorem rdB_eq (n : Nat) : ∀ (s : State) (a : Nat) (l : List Byte), l.length = n → (∀ i < n, s.rd8 (a + i) = l.getD i 0) → s.rdB a n = l := by
  induction n with
  | zero => intro s a l hl _; rw [List.length_eq_zero_iff.mp hl]; rfl
  | succ n ih =>
    intro s a l hl h
    cases l with
    | nil => cases hl
    | cons b bs =>
      have h0 := h 0 (Nat.succ_pos n)
      have ht := ih s (a + 1) bs (by simpa using hl) (fun i hi => by
        have := h (i + 1) (by omega)
        rw [show a + 1 + i = a + (i + 1) by omega, this]; simp)
      simp only [State.rdB, ht]
      simpa using h0

@[simp] theorem rdB_wrB_same (s : State) (a : Nat) (l : List Byte) : (s.wrB a l).rdB a l.length = l := by
  refine rdB_eq _ _ _ _ rfl (fun i hi => ?_)
  have : a ≤ a + i ∧ a + i < a + l.length := by omega
  simp [rd8_wrB, this]

theorem rdB_wrL_same (s : State) (a : Nat) (l : List Byte) (h : ∀ x, s.eccOf x = .ok) : (s.wrL a l).rdB a l.length = l := by
  refine rdB_eq _ _ _ _ rfl (fun i hi => ?_)
  have : a ≤ a + i ∧ a + i < a + l.length := by omega
  simp [rd8_wrL _ _ _ _ h, this]

/-! ### The canonical form -/

/-- A change that leaves the host's memory alone keeps the form where the new memory and marks have it. -/
theorem memWf_wr8 (s : State) (a : Nat) (b : Byte) (h : s.memWf) : (s.wr8 a b).memWf := ⟨SMap.set_wf _ _ _ _ h.1, h.2⟩

theorem memWf_wrB (l : List Byte) : ∀ (s : State) (a : Nat), s.memWf → (s.wrB a l).memWf := by
  induction l with
  | nil => intro s a h; exact h
  | cons b bs ih => intro s a h; exact ih _ _ (memWf_wr8 s a b h)

theorem memWf_wrN (s : State) (a n v : Nat) (h : s.memWf) : (s.wrN a n v).memWf := memWf_wrB _ s a h

theorem memWf_hostW (l : List Byte) : ∀ (s : State) (a : Nat), s.memWf → (s.hostW a l).memWf := by
  induction l with
  | nil => intro s a h; exact h
  | cons b bs ih => intro s a h; exact ih _ _ ⟨h.1, SMap.set_wf _ _ _ _ h.2.1, h.2.2⟩

theorem memWf_setEcc (s : State) (a : Nat) (e : Ecc) (h : s.memWf) : (s.setEcc a e).memWf := ⟨h.1, h.2.1, SMap.set_wf _ _ _ _ h.2.2⟩

theorem memWf_memError (s : State) (a n : Nat) (h : s.memWf) : (s.memError a n).memWf := by
  obtain ⟨r, f, e⟩ := memError_only s a n; rw [e]; exact h

theorem memWf_wrPart (s : State) (a : Nat) (l : List Byte) (h : s.memWf) : (s.wrPart a l).memWf := by
  unfold State.wrPart
  split
  · exact h
  · split
    · exact memWf_wrB _ _ _ h
    · exact memWf_setEcc _ _ _ (memWf_wrB _ _ _ (memWf_memError _ _ _ h))
    · exact memWf_memError _ _ _ h

theorem memWf_wrL (s : State) (a : Nat) (l : List Byte) (h : s.memWf) : (s.wrL a l).memWf := by
  unfold State.wrL
  exact memWf_wrPart _ _ _
    (have h1 := memWf_wrB ((l.drop (headLen a l.length)).take ((l.length - headLen a l.length) / eccWord a * eccWord a)) _
      (a + headLen a l.length) (memWf_wrPart s a (l.take (headLen a l.length)) h)
     ⟨h1.1, h1.2.1, SMap.clearRange_wf _ _ _ _ h1.2.2⟩)

theorem memWf_memPut (s : State) (a n v : Nat) (h : s.memWf) : (s.memPut a n v).memWf := memWf_setEcc _ a _ (memWf_wrN s a n v h)

/-- What changes neither memory nor the marks keeps the form. -/
theorem memWf_of_same {s t : State} (hm : t.mem = s.mem) (hh : t.host = s.host) (he : t.ecc = s.ecc) (h : s.memWf) : t.memWf := by
  unfold State.memWf at *; rw [hm, hh, he]; exact h

/-- A range cleared, as a loft format does it. -/
theorem memWf_clear (s : State) (lo hi : Nat) (h : s.memWf) :
    ({ s with mem := s.mem.clearRange lo hi, ecc := s.ecc.clearRange lo hi } : State).memWf :=
  ⟨SMap.clearRange_wf _ _ _ _ h.1, h.2.1, SMap.clearRange_wf _ _ _ _ h.2.2⟩

theorem memWf_reset : State.reset.memWf := ⟨rfl, rfl, rfl⟩

end Sys2Proof.Machine
end

