-- ==== Sys2Proof/Laws/Ops.lean ====
section
/-! SUPPORT. What each shared operation can do, said once: how a command answers, how an instruction issues or traps, waking, records, faults,
charging, deliveries and register results. -/
namespace Sys2Proof.Machine

/-! ### How a command answers -/

/-- All that a command of a running device can do. -/
theorem live_cases {s t : State} {f : State → State} (h : live s f = .next t) :
    (s.stopped = true ∧ t = s) ∨ (s.stopped = false ∧ t = (f s).irqSync) := by
  by_cases hs : s.stopped = true
  · rw [live_stopped f hs] at h; cases h; exact .inl ⟨hs, rfl⟩
  · rw [live_running f (by simpa using hs)] at h; cases h; exact .inr ⟨by simpa using hs, rfl⟩

/-- Such a command neither faults nor is refused. -/
theorem live_goesOn (s : State) (f : State → State) : goesOn (live s f) = true := by
  unfold live; split <;> rfl

/-- A register write: discarded in the safe state, else its effect. -/
theorem wr_cases (f : State → State) (s : State) : (s.safe = true ∧ wr f s = s) ∨ (s.safe = false ∧ wr f s = f s) := by
  unfold wr; cases s.safe <;> simp

/-- The signalling at the end of a command touches the interrupt record alone. -/
theorem irqSync_only (s : State) : ∃ q, s.irqSync = { s with irq := q } := ⟨_, rfl⟩

/-! ### Issue and traps -/

/-- An instruction that nothing stands in the way of is counted and has its effect. -/
theorem issue_runs (t : Nat) (q : Req) (body : State → State) (s : State) (h1 : s.mayIssue t = true)
    (h2 : s.canCharge (s.padOf t) 0 1 = true) (h3 : fenceDue ((s.settleYield t).thr t) = none)
    (h4 : (s.settleYield t).fetchBad t = false) (h5 : dueErr ((s.settleYield t).thr t) q = none) (h6 : q.wf = true)
    (h7 : (s.settleYield t).heldIssue t q = false)
    (h8 : q.dram = false ∨ (s.settleYield t).canCharge ((s.settleYield t).padOf t) 1 1 = true) :
    issue t q body s =
      body (((s.settleYield t).fetchCe t).countIssue t) := by
  have h9 : (q.dram && !(s.settleYield t).canCharge ((s.settleYield t).padOf t) 1 1) = false := by
    rcases h8 with h | h <;> simp [h]
  simp only [issue, h1, h2, h3, h4, h5, h6, h7, h9, Bool.not_true, Bool.false_eq_true, if_false]

/-- A thread that may not issue changes nothing. -/
theorem issue_not_eligible (t : Nat) (q : Req) (body : State → State) (s : State) (h : s.mayIssue t = false) : issue t q body s = s := by
  simp [issue, h]

/-- A paddock that cannot pay for the slot is exhausted. -/
theorem issue_exhausted (t : Nat) (q : Req) (body : State → State) (s : State) (h1 : s.mayIssue t = true)
    (h2 : s.canCharge (s.padOf t) 0 1 = false) : issue t q body s = s.exhaust (s.padOf t) 0 := by
  simp [issue, h1, h2]

/-- A trap while IN_TRAP halts the thread and is reported. -/
theorem trap_double (s : State) (t cause tval epc : Nat) (h : (s.thr t).inTrap = true) :
    s.trap t cause tval epc =
      (s.setThr t { s.thr t with st := 5 }).raise (0x30 + barnOf t) kTRAP (t + engOf t * 2 ^ 24 + cause * 2 ^ 32) := by
  simp [State.trap, h]

/-- A first trap saves what it must and goes to the handler. -/
theorem trap_first (s : State) (t cause tval epc : Nat) (h : (s.thr t).inTrap = false) :
    s.trap t cause tval epc = s.setThr t { s.thr t with
      inTrap := true, epc := epc, cause := cause, tval := tval, pc := s.gf (F.BRN_PAD_CTL_VEC_BASE (s.padOf t)) * 256 + cause * 32 } := by
  simp [State.trap, h]

/-- A trap leaves memory, registers and every other thread. -/
theorem trap_frame (s : State) (t cause tval epc : Nat) :
    (s.trap t cause tval epc).mem = s.mem ∧ (s.trap t cause tval epc).regs = s.regs ∧ (s.trap t cause tval epc).brn.gpr = s.brn.gpr ∧
    ∀ u, u ≠ t → (s.trap t cause tval epc).thr u = s.thr u := by
  have ht : ∀ v u, u ≠ t → (s.setThr t v).thr u = s.thr u := fun v u hu => SMap.get_set_ne _ _ _ _ _ hu
  by_cases h : (s.thr t).inTrap = true
  · rw [trap_double s t cause tval epc h]; exact ⟨rfl, rfl, rfl, fun u hu => ht _ u hu⟩
  · rw [trap_first s t cause tval epc (by simpa using h)]; exact ⟨rfl, rfl, rfl, fun u hu => ht _ u hu⟩

/-- What an issue charges: one counter of the paddock, or nothing. -/
theorem charge_cases (s : State) (p k n : Nat) :
    s.charge p k n = s ∨ s.charge p k n = s.sf (F.BRN_PAD_LEFT_LEFT p k) (s.gf (F.BRN_PAD_LEFT_LEFT p k) - n) := by
  unfold State.charge; dsimp only; split
  · exact .inl rfl
  · exact .inr rfl

@[simp] theorem charge_mem (s : State) (p k n : Nat) : (s.charge p k n).mem = s.mem := by
  rcases charge_cases s p k n with h | h <;> rw [h]; rfl
@[simp] theorem charge_brn (s : State) (p k n : Nat) : (s.charge p k n).brn = s.brn := by
  rcases charge_cases s p k n with h | h <;> rw [h]; rfl
@[simp] theorem countIssue_mem (s : State) (t : Nat) : (s.countIssue t).mem = s.mem := by
  simp [State.countIssue, State.chargeIssue]

/-- The PC moves; registers and memory do not. -/
@[simp] theorem goto_mem (s : State) (t a : Nat) : (s.goto t a).mem = s.mem := rfl
@[simp] theorem goto_regs (s : State) (t a : Nat) : (s.goto t a).regs = s.regs := rfl
@[simp] theorem goto_gpr (s : State) (t a : Nat) : (s.goto t a).brn.gpr = s.brn.gpr := rfl
@[simp] theorem goto_pc (s : State) (t a : Nat) : ((s.goto t a).thr t).pc = a := by
  simp only [State.goto, State.setThr, State.thr, State.setBrn, SMap.get_set_same]

/-- A result touches the barns alone. -/
theorem wrReg_brn_only (s : State) (t r : Nat) (v : Word) : ∃ b, s.wrReg t r v = s.setBrn b := by
  unfold State.wrReg
  dsimp only
  have hg : ∀ (u : State), (∃ b, u = s.setBrn b) → ∃ b, u.setG t r v = s.setBrn b := by
    rintro u ⟨b, rfl⟩
    obtain ⟨c, hc⟩ := State.setG_brn_only (s.setBrn b) t r v
    exact ⟨c, hc⟩
  refine hg _ ?_
  have h0 : ∃ b, s = s.setBrn b := ⟨s.brn, rfl⟩
  split <;> split <;> (try split) <;> first | exact h0 | exact ⟨_, rfl⟩

@[simp] theorem wrReg_mem (s : State) (t r : Nat) (v : Word) : (s.wrReg t r v).mem = s.mem := by
  obtain ⟨b, h⟩ := wrReg_brn_only s t r v; rw [h]; rfl
@[simp] theorem wrReg_regs (s : State) (t r : Nat) (v : Word) : (s.wrReg t r v).regs = s.regs := by
  obtain ⟨b, h⟩ := wrReg_brn_only s t r v; rw [h]; rfl

/-! ### Waking, records, faults -/

/-- A record is offered, counted as lost, or, while the recorder is unpowered, nothing. -/
theorem logRec_cases (s : State) (src code a0 a1 : Nat) :
    s.logRec src code a0 a1 = s ∨ s.logRec src code a0 a1 = s.incf F.EVR_CNT_HW_LOST_COUNT ∨
    s.logRec src code a0 a1 = { s with evr := { s.evr with offered := s.evr.offered ++ [s.mkRec code (0x8000 + src) a0 a1] } } := by
  unfold State.logRec
  split
  · exact .inl rfl
  · split
    · exact .inr (.inl rfl)
    · exact .inr (.inr rfl)

@[simp] theorem logRec_mem (s : State) (src code a0 a1 : Nat) : (s.logRec src code a0 a1).mem = s.mem := by
  rcases logRec_cases s src code a0 a1 with h | h | h <;> rw [h]; rfl
@[simp] theorem logRec_gctl (s : State) (src code a0 a1 : Nat) : (s.logRec src code a0 a1).gctl = s.gctl := by
  rcases logRec_cases s src code a0 a1 with h | h | h <;> rw [h]; rfl
@[simp] theorem logRec_pwr (s : State) (src code a0 a1 : Nat) : (s.logRec src code a0 a1).pwr = s.pwr := by
  rcases logRec_cases s src code a0 a1 with h | h | h <;> rw [h]; rfl
@[simp] theorem logRec_fcu (s : State) (src code a0 a1 : Nat) : (s.logRec src code a0 a1).fcu = s.fcu := by
  rcases logRec_cases s src code a0 a1 with h | h | h <;> rw [h]; rfl

@[simp] theorem logRec_tick (s : State) (src code a0 a1 : Nat) : (s.logRec src code a0 a1).tick = s.tick := by
  rcases logRec_cases s src code a0 a1 with h | h | h <;> rw [h]; rfl

/-- Entering a power state lets no time pass. -/
@[simp] theorem enterPs_tick (s : State) (k : Nat) : (s.enterPs k).tick = s.tick := by
  unfold State.enterPs
  by_cases h : s.gf F.PWR_STAT_PS = k
  · rw [if_pos h]
  · have hb : ∀ (u : State) (b : BrnSt), ({ u with brn := b } : State).tick = u.tick := fun _ _ => rfl
    rw [if_neg h, State.sf_tick, hb, logRec_tick, State.sf_tick, State.sf_tick]

/-- In PS0 a wake event changes nothing. -/
theorem wake_ps0 (s : State) (c : Nat) (h : s.gf F.PWR_STAT_PS = 0) : s.wake c = s := by simp [State.wake, h]

/-- Elsewhere the wake completes after the time of the state left. -/
theorem wake_due (s : State) (c : Nat) (h : s.gf F.PWR_STAT_PS ≠ 0) :
    (s.wake c).pwr.wakeDue = some (s.tick + wakeTicks (s.gf F.PWR_STAT_PS)) := by
  unfold State.wake
  rw [if_neg h]
  show some (_ + _) = some (_ + _)
  rw [State.sf_tick, enterPs_tick, State.sf_tick, State.sf_tick]

/-! ### The resume header of the loft -/

theorem putHeader_eq (s : State) (h : Option LHdr) : s.putHeader h = { (s.wrL s.hdrAddr (hdrBytes s.free)).setLft { s.lft with
    headers := match h with
      | some h => (h, s.free) :: s.lft.headers.filter (fun x => x.1.aux != s.gf F.LFT_AUX_BASE_BASE)
      | none => s.lft.headers.filter (fun x => x.1.aux != s.gf F.LFT_AUX_BASE_BASE) } with free := s.free + 4 } := rfl

theorem putHeader_gf (s : State) (h : Option LHdr) (f : Fld) (he : ∀ x, s.eccOf x = .ok) : (s.putHeader h).gf f = s.gf f := by
  obtain ⟨m, e, hm⟩ := wrL_only s s.hdrAddr (hdrBytes s.free) he
  rw [putHeader_eq, hm]
  simp only [State.gf, State.reg, State.setLft]

theorem putHeader_hdrAddr (s : State) (h : Option LHdr) (he : ∀ x, s.eccOf x = .ok) : (s.putHeader h).hdrAddr = s.hdrAddr := by
  simp only [State.hdrAddr, State.auxRegion, putHeader_gf s h _ he]

theorem putHeader_rdB (s : State) (h : Option LHdr) (he : ∀ x, s.eccOf x = .ok) : (s.putHeader h).rdB s.hdrAddr 32 = hdrBytes s.free := by
  have hl : (hdrBytes s.free).length = 32 := by simp [hdrBytes]
  have h8 : ∀ c, (s.putHeader h).rd8 c = (s.wrL s.hdrAddr (hdrBytes s.free)).rd8 c := by
    have hx : ∀ (u : State) (l : LftSt) (k c : Nat), ({ u.setLft l with free := k } : State).rd8 c = u.rd8 c := fun _ _ _ _ => rfl
    intro c; rw [putHeader_eq, hx]
  refine rdB_eq 32 _ _ _ hl (fun i hi => ?_)
  have : s.hdrAddr ≤ s.hdrAddr + i ∧ s.hdrAddr + i < s.hdrAddr + (hdrBytes s.free).length := by omega
  rw [h8, rd8_wrL _ _ _ _ he, if_pos this, Nat.add_sub_cancel_left]

theorem putHeader_headers (s : State) (h : LHdr) : (s.putHeader (some h)).lft.headers =
    (h, s.free) :: s.lft.headers.filter (fun x => x.1.aux != s.gf F.LFT_AUX_BASE_BASE) := by
  rw [putHeader_eq]; simp only [State.setLft]

/-- What LFT writes into the header, it finds there again, whatever the bytes are (R148). -/
theorem header_putHeader (s : State) (h : LHdr) (he : ∀ x, s.eccOf x = .ok) (ha : h.aux = s.gf F.LFT_AUX_BASE_BASE) :
    (s.putHeader (some h)).header = some h := by
  have hf : (s.putHeader (some h)).lft.headers.find? (fun x => x.1.aux == s.gf F.LFT_AUX_BASE_BASE) = some (h, s.free) := by
    rw [putHeader_headers, List.find?_cons_of_pos (by simp [ha])]
  unfold State.header
  rw [putHeader_gf s _ _ he, putHeader_hdrAddr s _ he, hf]
  dsimp only
  rw [putHeader_rdB s _ he, if_pos rfl]

/-! ### Deliveries -/

/-- While its queue is held off, or others wait before it, a delivery waits in order and counts as taken. -/
theorem deliver_held (s : State) (q : Nat) (l : List Byte) (drop : List Fld)
    (h : (s.heldOff q || s.qm.held.any (·.1 == q)) = true) :
    s.deliver q l drop = ({ s with qm := { s.qm with held := s.qm.held ++ [(q, l, drop)] } }, true) := if_pos h

/-- Else the queue takes it, or it is counted as dropped, by the queues and by whoever sent it. -/
theorem deliver_now (s : State) (q : Nat) (l : List Byte) (drop : List Fld)
    (h : (s.heldOff q || s.qm.held.any (·.1 == q)) = false) : s.deliver q l drop = s.deliverOr q l drop :=
  if_neg (by rw [h]; exact Bool.false_ne_true)

/-- A delivery that is not taken is counted, and that is all. -/
theorem deliverNow_lost (s : State) (q : Nat) (l : List Byte) (h : (s.deliverNow q l).2 = false) :
    (s.deliverNow q l).1 = s.incf F.QM_CNT_HW_DROP_COUNT := by
  unfold State.deliverNow at *
  dsimp only at *
  split
  · rw [if_pos ‹_›] at h
    split
    · rfl
    · rw [if_neg ‹_›] at h; simp at h
  · rw [if_neg ‹_›] at h
    split
    · rw [if_pos ‹_›] at h
      split
      · rfl
      · rw [if_neg ‹_›] at h; simp at h
    · rfl

end Sys2Proof.Machine
end

