-- ==== Sys2Proof/Tests/Slice0.lean ====
section
/-! SUPPORT. Tests: ill-formed commands are refused, words of the table decode, single steps, and for every obligation with hypotheses a
witness `wit_<name>`: concrete states and operands that meet the hypotheses of each of its clauses together. -/
namespace Sys2Proof.Tests
set_option Elab.async false
open Sys2Proof.Machine Sys2Proof.Claims

/-! ### Small states -/

/-- The state after reset with the boot ROM done, and with fields set. -/
def r0 : State := State.reset.sf F.GCTL_BOOT_STAT_DONE 1
def st (l : List (Fld × Nat)) : State := r0.sfs l

/-- `s` with the context of thread 0, which runs; with a transaction in its slots; with a value in its register. -/
def onThread (s : State) (f : Thread → Thread) : State := s.setThr 0 (f { Thread.init with st := 1, nextId := 1 })
def run : State := onThread r0 id
def slot (s : State) (x : Txn) : State := onThread s (fun th => { th with txns := [x] })
def runWith (r v : Nat) : State := run.setG 0 r (BitVec.ofNat 64 v)

/-- A word of memory. -/
def poke (s : State) (a n v : Nat) : State := s.wrN a n v

/-- DRAM fitted, powered and scrubbed. -/
def dram : State := st [(F.PWR_RAIL_STAT_GOOD, 15), (F.DMC_CTL_SCRUB_EN, 1), (F.DMC_SIZE_USABLE, 64)]

/-! ### Witnesses: instructions -/

theorem wit_IntegerResults :
    IssuesReg run 0 [1, 2] ∧ IssuesReg run 0 [31] ∧ IssuesReg run 0 [] ∧ (63 : BitVec 12).toNat < 64 ∧ 64 ≤ (64 : BitVec 12).toNat ∧
    64 < (127 : BitVec 12).toNat / 64 + ((127 : BitVec 12).toNat % 64 + 1) ∧ 3 < (4 : BitVec 12).toNat ∧
    (63 : BitVec 12).toNat / 64 + ((63 : BitVec 12).toNat % 64 + 1) ≤ 64 ∧ (0xFC0 : BitVec 12).toNat / 64 + ((0xFC0 : BitVec 12).toNat % 64 + 1) ≤ 64 ∧
    1 ≤ (3 : BitVec 12).toNat ∧ (3 : BitVec 12).toNat ≤ 3 ∧ run.eccOf (codeBase + Pc run 0) ≠ .ce := by
  unfold IssuesReg Issues Fetches; decide

/-- A divider whose result is due. -/
def dividing : State := r0.setBrn { r0.brn with div := r0.brn.div.set (fun _ => none) 5 (some ⟨20, 31, 7, 0⟩) }

theorem wit_DivisionResults :
    IssuesReg run 0 [1, 2] ∧ Div run 0 = none ∧
    dividing.stopped = false ∧ dividing.brn.div.get (fun _ => none) ((0 : Fin 8).val * 16 + (5 : Fin 16).val) = some ⟨20, 31, 7, 0⟩ ∧
    31 < 32 ∧ 0 ≤ dividing.cycles 20 := by
  unfold IssuesReg Issues Fetches; decide

theorem wit_BranchesAndJumps : IssuesReg run 0 [1, 2] ∧ IssuesReg run 0 [31] ∧ IssuesReg run 0 [] := by
  unfold IssuesReg Issues Fetches; decide

theorem wit_HashAndCrcResults : IssuesReg run 0 [1, 2] := by
  unfold IssuesReg Issues Fetches; decide

theorem wit_EngineAddressMap :
    (1 % 2 ≠ 0) ∧ (0x7FF8 % 8 = 0 ∧ 0x7FF8 < 0x8000) ∧ (0x100000000 % 8 = 0 ∧ 0x100000000 ≤ 0x100000000 ∧ 0x100000000 < 0x100080000) ∧
    (barnBase 7 + 0x7FFF8) % 8 = 0 ∧ (ctlBase + 0x3FFFFFC) % 4 = 0 ∧ (0 < dram.usable ∧ (dramBase + 0) % 8 = 0) ∧
    (hostWindow + (2 ^ 38 - 8)) % 8 = 0 ∧ (2 ^ 40 ≤ 2 ^ 40 ∧ 2 ^ 40 % 8 = 0) := by
  decide

/-- Register 1 holds the first address of barn 0. -/
def atBarn : State := runWith 1 0x100000000

theorem wit_AccessesTakeSlots :
    let o : LdOp := ⟨0, 3, 1, 0, false, false⟩
    let p : StOp := ⟨0, 2, 1, 0, false, false⟩
    let m : AmoOp := ⟨0, 3, 1, 2, true, false, false, false⟩
    let d : State := { dram.setThr 0 { Thread.init with st := 1 } with outbox := [] }
    let e := ((d.setG 0 1 (BitVec.ofNat 64 dramBase)).sf (F.BRN_PAD_MODE_PER_EN 0) 1).sf (F.BRN_PAD_LEFT_LEFT 0 0) 1
    LoadRow Instr.ld 3 false ∧ atBarn.reach 0 (LdEa atBarn o) (2 ^ 3) false false = .ok .barn (barnBase 0) ∧ AccessIssues atBarn 0 [1] .barn true false ∧
    StoreRow Instr.sd 3 ∧ atBarn.reach 0 (StEa atBarn p) (2 ^ 3) false true = .ok .barn (barnBase 0) ∧ AccessIssues atBarn 0 [1, 2] .barn false true ∧
    AmoRow Instr.amocas 2 ∧ atBarn.reach 0 (Rv atBarn 0 1).toNat (AmoN m) true false = .ok .barn (barnBase 0) ∧
    AccessIssues atBarn 0 (AmoSrcs 2 m) .barn true true ∧
    run.reach 0 (LdEa run { o with late := true }) (2 ^ 3) false false = .ok .tack (tackBase 0 0) ∧ Interlocked run 0 (tackBase 0 0) (2 ^ 3) ∧
    AccessIssues run 0 [1] .tack true false ∧
    e.reach 0 (LdEa e o) (2 ^ 3) false false = .ok .dram dramBase ∧ e.canCharge (e.padOf 0) 1 1 = false ∧
    Issues e 0 { word := 0, srcs := [1], slot := true, cls := { mem := true, ld := true } } := by
  refine ⟨by simp [LoadRow], ?_, ?_, by simp [StoreRow], ?_, ?_, by simp [AmoRow], ?_, ?_, ?_, ?_, ?_, ?_, ?_, ?_⟩ <;>
    (try unfold AccessIssues) <;> (try unfold Issues Fetches) <;> (try unfold Interlocked) <;> decide

theorem wit_TackAccessesAndTraps :
    let o : LdOp := ⟨0, 3, 0, 8, false, false⟩
    let p : StOp := ⟨0, 2, 0, 8, false, false⟩
    let m : AmoOp := ⟨0, 3, 0, 2, true, false, false, false⟩
    let bad := run.setEcc (tackBase 0 0 + 8) .ue
    LoadRow Instr.ld 3 false ∧ run.reach 0 (LdEa run o) (2 ^ 3) false false = .ok .tack (tackBase 0 0 + 8) ∧
    AccessIssues run 0 [0] .tack true false ∧ TackFree run 0 (tackBase 0 0 + 8) (2 ^ 3) false ∧ run.eccOf (tackBase 0 0 + 8) ≠ .ue ∧
    AccessIssues bad 0 [0] .tack true false ∧ TackFree bad 0 (tackBase 0 0 + 8) (2 ^ 3) false ∧ bad.eccOf (tackBase 0 0 + 8) = .ue ∧
    StoreRow Instr.sd 3 ∧ run.reach 0 (StEa run p) (2 ^ 3) false true = .ok .tack (tackBase 0 0 + 8) ∧
    AccessIssues run 0 [0, 2] .tack false true ∧ AccessIssues bad 0 [0, 2] .tack false true ∧
    run.reach 0 (Rv run 0 0).toNat (AmoN m) true false = .ok .tack (tackBase 0 0) ∧ AccessIssues run 0 (AmoSrcs 2 m) .tack true true ∧
    TackFree run 0 (tackBase 0 0) (AmoN m) (m.rl && (2 != 2 || run.rdN (tackBase 0 0) (AmoN m) == (Rv run 0 3).toNat % 2 ^ (8 * AmoN m))) ∧
    run.reach 0 (LdEa run { o with imm := 1 }) (2 ^ 1) false false = .trap tALIGN ∧ IssuesReg run 0 [0] ∧
    run.reach 0 (StEa run { p with imm := 0xFFF }) (2 ^ 0) false true = .trap tADDR_FAULT ∧ IssuesReg run 0 [0, 2] ∧
    (runWith 1 1).reach 0 (Rv (runWith 1 1) 0 1).toNat 8 true false = .trap tALIGN ∧ IssuesReg (runWith 1 1) 0 [1, 2] := by
  refine ⟨by simp [LoadRow], ?_, ?_, ?_, ?_, ?_, ?_, ?_, by simp [StoreRow], ?_, ?_, ?_, ?_, ?_, ?_, ?_, ?_, ?_, ?_, ?_, ?_⟩ <;>
    (try unfold AccessIssues) <;> (try unfold IssuesReg) <;> (try unfold Issues Fetches) <;> (try unfold TackFree Interlocked) <;> decide

/-- A load, an atomic and a store of barn memory, each in a slot. -/
def aLoad : Txn := { Txn.blank with kind := .load, space := .barn, addr := barnBase 0, size := 8, rd := 31, signed := true }
def anAmo : Txn := { aLoad with kind := .amo, op := 2, cmp := 0, data := 5 }
def aStore : Txn := { aLoad with kind := .store, rd := 0, data := 2 ^ 64 - 1 }

theorem wit_AccessesComplete :
    (let s := slot r0 aLoad
     s.stopped = false ∧ s.findTxn 0 0 = some (aLoad, false) ∧ s.mayPerform 0 aLoad true = true ∧ aLoad.rd < 32) ∧
    (let s := r0.setBrn { r0.brn with orphans := [(0, aLoad)] }
     s.stopped = false ∧ s.findTxn 0 0 = some (aLoad, true) ∧ s.mayPerform 0 aLoad true = true) ∧
    (let s := slot r0 anAmo
     s.findTxn 0 0 = some (anAmo, false) ∧ s.mayPerform 0 anAmo true = true ∧
     amoNew anAmo.op (8 * anAmo.size) (s.loadVal anAmo.addr anAmo.size).2 anAmo.data anAmo.cmp = some 5 ∧ 5 < 256 ^ anAmo.size) ∧
    (let s := slot r0 aStore
     s.findTxn 0 0 = some (aStore, false) ∧ s.mayPerform 0 aStore true = true ∧ aStore.data < 256 ^ aStore.size) ∧
    (let x := { aStore with space := .ctl, addr := R.GCTL_ID, size := 4, data := 0 }
     let s := slot r0 x
     s.findTxn 0 0 = some (x, false) ∧ s.mayPerform 0 x true = true) ∧
    (let x := { aStore with space := .dram, addr := dramBase, size := 8 }
     let s := slot r0 x
     s.stopped = false ∧ s.mayPerform 0 x true = false ∧ s.findTxn 0 0 = some (x, false)) := by
  decide

/-- A memory fence that waits in a slot for nothing. -/
def aFence : Txn := { Txn.blank with kind := .fence, op := 0, data := 15 }

theorem wit_FencesHoldAndPass :
    (Issues run 0 { word := 0, srcs := [], slot := true, fence := some (1, 15) } ∧ fenceMet (run.openTxns 0) (run.thr 0).nextId 1 15 = true) ∧
    (Issues (slot r0 aStore) 0 { word := 0, srcs := [], slot := true, fence := some (0, 15) } ∧
      fenceMet ((slot r0 aStore).openTxns 0) ((slot r0 aStore).thr 0).nextId 0 15 = false) ∧
    (Issues run 0 { word := 0, srcs := [], slot := true, fence := some (3, 0) } ∧ fenceMet (run.openTxns 0) (run.thr 0).nextId 3 0 = true) ∧
    (let s := slot r0 { Txn.blank with kind := .unit, op := 0x13, args := [1, 0] }
     Issues s 0 { word := 0, srcs := [], slot := true, fence := some (3, 0) } ∧ fenceMet (s.openTxns 0) (s.thr 0).nextId 3 0 = false) ∧
    IssuesReg run 0 [] ∧
    (let s := slot r0 aFence
     (s.thr 0).txns.find? (fun y => y.id == aFence.id && y.kind == .fence) = some aFence ∧ fenceMet (s.openTxns 0) aFence.id aFence.op aFence.data = true ∧
     ∀ e ∈ (s.thr 0).errs, e.id < aFence.id → fenceOrders aFence.op aFence.data e = false) ∧
    (let f := { aFence with id := 1 }
     let s := onThread r0 (fun th => { th with txns := [f], errs := [⟨0, 5, 8, .barn, false⟩] })
     (s.thr 0).txns.find? (fun y => y.id == f.id && y.kind == .fence) = some f ∧ (s.thr 0).st = 1 ∧
     ∃ e ∈ (s.thr 0).errs, e.id < f.id ∧ fenceOrders f.op f.data e = true) := by
  unfold IssuesReg Issues Fetches; decide

/-- An operation of a unit in a slot; it waits where `w` says so. -/
def unitOp (op : Nat) (args : List Nat) (w : Bool) : Txn := { Txn.blank with kind := .unit, op := op, args := args, rd := 31, waits := w }

theorem wit_UnitOperationsAreTaken :
    (let o : UnOp := ⟨0, 31, 1, 0⟩
     UnitRow Instr.evLog 0x15 0 ∧ UnitIssues run 0x15 0 o ∧ ∀ ta n, areaOf run 0x15 0 o = some (ta, n) → ta % 8 = 0 ∧ ta + n ≤ 0x8000) ∧
    (let o : UnOp := ⟨0, 31, 1, 0⟩
     let s := runWith 1 0x7FFC
     UnitRow Instr.frmGet 0x10 0 ∧ UnitIssues s 0x10 0 o ∧ ∃ n, areaOf s 0x10 0 o = some (0x7FFC, n) ∧ (s.thr 0).inTrap = false) ∧
    (UnitRow Instr.sxRx 0x14 0 ∧ IssuesReg run 0 [] ∧ unitWf 0x14 0 31 0 = false) ∧
    (let x := { unitOp 0x12 [0, 0, 0] false with id := 0 }
     let s := slot r0 x
     (s.thr 0).txn 0 = some x ∧ x.args = 0 :: 0 :: [0] ∧ s.unitStays 0 0x12 0 [0] = false ∧ s.padDue (s.padOf 0) = false ∧ (s.thr 0).unitBehind x = false ∧
     (runUnit 0 0x12 0 0 [0] s).2.isSome = true) ∧
    (let x := unitOp 0x10 [0, 1, 0] true
     let s := slot r0 x
     (s.thr 0).txn 0 = some x ∧ s.unitStays 0 0x10 0 [0] = false ∧ s.padDue (s.padOf 0) = false ∧ (s.thr 0).unitBehind x = false ∧
     (runUnit 0 0x10 0 1 [0] s).2 = none) ∧
    (let x := unitOp 0x11 [1, 0, 0] false
     let s := slot (st [(F.DMC_STAT_SREF, 1)]) x
     (s.thr 0).txn 0 = some x ∧ s.unitStays 0 0x11 1 [0] = true) := by
  refine ⟨⟨by simp [UnitRow], ?_, ?_⟩, ⟨by simp [UnitRow], ?_, 64, by decide⟩, ⟨by simp [UnitRow], by unfold IssuesReg Issues Fetches; decide⟩, by decide, by decide, by decide⟩
  · refine ⟨by unfold Issues Fetches; decide, by decide, fun ta n h => ?_⟩
    have : areaOf run 0x15 0 ⟨0, 31, 1, 0⟩ = none := by decide
    rw [this] at h; exact absurd h (by simp)
  · intro ta n h
    have : areaOf run 0x15 0 ⟨0, 31, 1, 0⟩ = none := by decide
    rw [this] at h; exact absurd h (by simp)
  · refine ⟨by unfold Issues Fetches; decide, by decide, fun ta n h y hy => ?_⟩
    have : (runWith 1 0x7FFC).openTxns ((⟨0, 31, 1, 0⟩ : UnOp).th) = [] := by decide
    rw [this] at hy; exact absurd hy (by simp)

theorem wit_UnitResultsReachRegisters :
    (let x := { unitOp 0x12 [0, 0, 0] false with res := some (0, 7) }
     (slot r0 x).stopped = false ∧ ((slot r0 x).thr 0).txn 0 = some x ∧ x.rd < 32) ∧
    (let x := unitOp 0x10 [0, 1, 64] true
     let s := onThread r0 (fun th => { th with txns := [x], st := 2 })
     (s.thr 0).txn 0 = some x ∧ x.res = none ∧ s.inWait 0 x = true) ∧
    (let x := unitOp 0x11 [1, 0, 0] false
     let s := slot (st [(F.DMC_STAT_SREF, 1)]) x
     (s.thr 0).txn 0 = some x ∧ s.inWait 0 x = false ∧ ((s.unitTry 0 0).thr 0).txn 0 = some x ∧ x.res = none) ∧
    (let x := unitOp 0x12 [2, 0, 0, 0] true
     ((slot r0 x).thr 0).waitTxn = some x ∧ timeOperand 0 0 0 = some 0 ∧ (slot r0 x).domOk 0 = true ∧ 0 ≤ ((slot r0 x).dom 0).val) ∧
    (let x := unitOp 0x12 [2, 0, 5, 0] true
     ((slot r0 x).thr 0).waitTxn = some x ∧ timeOperand 0 5 0 = some (5000000000 * 2 ^ 32) ∧ ((slot r0 x).dom 0).val < 5000000000 * 2 ^ 32) ∧
    (let x := unitOp 0x10 [0, 1, 64] true
     let s := slot (r0.setDlv 0 [(3, none)]) x
     (s.thr 0).waitTxn = some x ∧ s.yrdFenced = false ∧ (frmGet 0 (Tack 0 64) s).map (·.2) = some 3) ∧
    (let x := unitOp 0x11 [0, 1, 2, 64] true
     let s0 := (r0.setIq 2 { r0.iq 2 with made := true, p := 1 })
     let s := slot (s0.setBrn { s0.brn with qWait := [(2, 0)] }) x
     (s.thr 0).waitTxn = some x ∧ s.qFenced = false ∧ s.dramUp = true ∧ s.dramIdle cQM = true ∧ s.brn.qWait.find? (fun w => w.1 == 2) = some (2, 0) ∧
     (∃ l left, (s.qTake 2).2 = .got l left)) ∧
    (let x := unitOp 0x11 [0, 1, 2, 64] true
     let s := slot (r0.setIq 2 { r0.iq 2 with made := true }) x
     (s.thr 0).waitTxn = some x ∧ (s.qTake 2).2 = .empty) := by
  refine ⟨by decide, by decide, by decide, by decide, by decide, by decide,
    ⟨by decide, by decide, by decide, by decide, by decide, ⟨_, _, rfl⟩⟩, by decide⟩

theorem wit_SystemInstructionsAndTraps :
    (IssuesReg run 0 [31] ∧ IssuesReg run 0 [] ∧ (run.thr 0).inTrap = false) ∧
    (onThread r0 (fun th => { th with yieldRd := some 31 }) |>.thr 0).yieldRd = some 31 ∧
    (let s := onThread (r0.setBrn { r0.brn with cyc := [1024, 0, 0, 0, 0, 0, 0, 0] }) (fun th => { th with st := 3 })
     s.stopped = false ∧ (s.thr 0).st = 3 ∧ s.bf (F.BRN_PAD_MODE_PER_EN (s.padOf 0)) = false ∧ (s.thr 0).yieldAt + 1024 ≤ s.brn.cyc.getD (barnOf 0) 0) ∧
    (let s := onThread r0 (fun th => { th with inTrap := true })
     IssuesReg s 0 [] ∧ (s.thr 0).inTrap = true) ∧
    reservedWord (0xFFFFFFFF : BitVec 32).toNat = true ∧
    (let s := onThread (st [(F.BRN_PAD_MODE_PER_EN 0, 1), (F.BRN_PAD_LEFT_LEFT 0 0, 0)]) id
     s.stopped = false ∧ s.mayIssue 0 = true ∧ s.canCharge (s.padOf 0) 0 1 = false) ∧
    (let s := onThread r0 (fun th => { th with pc := 0x200000 })
     s.mayIssue 0 = true ∧ s.canCharge (s.padOf 0) 0 1 = true ∧ fenceDue ((Start s 0).thr 0) = none ∧ (Start s 0).fetchBad 0 = true ∧
     (s.thr 0).inTrap = false) ∧
    (let e : LoadErr := ⟨0, 1, 0x8, .barn, false⟩
     let s := onThread r0 (fun th => { th with errs := [e] })
     Fetches s 0 ∧ dueErr ((Start s 0).thr 0) { word := 0, srcs := [1, 2] } = some e ∧ (s.thr 0).inTrap = false ∧
     (Start s 0).waitsIssue 0 { word := 0, srcs := [1, 2] } = false) ∧
    (let e : LoadErr := ⟨0, 5, 0x8, .barn, false⟩
     let f := { aFence with id := 1 }
     let s := onThread r0 (fun th => { th with txns := [f], errs := [e], nextId := 2 })
     s.stopped = false ∧ s.mayIssue 0 = true ∧ s.canCharge (s.padOf 0) 0 1 = true ∧ fenceDue (s.thr 0) = some (e, f) ∧ (s.thr 0).inTrap = false) ∧
    (let e : LoadErr := ⟨0, 5, 0x8, .barn, false⟩
     let s := onThread r0 (fun th => { th with errs := [e], redeliver := true })
     s.mayIssue 0 = true ∧ s.canCharge (s.padOf 0) 0 1 = true ∧ fenceDue (s.thr 0) = none ∧ (s.thr 0).redeliver = true ∧
     dueErr (s.thr 0) { word := 0, srcs := [] } = some e) := by
  unfold IssuesReg Issues Fetches; decide

/-! ### Witnesses: barns and paddocks -/

theorem wit_ThreadsStartAndStop :
    (let s := st [(F.BRN_CTL_EN 7, 1)]
     Runs s ∧ s.bf (F.BRN_STAT_RST_BUSY 7) = false ∧ s.bf F.GCTL_BOOT_STAT_DONE = true ∧ s.bf (F.BRN_CTL_EN 7) = true ∧
     bit (s.gf (F.BRN_ENG_DIS_DIS 7)) 15 = false ∧ (s.thr (thrIdx 7 15 3)).st = 0) ∧
    (Runs run ∧ run.bf (F.BRN_STAT_RST_BUSY 0) = false ∧ run.padOf (thrIdx 0 0 0) = 0 ∧ (run.thr (thrIdx 0 0 0)).st = 1) ∧
    (let s := onThread (st [(F.BRN_CTL_EN 0, 1)]) id
     Runs s ∧ s.bf (F.BRN_CTL_EN 0) = true ∧ bit (s.gf (F.BRN_ENG_DIS_DIS 0)) 0 = false ∧ s.padOf (thrIdx 0 0 0) = 0 ∧ (s.thr (thrIdx 0 0 0)).st = 1) ∧
    (Runs State.reset ∧ State.reset.bf F.GCTL_BOOT_STAT_DONE = false) ∧
    (let s := onThread r0 (fun th => { th with st := 3 })
     Runs s ∧ s.padOf (thrIdx 0 0 0) = 0 ∧ (s.thr (thrIdx 0 0 0)).st = 3 ∧ (s.thr (thrIdx 0 0 0)).txns.filter (fun x => !x.waiting) = []) ∧
    (let s := onThread r0 (fun th => { th with st := 4 })
     s.stopped = false ∧ (s.thr 0).st = 4 ∧ (s.thr 0).txns = []) ∧
    (Runs r0 ∧ (r0.thr (thrIdx 7 15 3)).st = 0 ∧ (r0.thr 0).st ≠ 4) := by
  unfold Runs; decide

theorem wit_BarnResetAndCodeStore :
    (Runs r0 ∧ r0.bf (F.BRN_STAT_RST_BUSY 7) = false) ∧
    (let s := st [(F.BRN_STAT_RST_BUSY 7, 1)]
     Runs s ∧ s.bf (F.BRN_STAT_RST_BUSY 7) = true) ∧
    (let s := r0.setBrn { r0.brn with rstEnd := setAt r0.brn.rstEnd 7 (some 0) }
     s.stopped = false ∧ s.brn.rstEnd.getD 7 none = some 0 ∧ 0 ≤ s.brn.cyc.getD 7 0) ∧
    (let s := r0.setBrn { r0.brn with rstEnd := setAt r0.brn.rstEnd 7 (some 256) }
     s.brn.rstEnd.getD 7 none = some 256 ∧ s.brn.cyc.getD 7 0 < 256) ∧
    (let s := st [(F.BRN_CS_CTL_WR_EN, 1)]
     Runs s ∧ s.bf F.BRN_CS_CTL_WR_EN = true) ∧
    r0.bf F.BRN_CS_CTL_WR_EN = false ∧ r0.bf F.BRN_CS_CTL_ICINV_BUSY = false ∧
    (let s := st [(F.BRN_CS_CTL_ICINV_BUSY, 1)]
     Runs s ∧ s.bf F.BRN_CS_CTL_ICINV_BUSY = true) ∧
    r0.brn.icAgain = false ∧ (r0.setBrn { r0.brn with icAgain := true }).brn.icAgain = true := by
  unfold Runs; decide

/-- A DRAM access of thread 0 that waits for its grant. -/
def wantsDram : Txn := { Txn.blank with kind := .load, space := .dram, addr := dramBase, size := 8, rd := 1 }

theorem wit_PaddockPeriodsAndGrants :
    (let s0 := st [(F.BRN_PAD_MODE_PER_EN 31, 1)]
     let s := s0.setPad 31 { PadSt.init with next := some 0 }
     s.stopped = false ∧ (s.pad 31).next = some 0 ∧ s.bf (F.BRN_PAD_MODE_PER_EN 31) = true ∧ s.domOk (s.gf (F.BRN_PAD_MODE_DOMAIN 31)) = true ∧
     0 ≤ s.whole (s.gf (F.BRN_PAD_MODE_DOMAIN 31)) ∧ s.whole (s.gf (F.BRN_PAD_MODE_DOMAIN 31)) < 5) ∧
    (let s := r0.setPad 31 { PadSt.init with fbNext := some 0 }
     s.stopped = false ∧ (s.pad 31).fbNext = some 0 ∧ (s.pad 31).next = none ∧ 0 ≤ s.whole 0 ∧ s.whole 0 < 5) ∧
    (let s := st [(F.BRN_PAD_LEN_LEN 31, 1000000)]
     Runs s ∧ s.bf F.BRN_CS_CTL_LOCK = false ∧ s.bf (F.BRN_PAD_MODE_PER_EN 31) = false ∧ (bit 0x100001 1 && bit 0x100001 2) = false ∧
     bits 0x100001 23 20 ≠ 0 ∧ s.padLenOk 31 (bits 0x100001 10 8) = true ∧ s.domOk (bits 0x100001 10 8) = true ∧
     s.padLenOk 31 (bits 0x100401 10 8) = true ∧ s.domOk (bits 0x100401 10 8) = false) ∧
    (let s := st [(F.BRN_PAD_MODE_PER_EN 31, 1)]
     Runs s ∧ s.bf F.BRN_CS_CTL_LOCK = false ∧ s.bf (F.BRN_PAD_MODE_PER_EN 31) = true ∧ (bit 0x100000 1 && bit 0x100000 2) = false ∧
     bits 0x100000 23 20 ≠ 0 ∧ bit 0x100101 0 = true ∧ bits 0x100101 10 8 ≠ s.gf (F.BRN_PAD_MODE_DOMAIN 31)) ∧
    (let s := { slot (st [(F.BRN_PAD_MODE_PRIV 0, 1), (F.BRN_PAD_GCTL_PRIV_WAIT_MAX, 0)]) wantsDram with tick := 5 }
     s.stopped = false ∧ s.rank (s.padOf 0) = 2 ∧
     (s.thr 0).txns.find? (fun x => x.space == .dram && !x.granted && !x.told &&
       decide (x.since + max 1 (s.gf F.BRN_PAD_GCTL_PRIV_WAIT_MAX) < s.tick)) = some wantsDram) ∧
    (let s := slot (dram.sfs [(F.BRN_PAD_MODE_PRIV 0, 1), (F.BRN_PAD_MODE_WEIGHT 0, 1)]) wantsDram
     s.stopped = false ∧ (s.thr 0).dramLeaf = true ∧ s.dramUp = true ∧ s.rank (s.padOf 0) = 2 ∧ s.tick < s.arbSync.arb.priv.since + s.sampleTicks) ∧
    (let s := slot dram wantsDram
     (s.thr 0).dramLeaf = true ∧ s.privWaits = false ∧ s.rank (s.padOf 0) ≠ 2) ∧
    (let s := dram.dramAsk cLFT 1
     s.stopped = false ∧ s.dramIdle 0 = false ∧ s.dramUp = true ∧ s.privWaits = false ∧ s.tick < s.arbSync.arb.norm.since + s.sampleTicks) ∧
    (let x : Tier := ⟨[(0, 1), (1, 3)], 0, []⟩
     let y : Tier := { x with got := [(1, 1)] }
     x.leaves = y.leaves ∧ x.inShare = true ∧ y.inShare = true ∧ (1, 3) ∈ x.leaves) ∧
    ([wantsDram].any (fun x => x.space == .dram && !x.granted) = true) ∧
    (let s := dram.setEcc dramBase .ce
     s.stopped = false ∧ s.bf F.DMC_CTL_SCRUB_EN = true ∧ s.dramUp = true ∧ 0 < s.usable ∧ s.eccOf (dramBase + 0 / 8 * 8) = .ce) ∧
    (dram.setEcc dramBase .ue).eccOf (dramBase + 0 / 8 * 8) = .ue ∧ dram.eccOf (dramBase + 0 / 8 * 8) = .ok := by
  unfold Runs; and_intros <;> decide

/-! ### Witnesses: time -/

/-- Domain `n` with a changed record. -/
def withDom (s : State) (n : Nat) (f : Dom → Dom) : State := s.setDom n (f (s.dom n))

theorem wit_TimeDomainIncrements :
    (Runs r0 ∧ (3 : Fin 8).val < 4) ∧
    (let x := (4 : BitVec 32).toNat % 256 * 2 ^ 32 + (r0.dom 3).low.getD ((r0.dom 3).incr % 2 ^ 32)
     0x3FEF9DB23 ≤ x ∧ x ≤ 0x4010624DD) ∧
    (let x := (5 : BitVec 32).toNat % 256 * 2 ^ 32 + (r0.dom 3).low.getD ((r0.dom 3).incr % 2 ^ 32)
     0x4010624DD < x) ∧
    (r0.domState 0 ≠ dOFF ∧ r0.domState 0 ≠ dUNLOCKED ∧ (r0.dom 0).slew = 0) ∧ 4 ≤ (4 : Fin 8).val := by
  unfold Runs; decide

/-- Domain 1 in state `c`, its STEP registers holding `sec` and `ns`, with further fields. -/
def stepping (c sec ns : Nat) (l : List (Fld × Nat)) : State :=
  withDom (((st [(F.TBU_DOM_STAT_STATE 1, c)]).sfs l).setReg (R.TBU_DOM_STEP_NS 1) ns |>.setReg (R.TBU_DOM_STEP_S 1) sec) 1 (fun d => { d with val := 2 ^ 65 })

theorem wit_StepsAndReacquire :
    (let s := withDom (stepping dACQUIRE 0 0 []) 1 (fun d => { d with step := some (1, 0) })
     Runs s ∧ s.domState 1 ≠ dOFF ∧ (s.dom 1).step.isSome = true) ∧
    (let s := stepping dACQUIRE 0 1000000000 []
     Runs s ∧ s.domState 1 ≠ dOFF ∧ (s.dom 1).step = none ∧ 1000000000 ≤ (sgn 32 (s.reg (R.TBU_DOM_STEP_NS 1))).natAbs) ∧
    (let s := stepping dACQUIRE (2 ^ 32 - 9) 0 []
     Runs s ∧ (s.dom 1).step = none ∧ ((s.dom 1).val : Int) + (sgn 32 (s.reg (R.TBU_DOM_STEP_S 1)) * 1000000000 + 0) * 2 ^ 32 < 0) ∧
    (let s := stepping dTRACK 0 0 [(F.TBU_DOM_STAT_SLEWING 1, 1)]
     Runs s ∧ s.bf (F.TBU_DOM_STAT_SLEWING 1) = true) ∧
    (let s := stepping dACQUIRE 0 (2 ^ 32 - 1) []
     Runs s ∧ s.domState 1 = dACQUIRE ∧ s.bf (F.TBU_DOM_STAT_FORCED 1) = false ∧ s.bf (F.TBU_DOM_STAT_SLEWING 1) = false ∧
     sgn 32 (s.reg (R.TBU_DOM_STEP_S 1)) * 1000000000 + sgn 32 (s.reg (R.TBU_DOM_STEP_NS 1)) = -1 ∧ 0 ≤ ((s.dom 1).val : Int) + (-1) * 2 ^ 32) ∧
    (let s := stepping dACQUIRE 0 (2 ^ 32 - 1) [(F.TBU_DOM_STAT_FORCED 1, 1)]
     Runs s ∧ s.domState 1 = dACQUIRE ∧ s.bf (F.TBU_DOM_STAT_FORCED 1) = true ∧ (s.dom 1).step = none) ∧
    (let s := stepping dTRACK 0 5 [(F.TBU_JUMP_LIMIT_LIMIT, 4), (F.TBU_SLEW_RATE_RATE, 1)]
     Runs s ∧ s.domState 1 ≠ dACQUIRE ∧ s.gf F.TBU_JUMP_LIMIT_LIMIT < (5 : Int).natAbs ∧ sgn 32 (s.reg (R.TBU_DOM_STEP_NS 1)) = 5) ∧
    (let s := stepping dTRACK 0 4 [(F.TBU_JUMP_LIMIT_LIMIT, 4), (F.TBU_SLEW_RATE_RATE, 1)]
     Runs s ∧ (4 : Int).natAbs ≤ s.gf F.TBU_JUMP_LIMIT_LIMIT ∧ s.gf F.TBU_SLEW_RATE_RATE ≠ 0 ∧ sgn 32 (s.reg (R.TBU_DOM_STEP_NS 1)) = 4) ∧
    (let s := stepping dTRACK 0 0 [(F.TBU_JUMP_LIMIT_LIMIT, 4), (F.TBU_SLEW_RATE_RATE, 1)]
     s.gf F.TBU_SLEW_RATE_RATE ≠ 0 ∧ sgn 32 (s.reg (R.TBU_DOM_STEP_S 1)) * 1000000000 + sgn 32 (s.reg (R.TBU_DOM_STEP_NS 1)) = 0) ∧
    (Runs r0 ∧ r0.domState 1 = dOFF ∧ 4 ≤ (7 : Fin 8).val) ∧
    (let s := { withDom (stepping dTRACK 0 0 [(F.TBU_DOM_STAT_FORCED 1, 1)]) 1 (fun d => { d with step := some (1, 0) }) with tick := 1 }
     s.stopped = false ∧ (s.dom 1).step = some (1, 0) ∧ 0 < s.tick ∧ s.bf (F.TBU_DOM_STAT_FORCED 1) = true) ∧
    (let s := { withDom (stepping dTRACK 0 0 []) 1 (fun d => { d with step := some (1, 0) }) with tick := 1 }
     s.stopped = false ∧ (s.dom 1).step = some (1, 0) ∧ 0 < s.tick ∧ s.bf (F.TBU_DOM_STAT_FORCED 1) = false) ∧
    (r0.dom 1).step = none ∧
    (let s := st [(F.TBU_DOM_CTL_EN 4, 1), (F.TBU_DOM_CTL_SRC 4, 4), (F.TBU_DOM_STAT_STATE 4, dLOCKED)]
     s.synthetic 4 = true ∧ s.domOk 4 = true) ∧
    (r0.stopped = false ∧ (r0.dom 7).slew = 0) ∧ (withDom r0 7 (fun d => { d with slew := 1 }) |>.dom 7).slew ≠ 0 := by
  unfold Runs; and_intros <;> decide

/-- A mains domain in state `c` that takes rising edges, its last event at tick 0. -/
def mains (c pmin pmax v rej : Nat) : State :=
  { withDom (st [(F.TBU_DOM_CTL_EN 4, 1), (F.TBU_DOM_CTL_SRC 4, 1), (F.TBU_DOM_STAT_STATE 4, c), (F.TBU_COORD_CFG_HOLD_CYC 4, 5), (F.TBU_COORD_CFG_HOLD_MAX 4, 5), (F.TBU_COORD_PMIN_PMIN 4, pmin), (F.TBU_COORD_PMAX_PMAX 4, pmax)])
      4 (fun d => { d with val := v, lastEv := some 0, rejects := rej, rate := 2 ^ 80 }) with tick := 5 }

theorem wit_DomainsStartAndAreLost :
    (Runs r0 ∧ r0.bf F.TBU_CTL_LOCK = false ∧ r0.domState 3 = dOFF ∧ (r0.dom 3).turn = none) ∧
    (withDom r0 3 (fun d => { d with turn := some true }) |>.dom 3).turn = some true ∧
    (withDom r0 3 (fun d => { d with turn := some false }) |>.dom 3).turn = some false ∧
    (Runs r0 ∧ bits 0x50 6 4 = 5 ∧ bits 0x10 6 4 = 1 ∧ bits 0x40 6 4 = 4 ∧ r0.bf (F.TBU_DOM_CTL_EN 4) = false ∧ r0.domEnBad 4 1 (bits 0x10 10 8) = false ∧
      r0.domEnBad 4 4 (bits 0x40 10 8) = false) ∧
    (let s := st [(F.TBU_DOM_CTL_EN 4, 1), (F.TBU_DOM_CTL_SRC 4, 1)]
     Runs s ∧ s.bf F.TBU_CTL_LOCK = false ∧ s.bf (F.TBU_DOM_CTL_EN 4) = true ∧ s.gf (F.TBU_DOM_CTL_SRC 4) = bits 0x10 6 4) ∧
    (let s := st [(F.TBU_CTL_LOCK, 1)]
     Runs s ∧ s.bf F.TBU_CTL_LOCK = true) ∧
    (let s := mains dLOCKED 0 4 0 0
     s.stopped = false ∧ s.synthetic 4 = false ∧ s.domState 4 = dLOCKED ∧
     max 1 (s.gf (F.TBU_COORD_CFG_HOLD_CYC 4)) * 2 ^ 80 ≤ (s.tick - (s.dom 4).lastEv.getD 0) * (s.dom 4).rate * s.gridDiv 4) ∧
    (let s := mains dHOLDOVER 0 4 0 0
     s.stopped = false ∧ s.synthetic 4 = false ∧ s.domState 4 = dHOLDOVER ∧
     max 1 (s.gf (F.TBU_COORD_CFG_HOLD_MAX 4)) * 2 ^ 80 ≤ (s.tick - (s.dom 4).holdAt) * (s.dom 4).rate) ∧
    r0.domState 4 = dOFF ∧
    (let s := mains dLOCKED 5 4 0 0
     s.gf (F.TBU_COORD_CFG_FILT 4) ≤ 255 ∧ s.bf (F.TBU_DOM_CTL_EN 4) = true ∧ s.gf (F.TBU_DOM_CTL_SRC 4) = 1 ∧ true = !s.bf (F.TBU_DOM_CTL_EDGE 4) ∧
     s.domState 4 = dLOCKED ∧ 0 = ((((s.dom 4).val + 2 ^ 79) % 2 ^ 80 : Nat) : Int) - 2 ^ 79 ∧ s.tick - (s.dom 4).lastEv.getD 0 = 5 ∧
     s.gf (F.TBU_COORD_PMIN_PMIN 4) ≤ 5 ∧ s.gf (F.TBU_COORD_PMAX_PMAX 4) < 5) ∧
    (let s := mains dLOCKED 5 5 0 0
     s.domState 4 = dLOCKED ∧ s.gf (F.TBU_COORD_PMIN_PMIN 4) ≤ 5 ∧ 5 ≤ s.gf (F.TBU_COORD_PMAX_PMAX 4) ∧ s.tick - (s.dom 4).lastEv.getD 0 = 5) ∧
    (let s := mains dLOCKED 5 5 (2 ^ 77 + 1) 1
     s.domState 4 = dLOCKED ∧ 2 ^ 80 / 8 < (((((s.dom 4).val + 2 ^ 79) % 2 ^ 80 : Nat) : Int) - 2 ^ 79).natAbs ∧ (s.dom 4).rejects < 2) := by
  unfold Runs; and_intros <;> decide

/-- The time base changed. -/
def withTbu (s : State) (f : TbuSt → TbuSt) : State := { s with tbu := f s.tbu }
/-- An action of a kind that is due now, on pin 7, of domain 0. -/
def action (k : Nat) : Action := ⟨0, 0, 0, 0, k, 2, 7, 3, 0, 0, 0, false, false⟩
def acting (s : State) (k : Nat) : State := withTbu s (fun t => { t with acts := [action k] })

theorem wit_SnapshotsCapturesAndPulses :
    let good := F.PWR_RAIL_STAT_GOOD
    (Runs r0 ∧ r0.tbu.snapAt = none ∧ r0.tbu.snapValid = none) ∧
    (let s := withTbu r0 (fun t => { t with snapAt := some 0 })
     Runs s ∧ s.tbu.snapAt.isSome = true ∧ s.tbu.snapAt = some 0 ∧ 0 ≤ s.tick) ∧
    (let s := withTbu r0 (fun t => { t with snapValid := some 0 })
     Runs s ∧ s.tbu.snapValid = some 0 ∧ 0 ≤ s.tick) ∧
    (let s := acting r0 10
     s.stopped = false ∧ RunsNext s (action 10) 10 ∧ s.tbu.snapAt = none ∧ s.tbu.snapValid = none) ∧
    (let s := withTbu (acting r0 10) (fun t => { t with snapAt := some 0 })
     RunsNext s (action 10) 10 ∧ s.tbu.snapAt.isSome = true) ∧
    (let s := st [(good, 1), (F.TBU_CAP_CTL_EN 7, 1), (F.TBU_CAP_CTL_EDGE 7, 3), (F.TBU_CAP_CTL_QEN 7, 0)]
     s.stopped = false ∧ s.bf (F.TBU_CAP_CTL_EN 7) = true ∧ s.vioA = true ∧ bit (s.gf (F.TBU_CAP_CTL_EDGE 7)) (if true then 0 else 1) = true ∧
     s.gf (F.TBU_CAP_CTL_FILT 7) ≤ 255 ∧ s.bf (F.TBU_CAP_CTL_QEN 7) = false ∧ (s.tbu.cap.getD 7 []).length < 16) ∧
    (let s := st [(good, 1), (F.TBU_CAP_CTL_EN 7, 1), (F.TBU_CAP_CTL_EDGE 7, 3), (F.TBU_CAP_CTL_QEN 7, 1)]
     s.bf (F.TBU_CAP_CTL_QEN 7) = true ∧ s.vioA = true ∧ (s.tbu.cap.getD 7 []).length < 16) ∧
    (let s := withTbu (st [(good, 1), (F.TBU_CAP_CTL_EN 7, 1), (F.TBU_CAP_CTL_EDGE 7, 3), (F.TBU_CAP_CTL_QEN 7, 0)])
       (fun t => { t with cap := setAt t.cap 7 (List.replicate 16 ⟨0, 0⟩) })
     s.stopped = false ∧ s.bf (F.TBU_CAP_CTL_EN 7) = true ∧ 16 ≤ (s.tbu.cap.getD 7 []).length) ∧
    (r0.bf (F.TBU_CAP_CTL_EN 7) = false) ∧
    (bits 3 1 0 = 3 ∧ bits 1 1 0 = 1 ∧ bits 0 1 0 = 0) ∧
    (let s := st [(F.TBU_TOUT_PER_PER 7, 1000), (F.TBU_TOUT_WID_WID 7, 100)]
     Runs s ∧ bits 2 1 0 = 2 ∧ 0 < s.gf (F.TBU_TOUT_PER_PER 7) ∧ 100 ≤ s.gf (F.TBU_TOUT_WID_WID 7) ∧
     (s.gf (F.TBU_TOUT_WID_WID 7) < 101 ∧ s.fourTicks (s.gf (F.TBU_TOUT_CTL_DOM 7)) ≤ 101) ∧
     (999 < s.gf (F.TBU_TOUT_PER_PER 7) ∧ s.fourTicks (s.gf (F.TBU_TOUT_CTL_DOM 7)) ≤ s.gf (F.TBU_TOUT_PER_PER 7))) ∧
    (let s := withTbu (st [(F.TBU_TOUT_CTL_MODE 7, 2), (F.TBU_TOUT_PER_PER 7, 1000)]) (fun t => { t with train := setAt t.train 7 (some 5) })
     Runs s ∧ s.tbu.train.getD 7 none = some 5 ∧ s.gf (F.TBU_TOUT_CTL_MODE 7) = 2 ∧ s.whole (s.gf (F.TBU_TOUT_CTL_DOM 7)) < 5) ∧
    (let s := withTbu (st [(F.TBU_TOUT_CTL_MODE 7, 2), (F.TBU_TOUT_PER_PER 7, 1000)]) (fun t => { t with train := setAt t.train 7 (some 0) })
     Runs s ∧ s.tbu.train.getD 7 none = some 0 ∧ s.gf (F.TBU_TOUT_CTL_MODE 7) = 2 ∧ s.domOk (s.gf (F.TBU_TOUT_CTL_DOM 7)) = true ∧
     0 < s.gf (F.TBU_TOUT_PER_PER 7)) := by
  unfold Runs RunsNext; and_intros <;> decide

theorem wit_CaptureFifosPop :
    (let s := withTbu r0 (fun t => { t with cap := setAt t.cap 7 [⟨255, 0⟩] })
     Runs s ∧ s.tbu.cap.getD 7 [] = [⟨255, 0⟩] ∧ 255 = (255 : BitVec 8).toNat ∧ 255 ≠ (0 : BitVec 8).toNat) ∧
    (Runs r0 ∧ r0.tbu.cap.getD 7 [] = []) := by
  unfold Runs; decide

theorem wit_DueActionsRun :
    (let s := st [(F.TBU_TOUT_CTL_MODE 7, 1)]
     Runs s ∧ s.toutMode 7 = 1 ∧ RunsNext (acting s 1) (action 1) 1 ∧ RunsNext (acting s 2) (action 2) 2 ∧ RunsNext (acting s 3) (action 3) 3 ∧
     RunsNext (acting s 4) (action 4) 4 ∧ Runs (acting s 1)) ∧
    (Runs (acting r0 1) ∧ (acting r0 1).toutMode 7 ≠ 1 ∧ RunsNext (acting r0 1) (action 1) 1) ∧
    ((1, Instr.toutHigh) ∈ [(1, Instr.toutHigh), (2, .toutLow), (3, .toutToggle), (4, .toutPulse)]) ∧
    (let s := acting (st [(F.FCU_STAT_SAFE, 1)]) 1
     s.stopped = false ∧ s.safe = true ∧ RunsNext s (action 1) 1) ∧
    (let s := withTbu (st [(F.TBU_TOUT_CTL_MODE 7, 1)]) (fun t => { t with pulses := [(0, 7, 0)] })
     s.stopped = false ∧ s.tbu.pulses.filter (fun p => p.2.1 == (7 : Fin 8).val && decide (p.1 ≤ s.tick)) = [(0, 7, 0)] ∧ s.toutMode 7 = 1 ∧
     s.safe = false ∧ s.dueAct.isSome = false) ∧
    (let s := withTbu (acting r0 1) (fun t => { t with pulses := [(0, 7, 0)] })
     s.tbu.pulses.filter (fun p => p.2.1 == (7 : Fin 8).val && decide (p.1 ≤ s.tick)) = [(0, 7, 0)] ∧ s.toutMode 7 ≠ 1 ∧ s.safe = false ∧
     s.dueAct.isSome = true ∧ (s.tbu.ranTick = s.tick → s.tbu.ranCnt < 4)) ∧
    (let s := withTbu (st [(F.FCU_STAT_SAFE, 1)]) (fun t => { t with pulses := [(0, 7, 0)] })
     s.safe = true ∧ s.dueAct.isSome = false) ∧
    (let s := acting ((dram.sf F.QM_CTL_EN 1).setIq 2 { dram.iq 2 with made := true, event := true, log2N := 4 }) 8
     s.stopped = false ∧ RunsNext s (action 8) 8 ∧ s.heldOff 2 = false ∧ s.qm.held = [] ∧
     ((Took s (action 8)).deliverNow 2 (leBytes 6 3 ++ leBytes 2 0 ++ leBytes 8 (s.whole 0) ++ leBytes 2 (s.era 0) ++ List.replicate 14 0)).2 = true) ∧
    (let s := acting (dram.sf F.QM_CTL_EN 1) 8
     s.stopped = false ∧ RunsNext s (action 8) 8 ∧ s.heldOff 2 = false ∧
     ((Took s (action 8)).deliverNow 2 (leBytes 6 3 ++ leBytes 2 0 ++ leBytes 8 (s.whole 0) ++ leBytes 2 (s.era 0) ++ List.replicate 14 0)).2 = false) ∧
    (RunsNext (acting (st [(F.QM_CTL_EN, 0)]) 8) (action 8) 8 ∧ (acting (st [(F.QM_CTL_EN, 0)]) 8).heldOff 2 = true) ∧
    RunsNext (acting r0 9) (action 9) 9 ∧ (r0.stopped = false ∧ r0.dueAct = none) ∧
    (let s := withTbu (acting r0 1) (fun t => { t with ranCnt := 4 })
     s.tbu.ranTick = s.tick ∧ 4 ≤ s.tbu.ranCnt) := by
  unfold Runs RunsNext
  refine ⟨by decide, by decide, by simp, by decide, by decide, by decide, by decide, by decide, by decide, by decide, by decide, by decide, by decide⟩

/-! ### Witnesses: the loft -/

/-- A loft of 65,536 points at 0, its auxiliary region at 128 MiB, in `usable` MiB. -/
def loft (usable : Nat) (l : List (Fld × Nat)) (f : LftSt → LftSt) : State :=
  let s := (st [(F.LFT_CFG_SIZE_LOG2, 16), (F.LFT_AUX_BASE_BASE, 1), (F.DMC_SIZE_USABLE, usable)]).sfs l
  s.setLft (f s.lft)
def enabled : List (Fld × Nat) := [(F.LFT_CTL_EN, 1), (F.LFT_STAT_READY, 1)]

/-- A loft that is read again after a resume, its header written for the newest sealed epoch 2^40 − 2. -/
def resuming : State := (loft 256 [(F.LFT_CTL_EN, 1)] (fun l => { l with work := 2 })).putHeader (some ⟨2 ^ 40 - 2, 16, 0, 1⟩)

theorem resuming_header : resuming.header = some ⟨2 ^ 40 - 2, resuming.gf F.LFT_CFG_SIZE_LOG2, resuming.gf F.LFT_LOFT_BASE_BASE, resuming.gf F.LFT_AUX_BASE_BASE⟩ := by
  have h := header_putHeader (loft 256 [(F.LFT_CTL_EN, 1)] (fun l => { l with work := 2 })) ⟨2 ^ 40 - 2, 16, 0, 1⟩ (fun _ => rfl) (by decide +kernel)
  have e : (some ⟨2 ^ 40 - 2, 16, 0, 1⟩ : Option LHdr) =
    some ⟨2 ^ 40 - 2, resuming.gf F.LFT_CFG_SIZE_LOG2, resuming.gf F.LFT_LOFT_BASE_BASE, resuming.gf F.LFT_AUX_BASE_BASE⟩ := by decide +kernel
  rw [← e]; exact h

theorem wit_LoftStartsAndStops :
    (let s := loft 256 [] (fun l => { l with enabled := true })
     Runs s ∧ s.bf F.LFT_STAT_RST_BUSY = false ∧ s.bf F.LFT_CTL_EN = false ∧ s.lftShed = false ∧ s.lftPlaceOk = true ∧ s.lft.enabled = true) ∧
    (let s := loft 256 [] id
     s.lftPlaceOk = true ∧ s.lft.enabled = false) ∧
    (let s := loft 255 [] id
     Runs s ∧ s.bf F.LFT_STAT_RST_BUSY = false ∧ s.bf F.LFT_CTL_EN = false ∧ s.lftShed = false ∧ s.lftPlaceOk = false) ∧
    (let s := loft 256 [(F.LFT_STAT_SHED, 1)] id
     Runs s ∧ s.bf F.LFT_STAT_RST_BUSY = false ∧ s.bf F.LFT_CTL_EN = false ∧ s.lftShed = true ∧ s.lftPlaceOk = true) ∧
    (let s := loft 256 [(F.LFT_STAT_RST_BUSY, 1)] id
     Runs s ∧ s.bf F.LFT_STAT_RST_BUSY = true) ∧
    (let s := loft 256 [(F.LFT_CTL_EN, 1)] (fun l => { l with work := 1 })
     s.stopped = false ∧ s.lft.work = 1 ∧ s.lftRuns = true ∧ s.dramUp = true) ∧
    (r0.stopped = false ∧ r0.lft.work ≠ 1 ∧ r0.lft.work ≠ 2) ∧
    (resuming.stopped = false ∧ resuming.lft.work = 2 ∧ resuming.lftRuns = true ∧ resuming.dramUp = true ∧
      (∀ i < 4, resuming.eccOf (resuming.hdrAddr + 8 * i) = .ok) ∧
      resuming.header = some ⟨2 ^ 40 - 2, resuming.gf F.LFT_CFG_SIZE_LOG2, resuming.gf F.LFT_LOFT_BASE_BASE, resuming.gf F.LFT_AUX_BASE_BASE⟩) ∧
    (let s := loft 256 [(F.LFT_CTL_EN, 1)] (fun l => { l with work := 2 })
     s.lft.work = 2 ∧ s.lftRuns = true ∧ s.dramUp = true ∧ (∀ i < 4, s.eccOf (s.hdrAddr + 8 * i) = .ok) ∧ s.header = none ∧ s.lftPlaceOk = true) ∧
    (let s0 := loft 256 [(F.LFT_CTL_EN, 1)] (fun l => { l with work := 2 })
     let s := s0.setEcc s0.hdrAddr .ue
     s.lft.work = 2 ∧ s.lftRuns = true ∧ s.dramUp = true ∧ s.eccOf s.hdrAddr = .ue) ∧
    (let s := loft 256 enabled id
     Runs s ∧ s.bf F.LFT_STAT_RST_BUSY = false ∧ s.bf F.LFT_CTL_EN = true ∧ s.bf F.LFT_STAT_READY = true ∧ s.bf F.LFT_CTL_REPLICA = false) ∧
    (let s := loft 256 (enabled ++ [(F.LFT_CTL_REPLICA, 1)]) (fun l => { l with sealed := 2 ^ 40 - 3 })
     Runs s ∧ s.bf F.LFT_STAT_READY = true ∧ s.bf F.LFT_CTL_REPLICA = true ∧ s.lft.sealed < 2 ^ 40 - 2) ∧
    (let s := loft 256 (enabled ++ [(F.LFT_CTL_REPLICA, 1)]) (fun l => { l with sealed := 2 ^ 40 - 2 })
     s.bf F.LFT_STAT_READY = true ∧ s.bf F.LFT_CTL_REPLICA = true ∧ 2 ^ 40 - 2 ≤ s.lft.sealed) ∧
    (Runs r0 ∧ r0.bf F.LFT_STAT_RST_BUSY = false ∧ r0.bf F.LFT_STAT_READY = false ∧ r0.bf F.LFT_CTL_REPLICA = !true) := by
  unfold Runs
  refine ⟨?_, ?_, ?_, ?_, ?_, ?_, ?_, ⟨?_, ?_, ?_, ?_, ?_, resuming_header⟩, ?_, ?_, ?_, ?_, ?_, ?_⟩ <;> decide +kernel

theorem wit_EpochsCloseAndSeal :
    (let s := loft 256 enabled (fun l => { l with opn := some (2 ^ 40 - 2), next := some 0 })
     Runs s ∧ s.bf F.LFT_STAT_RST_BUSY = false ∧ s.lftShed = false ∧ s.mayBound = true ∧ s.lft.opn = some (2 ^ 40 - 2) ∧ s.lft.lastB ≠ some s.tick ∧
     s.lft.next = some 0 ∧ 0 ≤ s.whole 0 ∧ s.lft.closed = [] ∧ (∀ w ∈ s.lft.writes, 2 ^ 40 - 2 < w.epoch) ∧ s.dramUp = true) ∧
    (let s := loft 256 enabled (fun l => { l with opn := some 1, extra := some 0, writes := [⟨1, 65535, 7, false⟩] })
     s.mayBound = true ∧ s.lft.extra = some 0 ∧ 0 ≤ s.tick ∧ s.lft.closed = [] ∧ ∃ w ∈ s.lft.writes, w.epoch ≤ 1) ∧
    (let s := loft 256 (enabled ++ [(F.DMC_STAT_SREF, 1)]) (fun l => { l with opn := some 1, extra := some 0 })
     s.mayBound = true ∧ s.dramUp = false) ∧
    (Runs r0 ∧ r0.mayBound = false) ∧
    (let w : LWrite := ⟨1, 65535, 7, false⟩
     let s := loft 256 enabled (fun l => { l with opn := some 1, writes := [w], closed := [(1, 0)] })
     s.stopped = false ∧ s.lft.writes = [w] ∧ w.epoch = s.lft.sealed + 1 ∧ s.lftRuns = true ∧ s.dramUp = true ∧ s.dramIdle cLFT = true ∧
     (∀ i < 8, s.eccOf (s.slotAddr w.point 0 + 8 * i) = .ok) ∧ s.lft.closed = [(1, 0)] ∧ ∃ w ∈ s.lft.writes, w.epoch ≤ 1) ∧
    r0.lft.writes = [] ∧
    (let s := loft 256 enabled (fun l => { l with opn := some 2, closed := [(1, 0)] })
     s.lft.closed = [(1, 0)] ∧ (∀ w ∈ s.lft.writes, 1 < w.epoch) ∧ s.lftRuns = true ∧ s.dramUp = true) ∧
    (let s := loft 256 (enabled ++ [(F.LFT_CTL_REPLICA, 1)]) id
     s.stopped = false ∧ s.lftReady = true ∧ s.bf F.LFT_CTL_REPLICA = true ∧ s.lftRuns = true ∧ s.dramUp = true ∧ s.dramIdle cLFT = true ∧
     s.lft.closed = [] ∧ s.lft.inbox = [] ∧ s.lft.sealed < (0xFFFFFFFFFE : BitVec 40).toNat ∧ (0xFFFFFFFFFE : BitVec 40).toNat ≤ 2 ^ 40 - 2 ∧
     (0 : BitVec 40).toNat ≤ s.lft.sealed) ∧
    (let s := (loft 256 (enabled ++ [(F.LFT_CTL_REPLICA, 1)]) id).dramAsk cLFT 1
     s.lftReady = true ∧ s.bf F.LFT_CTL_REPLICA = true ∧ s.dramIdle cLFT = false) ∧
    (r0.lftReady = false) := by
  unfold Runs; decide +kernel

theorem wit_PinsViewsAndTheMap :
    (let s := loft 256 enabled id
     Runs s ∧ s.bf F.LFT_STAT_RST_BUSY = false ∧ s.pinRefused = false ∧ s.fenced 0x20 = false) ∧
    (Runs r0 ∧ r0.bf F.LFT_STAT_RST_BUSY = false ∧ r0.pinRefused = true ∧ r0.lft.views.getD 15 none = none) ∧
    (let s := st [(F.LFT_STAT_RST_BUSY, 1)]
     Runs s ∧ s.bf F.LFT_STAT_RST_BUSY = true) ∧
    (let x : LPin := ⟨15, 0, 1, 5, false⟩
     let s := (loft 256 enabled (fun l => { l with sealed := 1, views := setAt l.views 15 (some x) })).wrN dramBase 32 (7 + 2 ^ 192)
     s.lft.views.getD (0xF00000 / 2 ^ 20 % 16) none = some x ∧ s.pinLive x = true ∧ s.fenced 0x20 = false ∧ s.bf F.LFT_STAT_RST_BUSY = false ∧
     0 % 32 + 32 ≤ 32 ∧ s.gf (F.LFT_HVIEW_BASE_BASE 15) * 32768 + 0xF00000 % 2 ^ 20 / 32 < s.points ∧
     (match ((s.wake 3).readVer (s.gf (F.LFT_HVIEW_BASE_BASE 15) * 32768 + 0xF00000 % 2 ^ 20 / 32) x.epoch).2 with | .ok _ => true | _ => false) = true) := by
  unfold Runs; decide +kernel

/-- Queue 0 exists, with 64-byte entries. -/
def wideQ (s : State) : State := s.setIq 0 { s.iq 0 with made := true, wide := true, log2N := 4 }

theorem wit_SweepsRunAndEnd :
    (let s := wideQ (loft 256 enabled id)
     Runs s ∧ s.bf F.LFT_STAT_RST_BUSY = false ∧ s.swpState 1 = 0 ∧ s.lftReady = true ∧ s.lftShed = false ∧
     s.wideQueue (s.gf (F.LFT_SWP_Q_QUEUE 1)) = true) ∧
    (Runs r0 ∧ r0.bf F.LFT_STAT_RST_BUSY = false ∧ r0.lftReady = false ∧ r0.swpState 1 = 0) ∧
    (let s := st [(F.LFT_STAT_RST_BUSY, 1)]
     Runs s ∧ s.bf F.LFT_STAT_RST_BUSY = true) ∧
    (let s := loft 256 (enabled ++ [(F.LFT_SWP_STAT_STATE 1, 1)]) id
     Runs s ∧ s.bf F.LFT_STAT_RST_BUSY = false ∧ s.swpState 1 = 1 ∧ s.lftRuns = true) ∧
    (let s := (wideQ (loft 256 (enabled ++ [(F.LFT_SWP_STAT_STATE 1, 2)]) id)).setSweep 1 { Sweep.init with push := [(5, 0, true)] }
     s.stopped = false ∧ s.lftRuns = true ∧ s.dramUp = true ∧ s.dramIdle cLFT = true ∧ s.swpState 1 = 2 ∧ SweepRoom s 1 ∧
     (s.sweep 1).push = [(5, 0, true)]) ∧
    (let s := wideQ (loft 256 (enabled ++ [(F.LFT_SWP_STAT_STATE 1, 2)]) id)
     let cur := s.gf (F.LFT_SWP_CURSOR_CURSOR 1)
     (s.sweep 1).push = [] ∧ SweepRoom s 1 ∧ s.nextPoint 1 cur (s.points - cur) < s.points) ∧
    (let s := wideQ (loft 256 (enabled ++ [(F.LFT_SWP_STAT_STATE 1, 2), (F.LFT_SWP_CURSOR_CURSOR 1, 65536)]) id)
     s.lftRuns = true ∧ s.swpState 1 = 2 ∧ SweepRoom s 1 ∧ (s.sweep 1).push = [] ∧ s.points ≤ s.gf (F.LFT_SWP_CURSOR_CURSOR 1)) ∧
    (let s := loft 256 (enabled ++ [(F.LFT_SWP_STAT_STATE 1, 3), (F.LFT_SWP_STAT_RESULT 1, 1)]) id
     s.lftRuns = true ∧ s.swpState 1 = 3 ∧ ¬ SweepRoom s 1) := by
  unfold Runs SweepRoom; decide +kernel

/-! ### Witnesses: ports, yard, scheduler -/

/-- A port changed. -/
def withPort (s : State) (p : Nat) (f : Port → Port) : State := s.setPort p (f (s.port p))
/-- Port 0 runs in mode 1 with its link up. -/
def linkUp : List (Fld × Nat) :=
  [(F.ETH_MODE_MODE 0, 1), (F.ETH_CTL_EN 0, 1), (F.ETH_CTL_TX_EN 0, 1), (F.ETH_CTL_RX_EN 0, 1), (F.ETH_STAT_ACT_MODE 0, 1), (F.ETH_STAT_LINK 0, 1), (F.ETH_CTL_SVC 0, 0)]
def port0 (l : List (Fld × Nat)) (f : Port → Port) : State := withPort (st (linkUp ++ l)) 0 f
/-- What the PCS reports with lock, and without. -/
def locked : LinkCond := { LinkCond.init with lock := true }

theorem wit_PortsAndLinks :
    (let s := st [(F.ETH_GCTL_LOCK, 1)]
     Runs s ∧ s.bf F.ETH_GCTL_LOCK = true) ∧
    (Runs r0 ∧ r0.bf F.ETH_GCTL_LOCK = false ∧ r0.bf (F.ETH_CTL_EN 0) = false ∧ (bits 0x21 6 4 = 2 ∧ 1 ≤ bits 0x21 2 0 ∧ bits 0x21 2 0 ≤ 4) ∧
     (6 ≤ (7 : Fin 8).val ∧ 5 ≤ bits 7 2 0) ∧ bit 1 0 = true ∧ (r0.sf (F.ETH_MODE_MODE 0) 0).gf (F.ETH_MODE_MODE 0) = 0 ∧ r0.modeNow 0 = 0) ∧
    (let s := st [(F.ETH_CTL_EN 0, 1)]
     Runs s ∧ s.bf F.ETH_GCTL_LOCK = false ∧ s.bf (F.ETH_CTL_EN 0) = true) ∧
    (let s := st [(F.ETH_MODE_MODE 0, 1)]
     Runs s ∧ s.gf (F.ETH_MODE_MODE 0) ≠ 0 ∧ bit 0 0 = false) ∧
    (let s := (port0 [] id).sf (F.ETH_STAT_ACT_MODE 0) 2
     Runs s ∧ s.modeNow 0 ≠ 0 ∧ s.modeNow 0 ≠ s.gf (F.ETH_STAT_ACT_MODE 0)) ∧
    (let s := (port0 [] id).sf (F.ETH_STAT_LINK 0) 0
     Runs s ∧ s.modeNow 0 ≠ 0 ∧ s.modeNow 0 = s.gf (F.ETH_STAT_ACT_MODE 0) ∧ (false = true ↔ WrongSpeed s 0 (s.modeNow 0) locked) ∧
     LinkMeets s 0 (s.modeNow 0) locked ∧ s.ethLink 0 = false) ∧
    (let s := port0 [] id
     Runs s ∧ (LinkMeets s 0 (s.modeNow 0) locked ↔ s.ethLink 0 = true) ∧ ¬ LinkMeets s 0 (s.modeNow 0) LinkCond.init ∧ s.ethLink 0 = true ∧
     s.gf (F.ETH_CTL_SVC 0) = 0) := by
  have up : ∀ s : State, s.bf (F.ETH_CTL_TX_EN 0) = true → s.bf (F.ETH_CTL_RX_EN 0) = true → s.modeNow 0 = 1 →
      (s.port 0).cond.remoteFault = false → (s.port 0).rfLast = none → LinkMeets s 0 (s.modeNow 0) locked :=
    fun s h1 h2 h3 h4 h5 => ⟨h1, h2, fun h => absurd h (by decide), .inr (.inl ⟨h3, by decide, by decide, by decide, h4, fun x hx => by
      have h : (s.port 0).rfLast = some x := hx
      rw [h5] at h; cases h⟩)⟩
  have down : ∀ s : State, s.modeNow 0 = 1 → s.looped 0 = false → ¬ LinkMeets s 0 (s.modeNow 0) LinkCond.init := by
    intro s h hl; rw [h]; simp [LinkMeets, LinkCond.init, hl]
  have right : ∀ s : State, s.modeNow 0 = 1 → ¬ WrongSpeed s 0 (s.modeNow 0) locked := by
    intro s h; rw [h]; simp [WrongSpeed]
  refine ⟨by unfold Runs; decide, by unfold Runs; decide, by unfold Runs; decide, by unfold Runs; decide, by unfold Runs; decide,
    ⟨by unfold Runs; decide, by decide, by decide, ⟨nofun, fun h => absurd h (right _ (by rfl))⟩,
      up _ (by decide) (by decide) (by decide) (by decide) (by decide), by decide⟩,
    ⟨by unfold Runs; decide, ⟨fun _ => by decide, fun _ => up _ (by decide) (by decide) (by decide) (by decide) (by decide)⟩,
      down _ (by decide) (by decide), by decide, by decide⟩⟩

theorem wit_HoldsAndVerification :
    (let s := port0 [(F.ETH_FC_CFG_RX_EN 0, 1), (F.ETH_FC_CFG_FC_MODE 0, 1), (F.ETH_FC_STAT_TX_XOFF 0, 1)] id
     s.stopped = false ∧ s.bf (F.ETH_CTL_EN 0) = true ∧ s.receives 0 = true ∧ s.yrdFenced = false ∧ s.bf (F.ETH_FC_CFG_RX_EN 0) = true ∧
     s.gf (F.ETH_FC_CFG_FC_MODE 0) = 1 ∧ s.bf (F.ETH_FC_STAT_TX_XOFF 0) = true ∧ s.canSend 0 = true) ∧
    (let s := port0 [(F.ETH_FC_CFG_RX_EN 0, 0)] id
     s.stopped = false ∧ s.bf (F.ETH_CTL_EN 0) = true ∧ s.receives 0 = true ∧ s.bf (F.ETH_FC_CFG_RX_EN 0) = false ∧ s.gf (F.ETH_FC_CFG_FC_MODE 0) ≠ 1 ∧
     s.gf (F.ETH_FC_CFG_FC_MODE 0) ≠ 2) ∧
    (let s := st [(F.ETH_CTL_EN 0, 1)]
     s.stopped = false ∧ s.bf (F.ETH_CTL_EN 0) = true ∧ s.receives 0 = false ∧ s.canSend 0 = false) ∧
    r0.bf (F.ETH_CTL_EN 0) = false ∧
    (let s := port0 [(F.ETH_FC_CFG_RX_EN 0, 1), (F.ETH_FC_CFG_FC_MODE 0, 2), (F.ETH_FC_STAT_PFC_TX_XOFF 0, 1), (F.ETH_FC_CFG_PAUSE_TIME 0, 0)] id
     s.receives 0 = true ∧ s.bf (F.ETH_FC_CFG_RX_EN 0) = true ∧ s.gf (F.ETH_FC_CFG_FC_MODE 0) = 2 ∧
     ∀ i < 8, bit 1 i = true ↔ bit (s.gf (F.ETH_FC_STAT_PFC_TX_XOFF 0)) i = true ∧
       (s.port 0).xoffP.getD i 0 + s.gf (F.ETH_FC_CFG_PAUSE_TIME 0) * s.lineTime 0 64 / 80 ≤ s.tick) ∧
    (let s := port0 [(F.ETH_FC_CFG_FC_MODE 0, 1), (F.ETH_FC_STAT_TX_XOFF 0, 1), (F.ETH_FC_CFG_PAUSE_TIME 0, 0)] (fun q => { q with xoff := 0 })
     s.gf (F.ETH_FC_CFG_FC_MODE 0) = 1 ∧ s.bf (F.ETH_FC_STAT_TX_XOFF 0) = true ∧ s.canSend 0 = true ∧
     (s.port 0).xoff + s.gf (F.ETH_FC_CFG_PAUSE_TIME 0) * s.lineTime 0 64 / 80 ≤ s.tick) ∧
    (let s := port0 [(F.ETH_FC_CFG_FC_MODE 0, 1), (F.ETH_FC_STAT_TX_XOFF 0, 1)] (fun q => { q with xoff := 1 })
     s.tick < (s.port 0).xoff + s.gf (F.ETH_FC_CFG_PAUSE_TIME 0) * s.lineTime 0 64 / 80) ∧
    (let s := port0 [(F.ETH_PRE_STAT_VSTATE 0, 2)] id
     s.stopped = false ∧ s.gf (F.ETH_PRE_STAT_VSTATE 0) = 2 ∧ (s.port 0).verEnd = none ∧ s.canSend 0 = true ∧ s.receives 0 = true) ∧
    (let s := port0 [(F.ETH_PRE_STAT_VSTATE 0, 2), (F.ETH_PRE_STAT_ATTEMPTS 0, 2)] (fun q => { q with verEnd := some 0 })
     (s.port 0).verEnd = some 0 ∧ 0 ≤ s.tick ∧ s.gf (F.ETH_PRE_STAT_ATTEMPTS 0) < 3) ∧
    (let s := port0 [(F.ETH_PRE_STAT_VSTATE 0, 2), (F.ETH_PRE_STAT_ATTEMPTS 0, 3)] (fun q => { q with verEnd := some 0 })
     (s.port 0).verEnd = some 0 ∧ 3 ≤ s.gf (F.ETH_PRE_STAT_ATTEMPTS 0)) ∧
    (let s := port0 [(F.ETH_PRE_CFG_PRE_EN 0, 1)] id
     s.receives 0 = true ∧ s.gf (F.ETH_PRE_STAT_VSTATE 0) ≠ 2 ∧ s.bf (F.ETH_PRE_CFG_PRE_EN 0) = true) ∧
    (let s := port0 [] id
     s.receives 0 = true ∧ s.bf (F.ETH_PRE_CFG_PRE_EN 0) = false) ∧
    (let s := { port0 [(F.ETH_TSQ_CFG_HOLD_MS 0, 1)] (fun q => { q with tsq := [⟨0, 1, 0, 0⟩] }) with tick := 250000 }
     250000 * s.gf (F.ETH_TSQ_CFG_HOLD_MS 0) ≠ 0 ∧ ∃ e ∈ (s.port 0).tsq, e.st ≠ 0 ∧ e.since + 250000 * s.gf (F.ETH_TSQ_CFG_HOLD_MS 0) ≤ s.tick) ∧
    (∀ e ∈ (r0.port 0).tsq, ¬ (e.st ≠ 0 ∧ e.since + 250000 * r0.gf (F.ETH_TSQ_CFG_HOLD_MS 0) ≤ r0.tick)) := by
  decide +kernel

/-- 60 bytes received on port 0. -/
def rx (k : RxKind) (l : List Byte) (bad sym : Bool) : RxOp := ⟨0, k, l, bad, sym, 0⟩
def bytes60 : List Byte := List.replicate 60 1
/-- A frame of 60 bytes in cell 0, and its token on output 0. -/
def aFrame (s : State) : Frame := { s.rxProto 0 bytes60 0 false with cells := [0], sh := 1, refs := 1 }
def aToken : Token := ⟨0, 0, 0, 0, none, 0, none, 0⟩
def withFrame (s : State) (l : List Byte) (toks : List Token) : State :=
  s.setYrd { s.yrd with frames := [{ aFrame s with data := l }], toks := toks }

/-- A frame of 60 bytes in reassembly, in the yard with handle 0; and without cells. -/
def assy : Assy := ⟨some 0, bytes60, 1, 0, false, none⟩
def assembling (a : Assy) : State :=
  let s := port0 [(F.YRD_CTL_EN, 1), (F.YRD_POOL_PRIV_RSV, 0)] (fun q => { q with rx := some a })
  withFrame s bytes60 []

theorem wit_FramesInAndOut :
    (r0.stopped = false ∧ r0.bf (F.ETH_CTL_EN 0) = false) ∧
    (let s := st [(F.ETH_CTL_EN 0, 1)]
     s.stopped = false ∧ s.bf (F.ETH_CTL_EN 0) = true ∧ s.receives 0 = false) ∧
    (let s := port0 [(F.ETH_MAXLEN_MAXLEN 0, 1518)] id
     let n := bytes60.length + 4
     s.stopped = false ∧ s.bf (F.ETH_CTL_EN 0) = true ∧ s.receives 0 = true ∧ s.yrdFenced = false ∧ 64 ≤ n ∧ n ≤ s.gf (F.ETH_MAXLEN_MAXLEN 0) + 4 ∧ n ≤ 9604 ∧
     s.bf (F.ETH_ERR_DST_ERR_FWD 0) = false ∧ beNat (sliceB bytes60 12 2) ≠ 0x8808 ∧ s.bf F.YRD_CTL_EN = false ∧ (s.port 0).rx = none) ∧
    ((List.replicate 59 (1 : Byte)).length + 4 < 64) ∧ (List.replicate 9601 (1 : Byte)).length = 9601 ∧
    (let s := port0 [(F.YRD_CTL_EN, 1), (F.YRD_POOL_PRIV_RSV, 0)] id
     let g := GaveUp (s.ethAdd 0 23 64) 0
     g.bf F.YRD_CTL_EN = true ∧ (g.newFrame (g.rxProto 0 bytes60 ((s.ethAdd 0 23 64).rxStamp 0 0) false) false).isSome = true) ∧
    (let s := (port0 [(F.YRD_CTL_EN, 1)] id).sfs ((List.range 8).map (fun i => (F.YRD_PORT_CFG_RSV i, 4096)) ++ [(F.YRD_PORT_CFG_RSV 0, 0), (F.YRD_PORT_CFG_RSV 9, 4096)])
     let s1 := s.ethAdd 0 23 64
     s.bf F.YRD_CTL_EN = true ∧ s1.newFrame (s1.rxProto 0 bytes60 (s1.rxStamp 0 0) false) false = none) ∧
    (let s := assembling assy
     s.receives 0 = true ∧ s.yrdFenced = false ∧ (s.port 0).rx = some assy ∧ assy.next ≠ (2 : Fin 4).val ∧ assy.next = (1 : Fin 4).val ∧ assy.h = some 0 ∧
     (s.frame 0).isSome = true ∧ ∀ f ∈ s.frame 0, ((s.ethAdd 0 23 64).ethInc 0 24).growFrame { f with data := assy.data ++ bytes60 } |>.isSome) ∧
    (let s := assembling { assy with h := none }
     (s.port 0).rx = some { assy with h := none } ∧ assy.next = (1 : Fin 4).val) ∧
    (r0.stopped = false ∧ r0.selects 9 = false) ∧
    (let s := withFrame (port0 [(F.SCH_CTL_EN, 1)] id) bytes60 [aToken]
     let w := (s.purge 0 true (s.yrd.toks.length + 1)).schSync 0
     s.stopped = false ∧ s.selects 0 = true ∧ s.selHeld 0 = false ∧ s.lineFree 0 = true ∧ (w.choose 0 false).2 = some aToken) ∧
    (let s := port0 [(F.SCH_CTL_EN, 1)] id
     let w := (s.purge 0 true (s.yrd.toks.length + 1)).schSync 0
     s.selects 0 = true ∧ s.lineFree 0 = true ∧ (w.choose 0 false).2 = none ∧ (w.choose 0 false).1.preActive 0 = false) ∧
    (let s := port0 [(F.SCH_CTL_EN, 1)] (fun q => { q with free := 5 })
     s.selects 0 = true ∧ s.lineFree 0 = false ∧ (s.port 0).tx = none) ∧
    (let s := withFrame (port0 [(F.ETH_MAXLEN_MAXLEN 0, 1518)] (fun q => { q with sel := some aToken })) bytes60 []
     s.stopped = false ∧ s.canSend 0 = true ∧ (s.port 0).tx = none ∧ (s.port 0).free ≤ s.tick ∧ (s.port 0).sel = some aToken ∧ s.selHeld 0 = false ∧
     (∃ f, s.frame aToken.frame = some f ∧ f.badLink = none ∧ f.bad = [] ∧ f.data.length ≤ s.gf (F.ETH_MAXLEN_MAXLEN 0)) ∧ aToken.ts = none) ∧
    (let s := withFrame (port0 [(F.ETH_MAXLEN_MAXLEN 0, 1)] (fun q => { q with sel := some aToken })) bytes60 []
     ∃ f, s.frame aToken.frame = some f ∧ s.gf (F.ETH_MAXLEN_MAXLEN 0) < f.data.length) ∧
    (let l : Line := ⟨aToken, bytes60, true, 0, 0, 0, 0, true, 0, 0, false⟩
     let s := port0 [] (fun q => { q with cut := some l })
     s.canSend 0 = true ∧ (s.port 0).tx = none ∧ (s.port 0).sel = none ∧ (s.port 0).cut = some l ∧ s.bf (F.SCH_GCL_STAT_HOLD 0) = false ∧
     s.expressWaits 0 = false) ∧
    (let l : Line := ⟨aToken, bytes60, false, 0, 0, 0, 0, true, 0, 0, false⟩
     let s := port0 [] (fun q => { q with tx := some l })
     s.stopped = false ∧ (s.port 0).tx = some l ∧ l.start + s.lineTicks 0 l.piece ≤ s.tick ∧ l.frags = 0 ∧ s.looped 0 = false) ∧
    (let l : Line := ⟨aToken, bytes60, false, 0, 0, 0, 84, true, 0, 0, false⟩
     let s := port0 [] (fun q => { q with tx := some l })
     (s.port 0).tx = some l ∧ s.tick < l.start + s.lineTicks 0 l.piece ∧ l.pre = false) ∧
    (let l : Line := ⟨aToken, List.replicate 1000 1, true, 0, 0, 0, 1024, true, 0, 0, false⟩
     let s := { port0 [(F.ETH_PRE_STAT_VSTATE 0, 3), (F.ETH_PRE_STAT_ACTIVE 0, 1), (F.SCH_GCL_STAT_HOLD 0, 1)] (fun q => { q with tx := some l }) with tick := 100 }
     let n := (s.tick - l.start) * 40 / max 1 (s.outByte 0) - 8
     s.tick < l.start + s.lineTicks 0 l.piece ∧ l.pre = true ∧ s.preActive 0 = true ∧ s.bf (F.SCH_GCL_STAT_HOLD 0) = true ∧
     64 * (1 + s.gf (F.ETH_PRE_CFG_ADD_FRAG 0)) - 4 ≤ n ∧ l.done + n + 64 ≤ max l.data.length 60 + 4) := by
  refine ⟨?_, ?_, ?_, ?_, ?_, ?_, ?_, ?_, ?_, ?_, ?_, ?_, ?_, ⟨?_, ?_, ?_, ?_, ?_, ?_, ⟨_, rfl, ?_⟩, ?_⟩, ⟨_, rfl, ?_⟩, ?_, ?_, ?_, ?_⟩ <;> decide +kernel

/-- Entry `x` of the flow table, valid under the key in the registers. -/
def withEnt (x : Nat) : State := r0.setYrd { r0.yrd with ft := r0.yrd.ft.set (fun _ => FtEnt.init) x { FtEnt.init with act := 2 ^ 31 } }
/-- The bucket of the key in the registers. -/
def bucket : Nat := r0.flowHash r0.keyRegs % 2 ^ 14

theorem wit_FlowTableAndYard :
    (let s := st [(F.YRD_STAT_INIT_BUSY, 1)]
     Runs s ∧ s.bf F.YRD_STAT_INIT_BUSY = true) ∧
    (let s := st [(F.YRD_STAT_INIT_BUSY, 0)]
     Runs s ∧ s.bf F.YRD_STAT_INIT_BUSY = false ∧ (bucket * 4 + 4) / 4 ≠ s.flowHash s.keyRegs % 2 ^ 14 ∧
     (bucket * 4 + 3) / 4 = s.flowHash s.keyRegs % 2 ^ 14 ∧ bucket < 16384 ∧
     (∀ w < 4, bucket * 4 + w ≠ bucket * 4 + 3 → (s.ftEnt (bucket * 4 + w)).valid = false) ∧ bits (s.reg R.YRD_FT_ACT) 30 28 < 5 ∧
     s.ftBadBucket (s.flowHash s.keyRegs) = false ∧ s.ftFind 0 (s.flowHash s.keyRegs) = none) ∧
    (let s := (withEnt (bucket * 4 + 2)).sf F.YRD_STAT_INIT_BUSY 0
     Runs s ∧ s.bf F.YRD_STAT_INIT_BUSY = false ∧ BitVec.ofNat 128 (leNat s.keyRegs) = 0 ∧ (∃ w < 4, bucket * 4 + w ≠ bucket * 4 + 3 ∧
       (s.ftEnt (bucket * 4 + w)).valid = true ∧ (s.ftEnt (bucket * 4 + w)).key = 0) ∧
     s.ftBadBucket (s.flowHash s.keyRegs) = false ∧ s.ftFind 0 (s.flowHash s.keyRegs) = some (bucket * 4 + 2) ∧ 1 < (bucket * 4 + 2) % 4) ∧
    (Runs r0 ∧ r0.pinThread 0 = 0 % 512 ∧ r0.pinThread 1 ≠ (511 : BitVec 32).toNat % 512 ∧ r0.yrd.pinHeld = [] ∧ r0.yrd.moves = [] ∧
      (∀ d ∈ r0.yrd.dlv, ∀ x ∈ d.2, x.2 = none) ∧ 10 < bits 0xB0000 19 16 ∧ bits 0xA0000 19 16 ≤ 10 ∧ bits 0xA0000 9 0 + 2 ^ bits 0xA0000 19 16 ≤ 1024 ∧
      r0.bf F.YRD_CTL_LOCK = false) ∧
    (let s := r0.setDlv 0 [(3, some 1)]
     ∃ x ∈ s.dlvOf (s.pinThread 1), x.2 = some 1) ∧
    (let s := st [(F.YRD_CTL_LOCK, 1)]
     Runs s ∧ s.bf F.YRD_CTL_LOCK = true) ∧
    (r0.plainWrite R.YRD_POOL 0 false).reserves ≤ 32768 ∧
    (let s := r0.sfs ((List.range 8).map (fun i => (F.YRD_PORT_CFG_RSV i, 4096)))
     Runs s ∧ s.bf F.YRD_CTL_LOCK = false ∧ 32768 < (s.plainWrite R.YRD_POOL 1 false).reserves) := by
  unfold Runs; and_intros <;> decide +kernel

/-- Port 0 with an administrative or an operational list of one entry. -/
def admList : List (Fld × Nat) := [(F.SCH_GCL_ADM_CFG_LEN 0, 1), (F.SCH_GCL_ADM_CYCLE_CYCLE 0, 1000), (F.SCH_GCL_STAT_OPER_BANK 0, 0), (F.SCH_GCL_IVL_INTERVAL 0 1024, 1000)]
def oprList : List (Fld × Nat) := [(F.SCH_GCL_CTL_EN 0, 1), (F.SCH_GCL_STAT_OPER_VALID 0, 1), (F.SCH_GCL_OPR_CFG_LEN 0, 2), (F.SCH_GCL_OPR_CYCLE_CYCLE 0, 1000),
  (F.SCH_GCL_IVL_INTERVAL 0 0, 500), (F.SCH_GCL_IVL_INTERVAL 0 1, 500)]
def withGcl (s : State) (g : Gcl) : State := s.setSch { s.sch with gcl := s.sch.gcl.set (fun _ => Gcl.init) 0 g }

theorem wit_GateListsSwapAndRun :
    (let s := st [(F.SCH_GCL_STAT_SWAP_PEND 0, 1)]
     Runs s ∧ s.bf (F.SCH_GCL_STAT_SWAP_PEND 0) = true) ∧
    (Runs r0 ∧ r0.bf (F.SCH_GCL_STAT_SWAP_PEND 7) = false ∧ r0.gf (F.SCH_GCL_ADM_CFG_LEN 7) = 0 ∧ r0.bf (F.SCH_GCL_CTL_EN 7) = false ∧
      (r0.gcl 7).pend = none ∧ (r0.gcl 7).re = none ∧ (r0.gcl 7).holdAt = none ∧ r0.listRuns 7 = false ∧ (r0.port 7).tx = none) ∧
    (let s := st (admList ++ [(F.SCH_GCL_ADM_CFG_DOM 0, 3)])
     Runs s ∧ s.bf (F.SCH_GCL_STAT_SWAP_PEND 0) = false ∧ s.domOk (s.gf (F.SCH_GCL_ADM_CFG_DOM 0)) = false) ∧
    (let s := st admList
     let k := 1024 * (1 - s.gf (F.SCH_GCL_STAT_OPER_BANK 0))
     Runs s ∧ s.bf (F.SCH_GCL_STAT_SWAP_PEND 0) = false ∧ s.domOk (s.gf (F.SCH_GCL_ADM_CFG_DOM 0)) = true ∧
     ¬ (s.gf (F.SCH_GCL_ADM_CFG_LEN 0) = 0 ∨ 1024 < s.gf (F.SCH_GCL_ADM_CFG_LEN 0) ∨ s.gf (F.SCH_GCL_ADM_CYCLE_CYCLE 0) = 0 ∨
       ∃ i < s.gf (F.SCH_GCL_ADM_CFG_LEN 0), s.gf (F.SCH_GCL_IVL_INTERVAL 0 (k + i)) = 0 ∨ 2 ≤ s.gf (F.SCH_GCL_ENTRY_OP 0 (k + i)))) ∧
    0 < (1 : Nat) ∧
    (let s := st oprList
     s.bf (F.SCH_GCL_CTL_EN 0) = true ∧ s.bf (F.SCH_GCL_STAT_OPER_VALID 0) = true ∧ s.bf (F.SCH_GCL_STAT_FALLBACK 0) = false ∧
     0 < s.gf (F.SCH_GCL_OPR_CYCLE_CYCLE 0) ∧ 1 < s.gf (F.SCH_GCL_OPR_CFG_LEN 0) ∧
     sumBy (fun j => s.gf (F.SCH_GCL_IVL_INTERVAL 0 (1024 * s.gf (F.SCH_GCL_STAT_OPER_BANK 0) + j))) (List.range 1) = 500) ∧
    (let l : Line := ⟨aToken, bytes60, false, 0, 0, 0, 84, true, 0, 20, false⟩
     let s := port0 [(F.SCH_GCL_CTL_EN 0, 1), (F.SCH_GCL_CTL_IDLE_GATES 0, 0)] (fun q => { q with tx := some l })
     (s.port 0).tx = some l ∧ bit 1 l.tok.tc = true ∧ bit (s.gates 0) l.tok.tc = false ∧ s.tick < l.fitEnd) ∧
    (let s := withGcl (st admList) { Gcl.init with pend := some 0 }
     s.stopped = false ∧ (s.gcl 0).pend = some 0 ∧ s.domOk (s.gf (F.SCH_GCL_ADM_CFG_DOM 0)) = true ∧ 0 ≤ s.whole (s.gf (F.SCH_GCL_ADM_CFG_DOM 0)) ∧
     ∀ v, (s.gcl 0).holdAt = some (s.gf (F.SCH_GCL_ADM_CFG_DOM 0), v) → v < 0) ∧
    (let s := withGcl (st admList) { Gcl.init with pend := some 1 }
     s.stopped = false ∧ (s.gcl 0).pend = some 1 ∧ s.whole (s.gf (F.SCH_GCL_ADM_CFG_DOM 0)) < 1) ∧
    (let s := withGcl (st oprList) { Gcl.init with re := some 0 }
     (s.gcl 0).re = some 0 ∧ s.domOk (s.gf (F.SCH_GCL_OPR_CFG_DOM 0)) = true ∧ 0 ≤ s.whole (s.gf (F.SCH_GCL_OPR_CFG_DOM 0))) ∧
    (let s := st (oprList ++ [(F.SCH_GCL_STAT_OPER_IDX 0, 0)])
     s.stopped = false ∧ (s.gcl 0).re = none ∧ s.listRuns 0 = true ∧ s.gclIdx 0 = s.gf (F.SCH_GCL_STAT_OPER_IDX 0) ∧ (s.gcl 0).cyc = s.gclCycle 0) ∧
    (let s := st (oprList ++ [(F.SCH_GCL_STAT_OPER_IDX 0, 1)])
     s.listRuns 0 = true ∧ ¬ (s.gclIdx 0 = s.gf (F.SCH_GCL_STAT_OPER_IDX 0) ∧ (s.gcl 0).cyc = s.gclCycle 0)) ∧
    (let s := st (oprList ++ [(F.SCH_GCL_ENTRY_OP 0 1, 1), (F.SCH_PORT_GB_HOLD_ADV 0, 500)])
     s.bf (F.SCH_GCL_CTL_EN 0) = true ∧ s.bf (F.SCH_GCL_STAT_HOLD 0) = false ∧ (s.gclNow 0).1 = false ∧
     s.nextEntry 0 (fun y => y.1) = some (500 * 2 ^ 32, (0, 500), true) ∧ 500 * 2 ^ 32 ≤ s.gf (F.SCH_PORT_GB_HOLD_ADV 0) * 2 ^ 32) ∧
    (let s := st (oprList ++ [(F.SCH_GCL_ENTRY_OP 0 1, 1), (F.SCH_PORT_GB_HOLD_ADV 0, 499)])
     s.nextEntry 0 (fun y => y.1) = some (500 * 2 ^ 32, (0, 500), true) ∧ s.gf (F.SCH_PORT_GB_HOLD_ADV 0) * 2 ^ 32 < 500 * 2 ^ 32) ∧
    (let s := st oprList
     s.nextEntry 0 (fun y => y.1) = none) ∧
    (let s := withGcl (st (oprList ++ [(F.SCH_GCL_STAT_HOLD 0, 1)])) { Gcl.init with holdAt := some (0, 0) }
     s.stopped = false ∧ (s.gcl 0).holdAt = some (0, 0) ∧ s.bf (F.SCH_GCL_STAT_HOLD 0) = true ∧ s.listRuns 0 = true ∧ (s.gclNow 0).1 = false ∧
     0 ≤ s.whole 0 ∧ s.swapDue 0 = false) ∧
    (let s := withGcl (st (oprList ++ [(F.SCH_GCL_STAT_HOLD 0, 1), (F.SCH_GCL_ENTRY_OP 0 0, 1)])) { Gcl.init with holdAt := some (0, 0) }
     s.bf (F.SCH_GCL_STAT_HOLD 0) = true ∧ s.listRuns 0 = true ∧ (s.gclNow 0).1 = true) := by
  unfold Runs
  refine ⟨?_, ?_, ?_, ?_, ?_, ?_, ?_, ⟨?_, ?_, ?_, ?_, nofun⟩, ?_, ?_, ?_, ?_, ?_, ?_, ?_, ?_, ?_⟩ <;> decide +kernel

theorem wit_ShapersAndFlowQueues :
    (Runs r0 ∧ r0.stopped = false ∧ (r0.shp 2047).debt = false) ∧
    (let x : Shaper := ⟨1, 1, 0, 1, 0, 64 * 2 ^ 24, 0⟩
     x.mode = 1 ∧ x.mode ≠ 0 ∧ x.cb ≤ (x.cbs * 64 * 2 ^ 24 : Nat)) ∧
    (let x : Shaper := ⟨1, 1, 1, 1, 0, -1, 64 * 2 ^ 24⟩
     x.cb < 0 ∧ x.mode = 1 ∧ x.eir ≠ 0 ∧ ((x.ebs * 64 * 2 ^ 24 : Nat) : Int) < x.eb) ∧
    (let x : Shaper := ⟨2, 1, 0, 1, 0, -1, 0⟩
     x.mode = 2 ∧ x.cb < 0) ∧
    (let s := r0.setSch { r0.sch with shp := r0.sch.shp.set (fun _ => (⟨0, 0, 0, 0, 0, 0, 0⟩ : Shaper)) 2047 ⟨1, 1, 0, 1, 0, -1, 0⟩ }
     s.stopped = false ∧ (s.shp 2047).debt = true) ∧
    (bits 0x40000000 30 27 = 8) ∧
    (let s := r0.setYrd { r0.yrd with toks := [{ aToken with fq := some 16383 }] }
     Runs s ∧ bits 0x08000000 30 27 ≠ s.gf (F.SCH_FQ_CFG_OUT 16383) ∧ ∃ k ∈ s.yrd.toks, k.fq = some (16383 : Fin 16384).val) ∧
    (bits 0x48000000 30 27 ≠ 8 ∧ bits 0x48000000 30 27 < 10 ∧ ¬ ∃ k ∈ r0.yrd.toks, k.fq = some (16383 : Fin 16384).val) := by
  unfold Runs; decide

/-! ### Witnesses: the twin and the links -/

/-- RED of a twin in role `r` with link 0 up and both heartbeat paths. -/
def twin (r : Nat) (l : List (Fld × Nat)) (f : RedSt → RedSt) : State :=
  let s := (st [(F.RED_CTL_EN, 1), (F.RED_TWIN_CFG_TWIN_EN, 1), (F.RED_ROLE_ROLE, r), (F.RED_ROLE_PARTNER_LOST, 0), (F.VOX_LINK_STAT_UP 0, 1),
    (F.RED_HB_CFG_WIRE_EN, 1), (F.RED_HB_CFG_VOX_EN, 1), (F.RED_HB_CFG_PERIOD, 4)]).sfs l
  RedIs s (f s.red)
def held (seq : Option Nat) : RedHeld := ⟨4095, aToken, 9, seq, 0⟩
def at_ (s : State) (t : Nat) : State := { s with tick := t }

theorem wit_EventStreamsMirrorAndHandOver :
    (let s := twin 3 [] (fun r => { r with held := [held none] })
     let l := s.red.mirrors ++ [⟨4095, 0, 9, s.tick⟩]
     RedRuns s ∧ s.role = 3 ∧ s.redFenced = false ∧ s.linkUp 0 = true ∧ s.red.mirrors.length < 4096 ∧
     s.red.held.find? (fun h => h.stream == (4095 : Fin 4096).val && h.seq.isNone) = some (held none) ∧
     l.find? (fun m => m.stream == 4095) = some ⟨4095, 0, 9, s.tick⟩ ∧ (held none).key = 9 ∧ (held none).key ≠ 8 ∧
     s.red.held.filter (fun h => h.seq.isNone) = [held none]) ∧
    (let s := twin 1 [] id
     RedRuns s ∧ s.role = 1 ∧ s.redFenced = false ∧ s.linkUp 0 = true ∧ s.red.held.find? (fun h => h.stream == 4095 && h.seq.isNone) = none ∧
     (∀ h ∈ s.red.held, h.seq.isSome = true) ∧ s.red.ho ≠ 1 ∧ s.red.ho ≠ 2) ∧
    (let s := twin 2 [] (fun r => { r with held := [held (some 65535)] })
     RedRuns s ∧ s.role = 2 ∧ s.red.held.find? (fun h => h.stream == 4095 && h.seq == some (65535 : BitVec 16).toNat) = some (held (some 65535)) ∧
     s.red.held.find? (fun h => h.stream == 4095 && h.seq == some (0 : BitVec 16).toNat) = none) ∧
    (let s := twin 2 [] (fun r => { r with ho := 1, held := [held none] })
     s.red.ho = 1 ∧ ∀ h ∈ s.red.held, h.seq = none) ∧
    (let s := at_ (twin 3 [(F.RED_REC_CFG_EN 4095, 1)] id) 1000000000000
     let s := s.setRec 4095 { RecSt.init with takeAny := false }
     RedRuns s ∧ s.bf (F.RED_REC_CFG_EN 4095) = true ∧ (s.recOf 4095).takeAny = false ∧
     (s.recOf 4095).last + 250000 * max 1 (s.gf (F.RED_REC_CFG_RESET_MS 4095)) ≤ s.tick) ∧
    (let s := (twin 3 [(F.RED_REC_CFG_EN 4095, 1)] id).setRec 4095 { RecSt.init with takeAny := false }
     (s.recOf 4095).takeAny = false ∧ s.tick < (s.recOf 4095).last + 250000 * max 1 (s.gf (F.RED_REC_CFG_RESET_MS 4095))) ∧
    0 < (1 : Nat) ∧
    (let s := twin 2 [] (fun r => { r with ho := 2 })
     RedRuns s ∧ s.red.ho = 2) ∧
    (let s := RedIs r0 { r0.red with stopped := true }
     s.stopped = false ∧ s.red.stopped = true ∧ Instr.ackTimeout ∈ [Instr.ackTimeout]) := by
  unfold RedRuns
  refine ⟨?_, ?_, ?_, ?_, ?_, ?_, ?_, ?_, ⟨?_, ?_, by simp⟩⟩ <;> decide

/-- A heartbeat word of member 1 in role `r`, with further bits, and its CRC. -/
def word (r x : Nat) : Nat := (1 + r * 8 + x) + crc8Of 0 (beBytes 3 (1 + r * 8 + x)) * 2 ^ 24

theorem wit_RolesAndHeartbeats :
    (let s := twin 0 [] id
     Runs s ∧ s.bf F.RED_CTL_EN = true) ∧
    (Runs r0 ∧ r0.bf F.RED_CTL_EN = false ∧ r0.red.stopped = false ∧ RedRuns r0 ∧ r0.hbRuns = false ∧ (r0.role ≠ 2 ∧ r0.role ≠ 3 ∧ r0.hoOk = false)) ∧
    (let s := RedIs r0 { r0.red with stopped := true }
     Runs s ∧ s.bf F.RED_CTL_EN = false ∧ s.red.stopped = true) ∧
    (let s := twin 2 [] id
     RedRuns s ∧ s.hbRuns = true ∧ s.red.hbLast = none ∧ s.hbBody false / 2 ^ 10 % 8 = s.red.health ∧ Runs s ∧ s.role = 2 ∧ s.hoOk = true ∧ s.red.ho = 0 ∧
     s.twin = true ∧ (∀ h ∈ s.red.held, h.seq = none)) ∧
    (let s := twin 2 [(F.RED_GROOM_STAT_PASS, 1)] id
     RedRuns s ∧ s.hbRuns = true ∧ s.red.hbLast = none ∧ s.hbBody false / 2 ^ 10 % 8 ≠ s.red.health) ∧
    (let s := twin 2 [(F.RED_TWIN_CFG_SHED_SWAP, 1), (F.PWR_STAT_SH, 2)] id
     s.hoOk = true ∧ s.bf F.RED_TWIN_CFG_SHED_SWAP = true ∧ 2 ≤ s.gf F.PWR_STAT_SH ∧ s.red.peerShed < 2) ∧
    (let s := twin 2 [] (fun r => { r with hbLast := some 0 })
     s.hbRuns = true ∧ s.red.hbLast = some 0 ∧ s.tick < 0 + 250 * s.gf F.RED_HB_CFG_PERIOD) ∧
    (let s := twin 3 [] id
     let v := word 2 0
     RedRuns s ∧ s.bf F.RED_CTL_EN = true ∧ s.role = 3 ∧ s.role ≠ 0 ∧ s.bf F.RED_HB_CFG_WIRE_EN = true ∧ s.vioA = true ∧ s.bf F.RED_HB_CFG_VOX_EN = true ∧
     s.linkUp 0 = true ∧ bits v 31 24 = crc8Of 0 (beBytes 3 (v % 2 ^ 24)) ∧ bits v 1 0 = s.partnerId ∧ s.twin = true ∧
     ¬ (bit v 9 = true ∨ bits v 5 3 = 4 ∨ 3 ≤ bits v 8 6) ∧ bit v 12 = false ∧ bits 0 1 0 ≠ s.partnerId ∧ s.hoOk = true ∧ s.red.ho = 0) ∧
    (let s := twin 3 [(F.RED_TWIN_CFG_SUPV, 2)] id
     let v := word 2 (2 ^ 12)
     bits v 31 24 = crc8Of 0 (beBytes 3 (v % 2 ^ 24)) ∧ bits v 1 0 = s.partnerId ∧ bit v 12 = true ∧ s.red.peerDiv = false ∧
     s.gf F.RED_TWIN_CFG_SUPV = 2 ∧ s.twin = true) ∧
    (let v := word 4 0
     bits v 31 24 = crc8Of 0 (beBytes 3 (v % 2 ^ 24)) ∧ bits v 5 3 = 4) ∧
    ((twin 1 [(F.RED_TWIN_CFG_TWIN_EN, 0)] id).role = 1 ∧ (twin 1 [(F.RED_TWIN_CFG_TWIN_EN, 0)] id).twin = false) ∧
    (let s := twin 2 [] (fun r => { r with ho := 1 })
     s.role ≠ 3 ∧ s.role ≠ 1 ∧ s.red.ho ≠ 0) ∧
    (let s := twin 3 [] id
     RedRuns s ∧ s.partnerLost = false ∧ s.tick < s.lastWord + 3 * (250 * s.gf F.RED_HB_CFG_PERIOD)) ∧
    (let s := at_ (twin 3 [(F.RED_TWIN_CFG_AUTO_LOFT, 0)] id) 3000
     RedRuns s ∧ s.bf F.RED_CTL_EN = true ∧ s.role = 3 ∧ s.twin = true ∧ s.partnerLost = false ∧
     s.lastWord + 3 * (250 * s.gf F.RED_HB_CFG_PERIOD) ≤ s.tick) ∧
    (let s := at_ (twin 2 [] (fun r => { r with voxAt := some 3000 })) 3000
     s.red.wireRep = false ∧ max s.red.since (s.red.wireAt.getD 0) + 3 * (250 * s.gf F.RED_HB_CFG_PERIOD) ≤ s.tick ∧ s.red.voxAt = some 3000 ∧
     s.tick < 3000 + 3 * (250 * s.gf F.RED_HB_CFG_PERIOD)) ∧
    (let s := at_ (twin 2 [] (fun r => { r with wireAt := some 3000, wireRep := true })) 3000
     s.red.voxRep = false ∧ max s.red.since (s.red.voxAt.getD 0) + 3 * (250 * s.gf F.RED_HB_CFG_PERIOD) ≤ s.tick ∧ s.red.wireAt = some 3000 ∧
     s.red.wireRep = true) ∧
    (let s := twin 1 [(F.GCTL_BOOT_STAT_TWIN_ROLE, 1)] id
     s.red.afterRst = false ∧ s.bf F.GCTL_BOOT_STAT_TWIN_ROLE = true) ∧
    (let s := twin 1 [(F.GCTL_BOOT_STAT_TWIN_ROLE, 0)] (fun r => { r with resolving := some 0 })
     RedRuns s ∧ s.red.resolving = some 0 ∧ s.role = 1 ∧ s.red.afterRst = false ∧ s.bf F.GCTL_BOOT_STAT_TWIN_ROLE = false ∧
     s.tick < 0 + 250000 * max 1 (s.gf F.GCTL_TWIN_CFG_RESOLVE_MS)) ∧
    (let s := at_ (twin 1 [(F.GCTL_BOOT_STAT_TWIN_ROLE, 0), (F.GCTL_TWIN_CFG_RESOLVE_MS, 1)] (fun r => { r with resolving := some 0 })) 250000
     0 + 250000 * max 1 (s.gf F.GCTL_TWIN_CFG_RESOLVE_MS) ≤ s.tick) ∧
    (let s := twin 2 [(F.FCU_STAT_SAFE, 1)] id
     RedRuns s ∧ s.safe = true) := by
  unfold RedRuns Runs; and_intros <;> decide +kernel

/-- Digest mode on clock 0, of 100 ns cycles of domain 0, its value `v` ns. -/
def digests (v : Nat) (l : List (Fld × Nat)) (f : RedSt → RedSt) : State :=
  withDom (twin 2 ([(F.RED_TWIN_CFG_SUPV, 2), (F.RED_TWIN_CFG_DIG_CLK, 0), (F.RED_CLK_CFG_EN 0, 1), (F.RED_CLK_CYCLE_VALUE 0, 100), (F.RED_CLK_CFG_GUARD 0, 10)] ++ l) f) 0
    (fun d => { d with val := v * 2 ^ 32 })

theorem wit_DigestsRoundsAndVerdicts :
    (let s := digests 110 [] id
     let x := s.gf F.RED_TWIN_CFG_DIG_CLK
     RedRuns s ∧ s.digMode = true ∧ s.linkUp 0 = true ∧ s.red.digSent = none ∧
     ¬ (s.digMode = false ∨ s.cycleNo x ≤ s.cycleNo x - 1 ∨ s.clkPos x % s.clkCycle x < (s.gf (F.RED_CLK_CFG_GUARD x) : Int)) ∧
     s.red.peerDigs.find? (·.n == s.cycleNo x - 1) = none) ∧
    (let s := digests 110 [] (fun r => { r with peerDigs := [⟨0, 7, 1⟩] })
     s.cycleNo (s.gf F.RED_TWIN_CFG_DIG_CLK) - 1 = 0 ∧ s.red.peerDigs.find? (·.n == 0) = some ⟨0, 7, 1⟩) ∧
    (let s := digests 110 [] (fun r => { r with digSent := some 0 })
     RedRuns s ∧ s.digMode = true ∧ s.linkUp 0 = true ∧ s.red.digSent = some 0 ∧ (0 : Int) < 1 ∧ s.red.digs.find? (·.n == 0) = none) ∧
    (let s := digests 110 [(F.RED_TWIN_CFG_DIV_THRESH, 2)] (fun r => { r with digSent := some 0, digs := [⟨0, 7, 1⟩] })
     RedRuns s ∧ s.digMode = true ∧ s.linkUp 0 = true ∧ s.red.digSent = some 0 ∧ s.red.digs.find? (·.n == 0) = some ⟨0, 7, 1⟩ ∧ (7 ≠ 8 ∨ 1 ≠ 1) ∧
     s.red.digRun + 1 < max 1 (s.gf F.RED_TWIN_CFG_DIV_THRESH) ∧ s.red.digs.find? (fun m => m.n ≤ 0) = some ⟨0, 7, 1⟩ ∧
     s.cycleNo (s.gf F.RED_TWIN_CFG_DIG_CLK) < 0 + 2) ∧
    (let s := digests 210 [(F.RED_TWIN_CFG_DIV_THRESH, 1)] (fun r => { r with digSent := some 0, digs := [⟨0, 7, 1⟩] })
     max 1 (s.gf F.RED_TWIN_CFG_DIV_THRESH) ≤ s.red.digRun + 1 ∧ s.bf F.RED_ROLE_DIVERGED = false ∧ s.digMode = true ∧
     0 + 2 ≤ s.cycleNo (s.gf F.RED_TWIN_CFG_DIG_CLK) ∧ s.red.digSent = some 0 ∧ s.red.digs.find? (fun m => m.n ≤ 0) = some ⟨0, 7, 1⟩) ∧
    (twin 2 [(F.RED_ROLE_DIVERGED, 1)] id).bf F.RED_ROLE_DIVERGED = true ∧
    (RedRuns r0 ∧ r0.digMode = false ∧ r0.red.divAt = none ∧ r0.red.round = none ∧ r0.linkUp 0 = false ∧ (r0.port 0).loopEnd = none) ∧
    (let s := twin 2 [] (fun r => { r with divAt := some 0, myV := some true })
     RedRuns s ∧ s.red.divAt = some 0 ∧ s.red.myV ≠ none ∧ s.role = 2) ∧
    (let s := twin 3 [] (fun r => { r with divAt := some 0, myV := some false })
     RedRuns s ∧ s.red.divAt = some 0 ∧ s.red.myV ≠ none ∧ ¬ s.role = 2 ∧ ¬ 0 + 250000 * max 1 (s.gf F.RED_GROOM_CFG_VERDICT_MS) ≤ s.tick) ∧
    (let s := at_ (twin 3 [(F.RED_GROOM_CFG_PERIOD, 1), (F.RED_GROOM_CFG_LOOP_PORTS, 1)] id) 250000000
     RedRuns s ∧ s.role = 3 ∧ s.gf F.RED_GROOM_CFG_PERIOD ≠ 0 ∧ s.red.round = none ∧ s.red.lastRound + 250000000 * s.gf F.RED_GROOM_CFG_PERIOD ≤ s.tick ∧
     bit (s.gf F.RED_GROOM_CFG_LOOP_PORTS) 0 = true ∧ bit (s.gf F.RED_GROOM_CFG_LOOP_PORTS) 1 = false ∧ s.linkUp 0 = true ∧ s.bf F.RED_CTL_EN = true) ∧
    (let s := twin 3 [(F.RED_GROOM_STAT_KERNEL_OK, 1), (F.RED_GROOM_STAT_SCRUB_OK, 1)] (fun r => { r with round := some 0, loopOk := some true })
     Runs s ∧ RedRuns s ∧ s.red.round = some 0 ∧ s.red.roundV = false ∧ s.tick ≤ 0 + 250000 * max 1 (s.gf F.RED_GROOM_CFG_VERDICT_MS) ∧
     (s.bf F.RED_GROOM_STAT_KERNEL_OK = true ∧ s.bf F.RED_GROOM_STAT_SCRUB_OK = true ∧ s.red.loopOk = some true ∧
       s.eth.any (fun q => q.2.loopEnd.isSome) = false)) ∧
    (let s := at_ (twin 3 [(F.RED_GROOM_CFG_VERDICT_MS, 1)] (fun r => { r with round := some 0 })) 250001
     0 + 250000 * max 1 (s.gf F.RED_GROOM_CFG_VERDICT_MS) < s.tick ∧ s.bf F.RED_GROOM_STAT_KERNEL_OK = false) ∧
    (let s := port0 [] (fun q => { q with loopEnd := some 0 })
     s.stopped = false ∧ (s.port 0).loopEnd = some 0 ∧ 0 ≤ s.tick ∧ ∀ x ∈ s.eth, x.1 ≠ 0 → x.2.loopEnd = none) ∧
    (let s := port0 [] (fun q => { q with loopEnd := some 1 })
     (s.port 0).loopEnd = some 1 ∧ s.tick < 1) := by
  unfold RedRuns Runs; and_intros <;> decide +kernel

theorem wit_LinksMessagesAndTwinResets :
    (Runs r0 ∧ r0.linkUp 0 = false ∧ r0.linkUp 1 = false ∧ r0.bf F.VOX_RING_CFG_RING_EN = false ∧ r0.wideQueue (leNat (sliceB (List.replicate 64 0) 2 2)) = false) ∧
    (let s := st [(F.VOX_LINK_STAT_UP 1, 1)]
     s.stopped = false ∧ s.linkUp 1 = true ∧ s.vox.replays.getD 1 0 + 1 < 8) ∧
    (let s := { st [(F.VOX_LINK_STAT_UP 1, 1)] with vox := { VoxSt.init with replays := [0, 7] } }
     s.linkUp 1 = true ∧ 8 ≤ s.vox.replays.getD 1 0 + 1) ∧
    (let s := st [(F.VOX_CTL_EN, 3)]
     Runs s ∧ bit (s.gf F.VOX_CTL_EN) 1 = true ∧ s.safe = false ∧ s.gf F.PWR_STAT_SH < 3 ∧ s.gf F.PWR_STAT_PS < 3 ∧ s.linkUp 1 = false ∧ (2 : BitVec 2) ≠ 0) ∧
    (let s := st [(F.VOX_RING_CFG_RING_EN, 1), (F.VOX_LINK_STAT_UP 0, 1)]
     s.stopped = false ∧ s.bf F.VOX_RING_CFG_RING_EN = true ∧ s.linkUp 0 = true ∧ ((List.replicate 64 (0 : Byte)).headD 0).toNat % 4 = s.devId ∧
     ((List.replicate 64 (3 : Byte)).headD 0).toNat % 4 ≠ s.devId ∧ s.linkUp 1 = false ∧ s.dramUp = true ∧ s.dramIdle cQM = true ∧
     (s.qTake (s.gf F.VOX_Q_CFG_PEER_TX_Q)).2 = .bad) ∧
    (let s := st [(F.VOX_RING_CFG_RING_EN, 1), (F.VOX_LINK_STAT_UP 0, 1), (F.VOX_LINK_STAT_UP 1, 1)]
     s.linkUp (1 - 0) = true ∧ (3 : Fin 4).val ≠ 0) ∧
    (let s := (st [(F.VOX_RING_CFG_RING_EN, 1)]).setIq 0 { r0.iq 0 with made := true, wide := true, log2N := 4, p := 1 }
     ∃ d n, (s.qTake (s.gf F.VOX_Q_CFG_PEER_TX_Q)).2 = .got d n) ∧
    (let s := wideQ (st [(F.QM_CTL_EN, 1)])
     s.wideQueue (leNat (sliceB (List.replicate 64 0) 2 2)) = true ∧ s.heldOff 0 = false ∧ ∀ w ∈ s.qm.held, w.1 ≠ 0) ∧
    ((wideQ (st [(F.QM_CTL_EN, 0)])).heldOff 0 = true) := by
  unfold Runs
  refine ⟨?_, ?_, ?_, ?_, ?_, ?_, ⟨_, _, rfl⟩, ?_, ?_⟩ <;> decide +kernel

/-! ### Witnesses: the bus -/

/-- A node 5 of two channels in state `q`, `k` bit times (of 12.5 ticks) into a basic cycle of 1,000 bit times with windows of 300. -/
def bus (q k : Nat) (l : List (Fld × Nat)) (f : ZttSt → ZttSt) : State :=
  let s := (st [(F.ZTT_STAT_STATE, q), (F.ZTT_CFG_CHAN, 3), (F.ZTT_CFG_NODE, 5), (F.ZTT_BIT_B, 819200), (F.ZTT_CFG_GUARD, 10), (F.PWR_RAIL_STAT_GOOD, 15)]).sfs l
  at_ (ZttIs s (f { s.ztt with s := some 0, ncyc := 2, nwin := 3, base := 0, cycBt := 1000, l0 := 300, prevEnd := 300 })) (k * 25 / 2)
/-- Window 1 of the cycle, from bit 300 to 600, on both channels. -/
def window (kind owner : Nat) : ZWin :=
  { w := 1, kind := kind, owner := owner, en := [true, true], buf := [511, 511], start := 300, len := 300, latch := [some none, none], got := [false, false],
    judged := false, sent := false, poll := none, answered := false }
def inWindow (q k : Nat) (l : List (Fld × Nat)) (w : ZWin) : State := bus q k l (fun z => { z with win := some w })
/-- Entry 1 of window memory: bits 300 to 600, an owned window of node 5 on both channels. -/
def entry1 : List (Fld × Nat) := [(⟨R.ZTT_WIN_TIME 1, 31, 0⟩, 300 * 65536 + 300), (⟨R.ZTT_WIN_CTL 1, 31, 0⟩, 0x70000000 + 5 * 2 ^ 22)]
/-- A valid frame of node `n` in window `w` of cycle 0, with no data; a reference of node 7 for mode 0. -/
def frameOf (n w : Nat) : List Byte :=
  let h := leBytes 1 n ++ leBytes 1 w ++ [0, 0]
  let h := h ++ leBytes 1 (crc8Of 0 h)
  h ++ leBytes 4 (crc32cOf 0xFFFFFFFF h)
def refFrame : List Byte :=
  let h := leBytes 1 (7 + 64) ++ [0, 0, 8]
  let h := h ++ leBytes 1 (crc8Of 0 h) ++ List.replicate 8 0
  h ++ leBytes 4 (crc32cOf 0xFFFFFFFF h)
/-- A master's poll of node 9 in window `w` of cycle 0. -/
def pollOf (n w : Nat) : List Byte :=
  let h := leBytes 1 n ++ leBytes 1 (128 + w) ++ [0, 1]
  let h := h ++ leBytes 1 (crc8Of 0 h) ++ [9]
  h ++ leBytes 4 (crc32cOf 0xFFFFFFFF h)
def zrx (l : List Byte) : ZRx := ⟨1, l, true, 0⟩
/-- A frame on the bus from bit `a` to bit `b`, permitted to bit `p`. -/
def sending (a b p : Nat) : ZTx := ⟨[true, true], a * 819200, b * 819200, p * 819200, none, none⟩

theorem wit_BusWindowsAndBuffers :
    (let s := bus 4 299 entry1 id
     Zat s s ∧ s.zCycling = true ∧ s.ztt.win = none ∧ s.gf F.ZTT_CYCLE_WINDOW = 0 ∧ s.ztt.badEnt = [] ∧ s.zNow < s.zAt (bits (s.zEff (R.ZTT_WIN_TIME 1) s.zNow) 15 0)) ∧
    (let s := bus 4 300 entry1 (fun z => { z with refSent := true })
     let start := bits (s.zEff (R.ZTT_WIN_TIME 1) s.zNow) 15 0
     let len := bits (s.zEff (R.ZTT_WIN_TIME 1) (s.zAt start)) 31 16
     let e := s.zEff (R.ZTT_WIN_CTL 1) (s.zAt start)
     Zat s s ∧ s.zCycling = true ∧ s.ztt.win = none ∧ 1 < s.ztt.nwin ∧ s.ztt.refSent = true ∧ s.zAt start ≤ s.zNow ∧ s.ztt.prevEnd ≤ start ∧
     start + len ≤ s.ztt.cycBt ∧ bits e 31 30 ≠ 3 ∧ bits e 31 30 = 1 ∧ bits e 27 22 = s.zNode ∧ s.zState = 4) ∧
    (let s := bus 4 300 entry1 (fun z => { z with refSent := true, prevEnd := 301 })
     Zat s s ∧ s.zCycling = true ∧ bits (s.zEff (R.ZTT_WIN_TIME 1) s.zNow) 15 0 < s.ztt.prevEnd) ∧
    (let w := { window 1 5 with sent := true }
     let s := inWindow 4 310 [] w
     Zat s s ∧ s.ztt.win = some w ∧ w.sent = true) ∧
    (let s := inWindow 4 310 [] (window 1 5)
     Zat s s ∧ s.ztt.win = some (window 1 5) ∧ s.zMayTx = true ∧ s.zAt (300 + s.zGuard) ≤ s.zNow ∧ s.zNow < s.zPerm (window 1 5) ∧ s.zState = 4 ∧
     (window 1 5).owner = s.zNode) ∧
    (let s := bus 4 310 [(F.ZTT_STAT_MASTER, 1), (⟨R.ZTT_POLL_GRP_HI 0, 31, 0⟩, 2 ^ 31)] (fun z => { z with win := some (window 2 0), rq := List.replicate 64 true })
     Zat s s ∧ s.ztt.win = some (window 2 0) ∧ s.zMayTx = true ∧ s.zNow < s.zPerm (window 2 0) ∧ s.zMaster = true ∧
     (firstIdx (fun i => s.zCand 0 ((s.ztt.lastPoll.getD 0 63 + 1 + i) % 64)) 64).isSome = true) ∧
    (let s := bus 4 310 [(F.ZTT_STAT_MASTER, 1)] (fun z => { z with win := some (window 2 7) })
     Zat s s ∧ s.zMaster = true ∧ firstIdx (fun i => s.zCand 7 ((s.ztt.lastPoll.getD 7 63 + 1 + i) % 64)) 64 = none) ∧
    (let w := { window 2 7 with poll := some (5, [true, false]) }
     let s := bus 4 440 [(F.ZTT_POLL_TX_EN 7, 1), (F.ZTT_POLL_TX_BUF 7, 511), (F.ZTT_MB_CFG_DIR 511, 1)] (fun z => { z with win := some w })
     let s := s.setZBuf 511 { ZBuf.none with page := some [1] }
     Zat s s ∧ s.ztt.win = some w ∧ w.poll = some (s.zNode, [true, false]) ∧ w.answered = false ∧ s.zState = 4 ∧ s.zAt (300 + 3 * s.zGuard + 108) ≤ s.zNow ∧
     s.zNow < s.zPerm w ∧ s.zMayTx = true ∧ s.zQuiet = false ∧ s.bf (F.ZTT_POLL_TX_EN 7) = true ∧ s.bf (F.ZTT_MB_CFG_DIR (s.gf (F.ZTT_POLL_TX_BUF 7))) = true ∧
     (s.zBuf (s.gf (F.ZTT_POLL_TX_BUF 7))).page.isSome = true) ∧
    (let s := bus 4 590 [] (fun z => { z with tx := some (sending 310 600 590) })
     s.stopped = false ∧ s.ztt.tx = some (sending 310 600 590) ∧ s.zState = 4 ∧ (sending 310 600 590).perm < (sending 310 600 590).fin ∧
     (sending 310 600 590).perm ≤ s.zNow ∧ (at_ s 7374).zNow < (sending 310 600 590).perm) ∧
    (let s := bus 4 400 [] (fun z => { z with tx := some (sending 310 400 590) })
     s.ztt.tx = some (sending 310 400 590) ∧ s.zState = 4 ∧ (sending 310 400 590).fin ≤ (sending 310 400 590).perm ∧ (sending 310 400 590).fin ≤ s.zNow ∧
     (sending 310 400 590).mism = none ∧ (sending 310 400 590).ans = none) ∧
    (let s := bus 0 400 [] id
     Zat s s ∧ s.zState = 0) ∧
    (let s := bus 4 400 [] id
     Zat s s ∧ s.zChan 1 = true ∧ s.zState ≠ 0 ∧ (zrx []).valid = false ∧ (zrx (frameOf 7 1)).valid = true ∧ (zrx (frameOf 7 1)).isRef = false ∧
     (zrx (frameOf 7 1)).node ≠ s.zNode ∧ s.ztt.win = none) ∧
    (let s := inWindow 4 400 [] { window 1 7 with judged := true }
     Zat s s ∧ s.ztt.win = some { window 1 7 with judged := true }) ∧
    (let s := inWindow 4 300 [] (window 1 7)
     Zat s s ∧ s.ztt.win = some (window 1 7) ∧ s.zIsEdge (window 1 7) (zrx (frameOf 7 1)) = true) ∧
    (let s := inWindow 4 400 [] (window 1 7)
     Zat s s ∧ s.zIsEdge (window 1 7) (zrx (frameOf 7 1)) = false ∧ (zrx (frameOf 7 2)).byte 1 % 128 ≠ 1 ∧ (zrx (frameOf 7 1)).byte 1 = 1 ∧
     (zrx (frameOf 7 1)).cycle = s.gf F.ZTT_CYCLE_CYCLE ∧ (zrx (frameOf 7 1)).node = 7 ∧ (window 1 7).en.getD (zrx (frameOf 7 1)).chan false = true ∧
     s.fenced 0x1C = false) ∧
    (let s := bus 4 400 [(F.ZTT_MB_CFG_EN 511, 1), (F.ZTT_MB_CFG_DIR 511, 0), (F.ZTT_MB_CFG_FIRST 511, 0), (F.ZTT_MB_CFG_QEN 511, 0)] id
     s.bf (F.ZTT_MB_CFG_EN 511) = true ∧ s.bf (F.ZTT_MB_CFG_DIR 511) = false ∧ s.bf (F.ZTT_MB_CFG_FIRST 511) = false ∧ s.bf (F.ZTT_MB_CFG_QEN 511) = false ∧
     (List.replicate 64 (1 : Byte)).length ≤ 64) ∧
    (let s := inWindow 4 599 [] (window 1 7)
     Zat s s ∧ (window 1 7).judged = false ∧ (window 1 7).owner ≠ s.zNode ∧ s.zState = 4 ∧ s.zNow < s.zAt (300 + 300)) ∧
    (let w := { window 1 7 with en := [true, false] }
     let s := inWindow 4 600 [] w
     Zat s s ∧ s.ztt.win = some w ∧ s.zAt (300 + 300) ≤ s.zNow ∧ w.got = [false, false]) ∧
    (let w := { window 1 7 with got := [true, false] }
     let s := inWindow 4 600 [] w
     Zat s s ∧ s.ztt.win = some w ∧ w.en = [true, true]) ∧
    (let s := bus 4 400 [(F.ZTT_MB_CFG_DIR 511, 1), (F.ZTT_MB_CFG_DIR 0, 0)] id
     Zat s s ∧ s.safe = false ∧ 64 < (65 : BitVec 7).toNat ∧ s.bf (F.ZTT_MB_CFG_DIR 0) = false ∧ (64 : BitVec 7).toNat ≤ 64 ∧
     s.bf (F.ZTT_MB_CFG_DIR 511) = true) ∧
    (let s := bus 4 300 [(F.PWR_STAT_SH, 4)] id
     s.stopped = false ∧ s = s.zTxStep ∧ s.gf F.PWR_STAT_SH = 4 ∧ s.safe = false) ∧
    (let s := bus 4 300 [(F.PWR_STAT_PS, 4)] id
     s.stopped = false ∧ s = s.zTxStep ∧ s.gf F.PWR_STAT_PS = 4) ∧
    (let s := bus 1 300 [] (fun z => { z with s := none })
     Zat s s ∧ s.zCycling = false) ∧
    (let s := bus 4 300 [] (fun z => { z with nwin := 1 })
     Zat s s ∧ s.ztt.nwin ≤ s.gf F.ZTT_CYCLE_WINDOW + 1) ∧
    (let s := bus 4 300 (entry1 ++ [(F.ZTT_CFG_REF_MISS_MAX, 1)]) id
     Zat s s ∧ s.zCycling = true ∧ s.gf F.ZTT_CYCLE_WINDOW + 1 = 1 ∧ 1 < s.ztt.nwin ∧ s.zAt (bits (s.zEff (R.ZTT_WIN_TIME 1) s.zNow) 15 0) ≤ s.zNow ∧
     s.zJudgeRef.zCycling = false) ∧
    (let s := bus 4 300 entry1 (fun z => { z with refSent := true, badEnt := z.badEnt.set (fun _ => false) (R.ZTT_WIN_TIME 1) true })
     Zat s s ∧ s.zCycling = true ∧ s.ztt.badEnt.get (fun _ => false) (R.ZTT_WIN_TIME 1) = true) ∧
    (let s := bus 4 300 (entry1 ++ [(⟨R.ZTT_WIN_CTL 1, 31, 30⟩, 3)]) (fun z => { z with refSent := true })
     Zat s s ∧ bits (s.zEff (R.ZTT_WIN_CTL 1) s.zNow) 31 30 = 3) ∧
    (let s := bus 4 300 [(F.ZTT_MB_CFG_EN 511, 1), (F.ZTT_MB_CFG_DIR 511, 1), (F.ZTT_MB_CFG_AGE_MAX 511, 0)] id
     s.bf (F.ZTT_MB_CFG_EN 511) = true ∧ s.bf (F.ZTT_MB_CFG_DIR 511) = true ∧ s.bf (F.ZTT_MB_CFG_EN 510) = false ∧ s.zQuiet = false ∧
     s.ztt.badBuf.get (fun _ => false) 511 = false ∧ (s.zBuf 511).page = none) ∧
    (let s := (bus 4 300 [(F.ZTT_MB_CFG_EN 511, 1), (F.ZTT_MB_CFG_DIR 511, 1), (F.ZTT_MB_CFG_AGE_MAX 511, 0)] id).setZBuf 511
       { ZBuf.none with page := some (List.replicate 64 1) }
     s.bf (F.ZTT_MB_CFG_EN 511) = true ∧ s.bf (F.ZTT_MB_CFG_DIR 511) = true ∧ s.zQuiet = false ∧ s.ztt.badBuf.get (fun _ => false) 511 = false ∧
     (s.zBuf 511).page = some (List.replicate 64 1) ∧ s.gf (F.ZTT_MB_CFG_AGE_MAX 511) = 0 ∧
     98 + 10 * (List.replicate 64 (1 : Byte)).length + 2 * s.zGuard ≤ 758 ∧ 757 < 98 + 10 * (List.replicate 64 (1 : Byte)).length + 2 * s.zGuard) ∧
    (let s := bus 4 300 [(F.ZTT_MB_CFG_EN 511, 1), (F.ZTT_MB_CFG_DIR 511, 1), (F.ZTT_MB_CFG_AGE_MAX 511, 1)] (fun z => { z with abs := 2, buf := [(511, { ZBuf.none with page := some [] })] })
     s.gf (F.ZTT_MB_CFG_AGE_MAX 511) ≠ 0 ∧ s.gf (F.ZTT_MB_CFG_AGE_MAX 511) < s.ztt.abs - (s.zBuf 511).born) ∧
    (let s := bus 4 300 [(F.ZTT_MB_CFG_EN 511, 1), (F.ZTT_MB_CFG_DIR 511, 1)] (fun z => { z with badBuf := z.badBuf.set (fun _ => false) 511 true })
     s.bf (F.ZTT_MB_CFG_EN 511) = true ∧ s.bf (F.ZTT_MB_CFG_DIR 511) = true ∧ s.zQuiet = false ∧ s.ztt.badBuf.get (fun _ => false) 511 = true) ∧
    (let s := bus 4 300 [(F.ZTT_MB_CFG_EN 511, 1), (F.ZTT_MB_CFG_DIR 511, 1), (F.ZTT_CFG_OUT_QUIET, 1), (F.RED_ROLE_ROLE, 4)] id
     s.bf (F.ZTT_MB_CFG_EN 511) = true ∧ s.bf (F.ZTT_MB_CFG_DIR 511) = true ∧ s.zQuiet = true) ∧
    (let s := inWindow 4 309 [] (window 1 5)
     Zat s s ∧ s.zNow < s.zAt (300 + s.zGuard)) ∧
    (let s := bus 2 590 [] (fun z => { z with tx := some (sending 310 600 590) })
     s.zState = 2 ∧ s.stopped = false ∧ (sending 310 600 590).perm ≤ s.zNow) ∧
    (let x : ZTx := { sending 310 400 590 with mism := some 1 }
     let s := bus 4 400 [(F.ZTT_REF_CFG_RB_MAX, 2)] (fun z => { z with tx := some x })
     s.stopped = false ∧ s.ztt.tx = some x ∧ s.zState = 4 ∧ x.fin ≤ x.perm ∧ x.fin ≤ s.zNow ∧ x.mism = some 1 ∧ s.ztt.rbRun + 1 < s.zRbMax) ∧
    (let x : ZTx := { sending 310 400 590 with mism := some 1 }
     let s := bus 4 400 [(F.ZTT_REF_CFG_RB_MAX, 2)] (fun z => { z with tx := some x, rbRun := 1 })
     s.ztt.tx = some x ∧ s.zState = 4 ∧ s.zRbMax ≤ s.ztt.rbRun + 1) ∧
    (let s := bus 2 400 [] (fun z => { z with tx := some (sending 310 400 590) })
     s.stopped = false ∧ s.zState = 2 ∧ s.ztt.intact + 1 < 2) ∧
    (let s := bus 2 400 [] (fun z => { z with tx := some (sending 310 400 590), intact := 1 })
     s.stopped = false ∧ s.zState = 2 ∧ 2 ≤ s.ztt.intact + 1) ∧
    (let s := bus 3 400 [] (fun z => { z with tx := some { sending 310 400 590 with ans := some 511 } })
     s.stopped = false ∧ s.zState ≠ 4 ∧ s.zState ≠ 2) ∧
    (let s := bus 5 400 [] id
     Zat s s ∧ s.zState = 5 ∧ s.zChan 1 = true ∧ s.vioA = true) ∧
    (let s := bus 4 400 [(F.PWR_RAIL_STAT_GOOD, 0)] id
     Zat s s ∧ s.vioA = false ∧ (zrx (frameOf 5 1)).valid = true ∧ (zrx (frameOf 5 1)).node = s.zNode) ∧
    (let s := inWindow 4 400 [] (window 2 0)
     let o := zrx (pollOf 7 1)
     Zat s s ∧ s.zState ≠ 5 ∧ s.ztt.win = some (window 2 0) ∧ (window 2 0).judged = false ∧ s.zIsEdge (window 2 0) o = false ∧ o.valid = true ∧ o.isRef = false ∧
     o.node ≠ s.zNode ∧ o.byte 1 % 128 = 1 ∧ o.cycle = s.gf F.ZTT_CYCLE_CYCLE ∧ bit (o.byte 1) 7 = true ∧ o.byte 3 = 1 ∧
     (window 2 0).en.getD o.chan false = true) ∧
    (let s := bus 4 400 [(F.ZTT_MB_CFG_EN 511, 1), (F.ZTT_MB_CFG_DIR 511, 0), (F.ZTT_MB_CFG_FIRST 511, 1)] (fun z => { z with buf := [(511, { ZBuf.none with got := some (0, false) })] })
     s.bf (F.ZTT_MB_CFG_EN 511) = true ∧ s.bf (F.ZTT_MB_CFG_DIR 511) = false ∧ s.bf (F.ZTT_MB_CFG_FIRST 511) = true ∧
     (s.zBuf 511).got = some (s.ztt.abs, false)) ∧
    (let s := bus 4 400 [(F.ZTT_MB_CFG_EN 511, 1), (F.ZTT_MB_CFG_DIR 511, 0), (F.ZTT_MB_CFG_FIRST 511, 1)] (fun z => { z with buf := [(511, { ZBuf.none with got := some (0, true) })] })
     (s.zBuf 511).got = some (s.ztt.abs, true)) ∧
    (let s := inWindow 4 600 [] (window 1 5)
     Zat s s ∧ s.zAt (300 + 300) ≤ s.zNow ∧ (window 1 5).judged = false ∧ (window 1 5).owner = s.zNode) := by
  unfold Zat; and_intros <;> decide +kernel

theorem wit_BusReferencesAndStates :
    (let s := bus 0 0 [(F.ZTT_CTL_EN, 0)] id
     Zat s s ∧ s.safe = false ∧ s.bf F.ZTT_CTL_EN = false ∧ s.zState = 0) ∧
    (let s := bus 4 0 [(F.ZTT_CTL_EN, 1)] id
     Zat s s ∧ s.bf F.ZTT_CTL_EN = true ∧ s.zMaster = false) ∧
    (let s := bus 4 0 [(F.ZTT_STAT_MASTER, 1)] id
     Zat s s ∧ s.safe = false ∧ s.zState = 4 ∧ s.zMaster = true) ∧
    (let s := bus 4 999 [] id
     Zat s s ∧ s.zCycling = true ∧ s.zNow < s.zAt s.ztt.cycBt) ∧
    (let s := bus 4 1000 [] (fun z => { z with refSent := true })
     Zat s s ∧ s.zCycling = true ∧ s.zAt s.ztt.cycBt ≤ s.zNow ∧ s.ztt.win = none ∧ s.ztt.refSent = true ∧ s.bf F.ZTT_STAT_SWITCH_PEND = false ∧
     s.bf F.ZTT_Q_EN_CYC_QEN = false) ∧
    (let s := bus 4 10 [(F.ZTT_STAT_MASTER, 1)] id
     Zat s s ∧ s.ztt.s.isSome = true ∧ s.gf F.ZTT_CYCLE_WINDOW = 0 ∧ s.ztt.tx = none ∧ s.zMayTx = true ∧ s.zState = 4 ∧ s.zMaster = true ∧ s.zQuiet = false ∧
     s.zAt s.zGuard ≤ s.zNow ∧ s.zNow < s.zAt (s.ztt.l0 - s.zGuard) ∧ s.ztt.refSent = false ∧ s.ztt.req = none ∧ (at_ s 124).zNow < s.zAt s.zGuard) ∧
    (let s := bus 4 42 [(F.ZTT_CFG_MASTER_EN, 1), (F.ZTT_CFG_PRIO, 0)] (fun z => { z with edge := none })
     Zat s s ∧ s.zState = 4 ∧ s.bf F.ZTT_CFG_MASTER_EN = true ∧ s.ztt.s.isSome = true ∧ s.gf F.ZTT_CYCLE_WINDOW = 0 ∧ s.ztt.refGot = none ∧
     s.ztt.refSent = false ∧ s.zMayTx = true ∧ s.zMaster = false ∧ s.zAt (s.zGuard + 8 * s.zPrio + 32) ≤ s.zNow ∧ s.ztt.edge = none ∧
     2 * s.zGuard + 210 + 8 * s.zPrio ≤ s.ztt.l0 ∧ s.zNow < s.zAt (s.ztt.l0 - s.zGuard - 178) + s.zBit ∧
     (at_ s 524).zNow < s.zAt (s.zGuard + 8 * s.zPrio + 32)) ∧
    (let s := bus 4 200 [(⟨R.ZTT_MODE 0, 31, 0⟩, 2 ^ 16), (⟨R.ZTT_WIN_TIME 0, 31, 0⟩, 300 * 65536)] id
     Zat s s ∧ s.zChan 1 = true ∧ s.zChan 0 = true ∧ (zrx refFrame).valid = true ∧ (zrx refFrame).isRef = true ∧ (zrx refFrame).node ≠ s.zNode ∧ s.zState = 4 ∧
     s.zMaster = false ∧ s.ztt.refGot = none ∧ s.zNow < s.zAt s.ztt.cycBt ∧ s.zJoinable (zrx refFrame) = true ∧ (zrx []).valid = false) ∧
    (let s := bus 4 300 [(F.ZTT_CFG_REF_MISS_MAX, 2)] id
     Zat s s ∧ s.ztt.s.isSome = true ∧ s.zState = 4 ∧ s.ztt.refJudged = false ∧ s.ztt.refSent = false ∧ s.ztt.refGot = none ∧ s.zAt s.ztt.l0 ≤ s.zNow ∧
     s.ztt.missRun + 1 < s.zMissMax ∧ (at_ s 3749).zNow < s.zAt s.ztt.l0) ∧
    (let s := bus 4 300 [(F.ZTT_CFG_REF_MISS_MAX, 1)] id
     Zat s s ∧ s.zAt s.ztt.l0 ≤ s.zNow ∧ s.zMissMax ≤ s.ztt.missRun + 1) ∧
    (let s := bus 1 2000 [(F.ZTT_CFG_COLD_EN, 1), (F.ZTT_CFG_MASTER_EN, 1), (⟨R.ZTT_MODE_LEN 0, 31, 0⟩, 1000), (⟨R.ZTT_WIN_TIME 0, 31, 0⟩, 300 * 65536)] id
     let due := (s.ztt.listen : Int) * 65536 + (2 * bits (s.reg (R.ZTT_MODE_LEN (s.gf F.ZTT_CTL_START_MODE))) 15 0 * s.zBit : Nat)
     Zat s s ∧ s.zState = 1 ∧ s.bf F.ZTT_CFG_COLD_EN = true ∧ s.bf F.ZTT_CFG_MASTER_EN = true ∧ s.zUsable (s.gf F.ZTT_CTL_START_MODE) = true ∧
     s.zMayTx = true ∧ due ≤ s.zNow) ∧
    (let s := bus 4 320 [] (fun z => { z with tx := some (sending 310 400 590) })
     Zat s s ∧ s.ztt.tx = some (sending 310 400 590) ∧ (sending 310 400 590).chans.getD 1 false = true ∧ (sending 310 400 590).tss ≤ s.zNow ∧ s.zState = 4) ∧
    (let s := bus 4 309 [] (fun z => { z with tx := some (sending 310 400 590) })
     Zat s s ∧ s.zNow < (sending 310 400 590).tss) ∧
    (let s := bus 2 320 [] (fun z => { z with tx := some (sending 310 400 590) })
     Zat s s ∧ (sending 310 400 590).tss ≤ s.zNow ∧ s.zState = 2) ∧
    (let s := bus 2 320 [] (fun z => { z with back := some (320 * 819200) })
     Zat s s ∧ s.ztt.back = some (320 * 819200) ∧ s.zState = 2 ∧ 320 * 819200 ≤ s.zNow ∧ s.zMayTx = true ∧ s.zChan 1 = true ∧ (at_ s 3999).zNow < 320 * 819200) ∧
    (let s := bus 4 0 [(F.ZTT_CFG_CHAN, 1)] id
     Zat s s ∧ s.zChan 1 = false ∧ s.zChan 0 = true ∧ s.zState ≠ 2) ∧
    (let s := bus 1 0 [(F.ZTT_CTL_EN, 1)] id
     Zat s s ∧ s.safe = false ∧ s.zState ≠ 4) ∧
    (let s := bus 1 1000 [] (fun z => { z with s := none })
     Zat s s ∧ s.zCycling = false) ∧
    (let s := bus 4 1000 [(F.ZTT_CFG_REF_MISS_MAX, 1)] id
     Zat s s ∧ s.zCycling = true ∧ s.zAt s.ztt.cycBt ≤ s.zNow ∧ s.zJudgeWin.zJudgeRef.zCycling = false) ∧
    (let s := bus 4 1000 [(F.ZTT_STAT_SWITCH_PEND, 1), (F.ZTT_STAT_ANN_MODE, 0), (⟨R.ZTT_WIN_TIME 0, 31, 0⟩, 300 * 65536)]
       (fun z => { z with refSent := true, ncyc := 1, reqSent := true })
     Zat s s ∧ s.zJudgeWin.zJudgeRef.zCycling = true ∧ s.ztt.ncyc ≤ s.gf F.ZTT_CYCLE_CYCLE + 1 ∧ s.bf F.ZTT_STAT_SWITCH_PEND = true ∧ s.zUsable 0 = true) ∧
    (let s := bus 4 1000 [(F.ZTT_STAT_SWITCH_PEND, 1), (F.ZTT_STAT_ANN_MODE, 0)] (fun z => { z with refSent := true, ncyc := 1 })
     Zat s s ∧ s.bf F.ZTT_STAT_SWITCH_PEND = true ∧ s.zUsable 0 = false) ∧
    (let s := bus 2 10 [] (fun z => { z with req := some 3 })
     Zat s s ∧ s.zAt s.zGuard ≤ s.zNow ∧ s.zState = 2 ∧ s.ztt.back = none ∧ s.ztt.req = some 3 ∧ (List.range 2).filter (fun c => s.zChan c) ≠ []) ∧
    (let s := bus 2 10 [(F.ZTT_CFG_CHAN, 0)] id
     Zat s s ∧ (List.range 2).filter (fun c => s.zChan c) = []) ∧
    (let s := bus 5 200 [] id
     Zat s s ∧ s.zState = 5 ∧ s.zChan 1 = true ∧ s.vioA = true) ∧
    (let s := bus 4 200 [] (fun z => { z with refGot := some (1, []) })
     let w := zCycleStart ((ZValidIs s (zrx refFrame)).incf (F.ZTT_CNT_COUNT 1 4))
     Zat s s ∧ s.zState ≠ 5 ∧ w.ztt.refGot = some (1, []) ∧ 1 = (zrx refFrame).chan.val) ∧
    (let s := bus 4 200 [] (fun z => { z with refGot := some (0, []) })
     let w := zCycleStart ((ZValidIs s (zrx refFrame)).incf (F.ZTT_CNT_COUNT 1 4))
     w.ztt.refGot = some (0, []) ∧ 0 ≠ (zrx refFrame).chan.val ∧ [] ≠ (zrx refFrame).bytes.take ((zrx refFrame).bytes.length - 4)) ∧
    (let s := bus 4 200 [(⟨R.ZTT_MODE 0, 31, 0⟩, 2 ^ 16), (⟨R.ZTT_WIN_TIME 0, 31, 0⟩, 300 * 65536)] (fun z => { z with refGot := some (1, []) })
     let o : ZRx := ⟨0, refFrame, true, 0⟩
     let w := zCycleStart ((ZValidIs s o).incf (F.ZTT_CNT_COUNT 0 4))
     w.ztt.refGot = some (1, []) ∧ 1 ≠ o.chan.val ∧ o.chan = 0 ∧ w.zJoinable o = true) ∧
    (let s := bus 4 200 [] id
     let w := zCycleStart ((ZValidIs s (zrx refFrame)).incf (F.ZTT_CNT_COUNT 1 4))
     Zat s s ∧ w.ztt.refGot = none ∧ w.zJoinable (zrx refFrame) = false) ∧
    (let s := bus 4 200 [(F.ZTT_STAT_MASTER, 1), (F.ZTT_CFG_PRIO, 0), (⟨R.ZTT_MODE 0, 31, 0⟩, 2 ^ 16), (⟨R.ZTT_WIN_TIME 0, 31, 0⟩, 300 * 65536)] id
     let w := zCycleStart ((ZValidIs s (zrx refFrame)).incf (F.ZTT_CNT_COUNT 1 4))
     Zat s s ∧ w.zJoinable (zrx refFrame) = true ∧ w.zState = 4 ∧ w.zMaster = true ∧ w.zQuiet = false ∧ w.zPrio ≤ (zrx refFrame).prio) ∧
    (let s := bus 4 200 [(F.ZTT_STAT_MASTER, 1), (F.ZTT_CFG_PRIO, 7), (⟨R.ZTT_MODE 0, 31, 0⟩, 2 ^ 16), (⟨R.ZTT_WIN_TIME 0, 31, 0⟩, 300 * 65536)] id
     let w := zCycleStart ((ZValidIs s (zrx refFrame)).incf (F.ZTT_CNT_COUNT 1 4))
     Zat s s ∧ w.zJoinable (zrx refFrame) = true ∧ (zrx refFrame).prio < w.zPrio ∧ s.bf F.ZTT_Q_EN_CYC_QEN = false) ∧
    (let s := bus 1 200 [(⟨R.ZTT_MODE 0, 31, 0⟩, 2 ^ 16), (⟨R.ZTT_WIN_TIME 0, 31, 0⟩, 300 * 65536)] id
     let w := zCycleStart ((ZValidIs s (zrx refFrame)).incf (F.ZTT_CNT_COUNT 1 4))
     Zat s s ∧ w.zJoinable (zrx refFrame) = true ∧ w.zState = 1) ∧
    (let s := bus 3 200 [(⟨R.ZTT_MODE 0, 31, 0⟩, 2 ^ 16), (⟨R.ZTT_WIN_TIME 0, 31, 0⟩, 300 * 65536)] (fun z => { z with first := some (0, 65535) })
     let w := zCycleStart ((ZValidIs s (zrx refFrame)).incf (F.ZTT_CNT_COUNT 1 4))
     Zat s s ∧ w.zJoinable (zrx refFrame) = true ∧ w.zState = 3 ∧ w.ztt.first = some (0, 65535) ∧ (w.zMode (zrx refFrame).mode w.zNow).1 ≤ 0 + 1 ∧
     (zrx refFrame).cycle = 0 ∧ (zrx refFrame).mcount = (65535 + 1) % 65536) ∧
    (let s := bus 3 200 [(⟨R.ZTT_MODE 0, 31, 0⟩, 2 ^ 16), (⟨R.ZTT_WIN_TIME 0, 31, 0⟩, 300 * 65536)] id
     let w := zCycleStart ((ZValidIs s (zrx refFrame)).incf (F.ZTT_CNT_COUNT 1 4))
     Zat s s ∧ w.zState = 3 ∧ w.ztt.first = none) ∧
    (let s := bus 4 0 [(F.PWR_RAIL_STAT_GOOD, 0)] id
     Zat s s ∧ s.vioA = false) ∧
    (let s := bus 4 0 [] id
     Zat s s ∧ s.vioA = true ∧ s.zChan 1 = true ∧ s.zState ≠ 2 ∧ s.ztt.tx = none ∧ s.ztt.back = none) := by
  unfold Zat; and_intros <;> decide +kernel

/-! ### Witnesses: the host queues -/

/-- QM runs with the link up; pair 4095 holds `p`. -/
def hostQ (p : Pair) (l : List (Fld × Nat)) : State :=
  ((st [(F.QM_CTL_EN, 1), (F.QM_PCIE_STAT_LINK_UP, 1), (F.QM_PCIE_STAT_BME, 1), (F.DMC_SIZE_USABLE, 64)]).sfs l).setPair 4095 p
/-- A running pair of a kind, with 16 entries in both rings. -/
def pairOf (kind : Nat) : Pair := { Pair.none with state := 1, kind := kind, nSq := 4, nCq := 4 }
/-- The admin command with bytes `l`, alone, given through the registers or on the admin queue. -/
def adm (l : List Byte) (regs : Bool) : AdmCmd := ⟨regs, 0, l ++ List.replicate (64 - l.length) 0⟩
def withCmd (s : State) (l : List Byte) : State := QmIs s { s.qm with cmds := [adm l true] }
def q4095 : PairId := .pair 4095

theorem wit_DoorbellsFetchesAndSignals :
    (let s := hostQ Pair.none []
     let p := s.pairOf q4095.index
     Runs s ∧ p.state ≠ 1 ∧ p.state = 0 ∧ s.qmRuns = true ∧ s.stopped = false ∧ p.idxDue = false ∧ p.unsig = 0) ∧
    (let s := hostQ (pairOf 0) []
     let p := s.pairOf q4095.index
     let n := 2 * 2 ^ p.nSq
     Runs s ∧ p.state = 1 ∧ (p.sqP + 65536 - p.sqC) % 65536 % n ≤ ((16 : BitVec 16).toNat + 65536 - p.sqC) % 65536 % n ∧
     ((16 : BitVec 16).toNat + 65536 - p.sqC) % 65536 % n ≤ 2 ^ p.nSq ∧ (16 : BitVec 16).toNat ≠ p.sqP ∧ (0 : BitVec 16).toNat = p.sqP ∧
     2 ^ p.nSq < ((17 : BitVec 16).toNat + 65536 - p.sqC) % 65536 % n) ∧
    (let s := hostQ { pairOf 0 with cqP := 3 } []
     let p := s.pairOf q4095.index
     let n := 2 * 2 ^ p.nCq
     p.state ≠ 0 ∧ p.state ≠ 4 ∧ ((3 : BitVec 16).toNat + 65536 - p.cqC) % 65536 % n ≤ (p.cqP + 65536 - p.cqC) % 65536 % n ∧
     (p.cqP + 65536 - p.cqC) % 65536 % n < ((4 : BitVec 16).toNat + 65536 - p.cqC) % 65536 % n) ∧
    (let s := hostQ { pairOf 1 with state := 2 } []
     let p := s.pairOf 4095
     s.qmRuns = true ∧ p.state = 2 ∧ p.sqP = p.sqC ∧ p.ents = [] ∧ p.tsWait = [] ∧ p.d2h = []) ∧
    (let s := hostQ { pairOf 1 with state := 2, ents := [⟨0, []⟩] } []
     let p := s.pairOf 4095
     p.state = 2 ∧ p.ents = [⟨0, []⟩] ∧ p.kind = 1 ∧ p.cqFree ≠ 0) ∧
    (let s := hostQ { pairOf 0 with sqP := 1 } []
     let p := s.pairOf q4095.index
     s.qmRuns = true ∧ s.dmaOk = true ∧ p.state = 1 ∧ p.sqP ≠ p.sqC ∧ p.ents = []) ∧
    (let s := (hostQ (pairOf 0) []).setPair admPair { pairOf 4 with sqP := 1, sqWide := true }
     let p := s.pairOf PairId.admin.index
     p.state = 1 ∧ p.sqP ≠ p.sqC) ∧
    (let s := hostQ { pairOf 0 with ents := [⟨0, []⟩], idxDue := true } []
     let p := s.pairOf q4095.index
     p.ents = [⟨0, []⟩] ∧ p.idxDue = true ∧ p.unsig = 0) ∧
    (let s := hostQ { pairOf 0 with idxDue := true, unsig := 1, coalCnt := 1 } []
     let p := s.pairOf q4095.index
     p.idxDue = true ∧ p.unsig ≠ 0 ∧ max 1 p.coalCnt ≤ p.unsig) ∧
    (let s := hostQ { pairOf 0 with unsig := 1, coalUs := 0 } []
     let p := s.pairOf q4095.index
     p.unsig ≠ 0 ∧ p.idxDue = false ∧ p.oldest + 250 * p.coalUs ≤ s.tick) ∧
    ((hostQ { pairOf 0 with noInt := true } []).pairOf 4095).noInt = true ∧
    (let s := hostQ (pairOf 0) [(F.QM_PCIE_STAT_MSIX_EN, 1), (F.QM_INT_CFG_PIN, 0)]
     let s := QmIs s { s.qm with vecMask := 0 }
     (s.pairOf 4095).noInt = false ∧ s.msixMode = true ∧ s.qm.funcMask = false ∧ bit s.qm.vecMask (s.pairOf 4095).vector = false ∧
     s.bf F.QM_PCIE_STAT_BME = true) ∧
    (let s := hostQ (pairOf 0) []
     (s.pairOf 4095).cqFree ≠ 0 ∧ (none : Option (Nat × Nat)) = none ∧ (some (1, 2) : Option (Nat × Nat)).isSome = true) ∧
    (let s := hostQ { pairOf 0 with cqP := 16 } []
     (s.pairOf 4095).cqFree = 0) ∧
    (let s := hostQ { pairOf 2 with state := 2, d2h := [[]] } []
     let p := s.pairOf 4095
     s.stopped = false ∧ s.qmRuns = true ∧ p.state = 2 ∧ p.sqP = p.sqC ∧ ¬ (p.ents = [] ∧ p.tsWait = [] ∧ p.d2h = [])) ∧
    (let s := hostQ (pairOf 0) [(F.QM_CTL_EN, 0)]
     s.stopped = false ∧ s.qmRuns = false) ∧
    (let s := at_ (hostQ { pairOf 0 with idxDue := true, idxAt := 1 } []) 250
     let p := s.pairOf 4095
     s.qmRuns = true ∧ s.postsGo = true ∧ ¬ (p.batch = true ∨ p.idxAt = 0 ∨ p.idxAt + 250 ≤ s.tick) ∧ (p.idxAt + 250 ≤ (at_ s 251).tick)) ∧
    (let s := at_ (hostQ { pairOf 0 with idxDue := true, batch := true, idxAt := 1, unsig := 1, coalCnt := 2, coalUs := 1, oldest := 0 } []) 249
     let p := s.pairOf 4095
     p.batch = true ∧ p.unsig < max 1 p.coalCnt ∧ ¬ p.oldest + 250 * p.coalUs ≤ s.tick ∧ p.oldest + 250 * p.coalUs ≤ (at_ s 250).tick) ∧
    (let s := hostQ (pairOf 0) [(F.QM_PCIE_STAT_MSIX_EN, 1), (F.QM_INT_CFG_PIN, 0), (F.QM_PCIE_STAT_BME, 0)]
     (s.pairOf 4095).noInt = false ∧ s.msixMode = true ∧ s.bf F.QM_PCIE_STAT_BME = false) ∧
    ((hostQ (pairOf 0) []).msixMode = false ∧ ((hostQ (pairOf 0) []).pairOf 4095).noInt = false) := by
  unfold Runs; and_intros <;> decide +kernel

/-- CREATE_PAIR of pair 4095; the same QID for another OP; CREATE_IQ of queue 4095 with 16 entries of 32 bytes. -/
def createBytes : List Byte := [1, 0, 0, 0, 0xFF, 0x0F, 0, 0x44]
def opBytes (op : Nat) : List Byte := [BitVec.ofNat 8 op, 0, 0, 0, 0xFF, 0x0F]
def iqBytes : List Byte := [4, 0, 0, 0, 0xFF, 0x0F, 0, 4]

theorem wit_AdminCommandsExecute :
    (r0.stopped = false ∧ r0.qm.cmds = []) ∧
    (let s := (hostQ Pair.none []).setPair admPair (pairOf 4)
     let s := QmIs s { s.qm with cmds := [adm createBytes false] }
     s.qm.cmds = [adm createBytes false] ∧ (adm createBytes false).fromRegs = false ∧ (s.pairOf admPair).state = 1 ∧ Front s (adm createBytes false) 0x01) ∧
    (let s := withCmd (hostQ Pair.none []) [1, 9]
     Front s (adm [1, 9] true) 0x01 ∧ pairParamsOk (adm [1, 9] true).data = false) ∧
    (let s := withCmd (hostQ (pairOf 0) []) createBytes
     let l := (adm createBytes true).data
     Front s (adm createBytes true) 0x01 ∧ pairParamsOk l = true ∧ (s.pairOf ((qidPair (fieldB l 4 2)).getD 0)).state ≠ 0) ∧
    (let s := withCmd (hostQ Pair.none []) createBytes
     let l := (adm createBytes true).data
     Front s (adm createBytes true) 0x01 ∧ pairParamsOk l = true ∧ (s.pairOf ((qidPair (fieldB l 4 2)).getD 0)).state = 0) ∧
    (let s := withCmd (hostQ (pairOf 0) []) (opBytes 2)
     let l := (adm (opBytes 2) true).data
     Front s (adm (opBytes 2) true) 0x02 ∧ (s.pairCheck l (zeroB l 6 64) [3, 4] matches .error _) = true) ∧
    (let s := withCmd (hostQ (pairOf 0) []) (opBytes 3)
     let l := (adm (opBytes 3) true).data
     Front s (adm (opBytes 3) true) 0x03 ∧ (s.pairCheck l (zeroB l 6 64) [3, 4] matches .error _) = true) ∧
    (let s := withCmd (hostQ { pairOf 0 with state := 3 } []) (opBytes 2)
     let l := (adm (opBytes 2) true).data
     Front s (adm (opBytes 2) true) 0x02 ∧ (s.pairCheck l (zeroB l 6 64) [3, 4] matches .ok 4095) = true) ∧
    (let s := withCmd (hostQ { pairOf 0 with state := 4 } []) (opBytes 3)
     let l := (adm (opBytes 3) true).data
     Front s (adm (opBytes 3) true) 0x03 ∧ (s.pairCheck l (zeroB l 6 64) [3, 4] matches .ok 4095) = true) ∧
    (let s := withCmd (hostQ (pairOf 0) []) (opBytes 6)
     let l := (adm (opBytes 6) true).data
     Front s (adm (opBytes 6) true) 0x06 ∧ fieldB l 6 1 ≠ 1 ∧ (s.pairCheck l (zeroB l 6 64) [1, 2, 3, 4] matches .ok 4095) = true) ∧
    (let s := withCmd (hostQ (pairOf 0) []) (opBytes 7)
     let l := (adm (opBytes 7) true).data
     Front s (adm (opBytes 7) true) 0x07 ∧
     (s.pairCheck l (zeroB l 6 33 && zeroB l 38 64 && !bit (fieldB l 33 1) 6) [1, 2, 3, 4] matches .ok 4095) = true) ∧
    (let l : List Byte := [2, 0, 0, 0, 0, 0x10]
     4096 ≤ fieldB l 4 2 ∧ fieldB l 4 2 ≠ 0xFFFF) ∧
    (qidPair (fieldB (opBytes 2) 4 2) = some 4095 ∧ fieldB (opBytes 2) 1 1 = 0 ∧ fieldB [2, 1] 1 1 ≠ 0 ∧ ((hostQ Pair.none []).pairOf 4095).state = 0 ∧
     ((hostQ (pairOf 0) []).pairOf 4095).state ∉ [3, 4]) ∧
    (let s := withCmd (hostQ Pair.none []) iqBytes
     let l := (adm iqBytes true).data
     let size := 2 ^ fieldB l 7 1 * (if fieldB l 32 1 = 1 then 64 else 32)
     Front s (adm iqBytes true) 0x04 ∧ (fieldB l 4 2 < 4096 ∧ fieldB l 1 1 = 0 ∧ fieldB l 6 1 ≤ 1 ∧ 4 ≤ fieldB l 7 1 ∧ fieldB l 7 1 ≤ 15 ∧ fieldB l 32 1 ≤ 1 ∧
       ¬ (fieldB l 6 1 = 1 ∧ fieldB l 32 1 = 1) ∧ fieldB l 8 8 % size = 0 ∧ fieldB l 8 8 + size ≤ s.usable ∧ zeroB l 16 32 = true ∧ zeroB l 33 64 = true) ∧
     (s.iq (fieldB l 4 2)).made = false) ∧
    (let s := withCmd ((hostQ Pair.none []).setIq 4095 { Iq.none with made := true }) iqBytes
     Front s (adm iqBytes true) 0x04 ∧ (s.iq 4095).made = true) ∧
    (let s := withCmd (hostQ Pair.none []) [4, 0, 0, 0, 0, 0x10]
     Front s (adm [4, 0, 0, 0, 0, 0x10] true) 0x04 ∧ ¬ fieldB (adm [4, 0, 0, 0, 0, 0x10] true).data 4 2 < 4096) ∧
    (let s := withCmd (hostQ Pair.none []) (opBytes 5)
     let l := (adm (opBytes 5) true).data
     Front s (adm (opBytes 5) true) 0x05 ∧ fieldB l 4 2 < 4096 ∧ fieldB l 1 1 = 0 ∧ zeroB l 6 64 = true ∧ (s.iq (fieldB l 4 2)).made = false) ∧
    (let s := withCmd ((hostQ Pair.none []).setIq 4095 { Iq.none with made := true }) (opBytes 5)
     Front s (adm (opBytes 5) true) 0x05 ∧ (s.iq 4095).made = true) ∧
    (let s := withCmd (hostQ Pair.none []) [5, 1]
     Front s (adm [5, 1] true) 0x05 ∧ fieldB (adm [5, 1] true).data 1 1 ≠ 0) ∧
    (let s := withCmd (hostQ Pair.none []) (opBytes 6 ++ [1])
     let l := (adm (opBytes 6 ++ [1]) true).data
     Front s (adm (opBytes 6 ++ [1]) true) 0x06 ∧ fieldB l 6 1 = 1 ∧ fieldB l 4 2 < 4096 ∧ fieldB l 1 1 = 0 ∧ zeroB l 7 64 = true ∧
     (s.iq (fieldB l 4 2)).made = false) ∧
    (let s := withCmd ((hostQ Pair.none []).setIq 4095 { Iq.none with made := true }) (opBytes 6 ++ [1])
     Front s (adm (opBytes 6 ++ [1]) true) 0x06 ∧ (s.iq 4095).made = true) ∧
    (let s := withCmd (hostQ Pair.none []) (opBytes 6)
     s.stopped = false ∧ s.qm.cmds = [adm (opBytes 6) true] ∧ fieldB (adm (opBytes 6) true).data 0 1 ≠ 1) ∧
    (let s := QmIs (hostQ Pair.none []) { (hostQ Pair.none []).qm with cmds := [adm [1] false] }
     (adm [1] false).fromRegs = false ∧ (s.pairOf admPair).state ≠ 1 ∧ (s.pairOf admPair).state ≠ 2 ∧ s.qm.cmds = [adm [1] false]) ∧
    (let s := withCmd (hostQ Pair.none []) [8]
     s.qm.cmds = [adm [8] true] ∧ s.qmRuns = true ∧ 7 < fieldB (adm [8] true).data 0 1) ∧
    (let s := withCmd (hostQ Pair.none []) [7]
     s.qm.cmds = [adm [7] true] ∧ s.qmRuns = true ∧ 1 ≤ fieldB (adm [7] true).data 0 1 ∧ fieldB (adm [7] true).data 0 1 ≤ 7) ∧
    (let s := withCmd (hostQ Pair.none []) (opBytes 6)
     let l := (adm (opBytes 6) true).data
     Front s (adm (opBytes 6) true) 0x06 ∧ fieldB l 6 1 ≠ 1 ∧ (s.pairCheck l (zeroB l 6 64) [1, 2, 3, 4] matches .error _) = true) ∧
    (let s := withCmd (hostQ Pair.none []) (opBytes 7)
     let l := (adm (opBytes 7) true).data
     Front s (adm (opBytes 7) true) 0x07 ∧
     (s.pairCheck l (zeroB l 6 33 && zeroB l 38 64 && !bit (fieldB l 33 1) 6) [1, 2, 3, 4] matches .error _) = true) ∧
    (let s := withCmd (hostQ Pair.none []) [6, 1, 0, 0, 0, 0, 1]
     let l := (adm [6, 1, 0, 0, 0, 0, 1] true).data
     Front s (adm [6, 1, 0, 0, 0, 0, 1] true) 0x06 ∧ fieldB l 6 1 = 1 ∧ fieldB l 1 1 ≠ 0) := by
  unfold Front; and_intros <;> first | decide +kernel | exact ⟨_, rfl, by decide +kernel⟩

/-- A direct TX entry of 60 bytes at host address 0; a buffer of 64 bytes; a D2H request of 8 bytes. -/
def txEnt (len : Nat) (sgl : Nat) : List Byte := [1, BitVec.ofNat 8 (4 + sgl), 0, 0] ++ leBytes 2 len ++ List.replicate 26 0
def bufEnt : List Byte := [2, 0, 0, 0, 64] ++ List.replicate 27 0
def d2hReq : List Byte := leBytes 8 dramBase ++ [8] ++ List.replicate 23 0
def mapped (p : Pair) : State :=
  let s := hostQ p [(F.QM_P9_MAP_EN 0, 1), (F.QM_P9_MAP_BASE 0, 4095), (F.QM_P9_MAP_SIZE 0, 0)]
  (withFrame s bytes60 []).setSch { s.sch with sel9 := some aToken }

theorem wit_HostTransfersAndTheLink :
    (let s := hostQ { pairOf 0 with ents := [⟨0, txEnt 60 0⟩] } []
     let p := s.pairOf 4095
     s.stopped = false ∧ s.qmRuns = true ∧ s.dmaOk = true ∧ s.yrdFenced = false ∧ p.kind = 0 ∧ p.state = 1 ∧ p.tsWait.length < p.cqFree ∧
     p.ents = [⟨0, txEnt 60 0⟩] ∧ txEntryOk (txEnt 60 0) p.cqWide = true ∧ bit (fieldB (txEnt 60 0) 1 1) 1 = false ∧
     (s.txGather (txEnt 60 0) matches .data _) = true) ∧
    (txEntryOk [] false = false) ∧
    (let s := (hostQ { pairOf 0 with ents := [⟨0, txEnt 0 1⟩] } []).hostW 0 (List.replicate 12 0 ++ [2, 0, 0, 0])
     txEntryOk (txEnt 0 1) (s.pairOf 4095).cqWide = true ∧ (s.txGather (txEnt 0 1) matches .fail 0x15) = true) ∧
    (let s := mapped (pairOf 1)
     s.stopped = false ∧ s.qmRuns = true ∧ s.dmaOk = true ∧ s.sch.sel9 = some aToken ∧ (s.frame aToken.frame).isSome = true ∧
     s.bf (F.QM_P9_MAP_EN aToken.tc) = true ∧ (s.sf (F.QM_P9_MAP_EN 0) 0).bf (F.QM_P9_MAP_EN aToken.tc) = false ∧
     s.gf (F.QM_P9_MAP_BASE aToken.tc) + aToken.hash % 256 % 2 ^ s.gf (F.QM_P9_MAP_SIZE aToken.tc) = 4095 ∧ (s.pairOf 4095).kind = 1 ∧
     (s.pairOf 4095).state = 1 ∧ (((s.fetchFor 4095 60 160).cleanBufs 4095).pairOf 4095).ents = []) ∧
    (let s := mapped { pairOf 1 with ents := [⟨0, bufEnt⟩] }
     let u := (s.fetchFor 4095 60 160).cleanBufs 4095
     (u.pairOf 4095).ents ≠ [] ∧ (u.pairOf 4095).cqFree ≠ 0 ∧ (fillBufs (u.pairOf 4095).ents (u.pairOf 4095).cqFree bytes60).2 = []) ∧
    (r0.stopped = false ∧ r0.sch.sel9 = none) ∧
    (let s := hostQ { pairOf 2 with d2h := [[]], ents := [⟨0, bufEnt⟩] } []
     let p := s.pairOf 4095
     s.stopped = false ∧ s.qmRuns = true ∧ s.dmaOk = true ∧ s.bf F.DMC_STAT_SREF = false ∧ p.kind = 2 ∧ p.state = 1 ∧ p.cqFree ≠ 0 ∧ p.d2h = [[]] ∧
     s.d2hOk [] = false) ∧
    (let s := hostQ { pairOf 2 with d2h := [d2hReq], ents := [⟨0, bufEnt⟩] } []
     let u := (s.fetchFor 4095 (fieldB d2hReq 8 3) (2 ^ (s.pairOf 4095).nSq)).cleanBufs 4095
     s.d2hOk d2hReq = true ∧ (u.pairOf 4095).ents ≠ [] ∧ (u.pairOf 4095).cqFree ≠ 0 ∧ (u.dramScan (fieldB d2hReq 0 8) (fieldB d2hReq 8 3)).2 = none) ∧
    (let s := { r0 with gctl := { r0.gctl with frozen := true } }
     s.stopped = true) ∧
    (let s := { r0 with gctl := { r0.gctl with perst := true } }
     s.stopped = false ∧ s.gctl.perst = true) ∧
    (let s := { r0 with gctl := { r0.gctl with perst := false } }
     s.stopped = false ∧ s.gctl.perst = false ∧ s.gf F.PWR_STAT_SH < 3) ∧
    (let s := hostQ (pairOf 0) [(F.QM_PCIE_STAT_MSIX_EN, 1), (F.QM_INT_CFG_PIN, 0)]
     let s := { QmIs s { s.qm with vecMask := 2 ^ 63 } with irq := { s.irq with pend := 2 ^ 63 }, gctl := { s.gctl with perst := false } }
     s.stopped = false ∧ s.gctl.perst = false ∧ s.gf F.PWR_STAT_PS = 0 ∧ s.bf F.QM_PCIE_STAT_LINK_UP = true ∧ s.dmaOk = true ∧ s.qm.posted = [] ∧
     s.msixMode = true ∧ s.qm.funcMask = false ∧ s.qm.vecMask = 2 ^ (63 : Fin 64).val ∧ s.irq.pend = 2 ^ (63 : Fin 64).val) ∧
    (Runs r0 ∧ r0.bf F.QM_STAT_RST_BUSY = false) ∧
    (let s := st [(F.QM_STAT_RST_BUSY, 1)]
     Runs s ∧ s.bf F.QM_STAT_RST_BUSY = true) ∧
    (¬ r0.bf F.QM_QSPI_CFG_MGMT_EN = true ∨ ¬ r0.bf F.GCTL_BOOT_STAT_DONE = true) ∧
    (let s := st [(F.GCTL_BOOT_STAT_DONE, 1), (F.QM_QSPI_CFG_MGMT_EN, 1)]
     s.stopped = false ∧ s.bf F.GCTL_BOOT_STAT_DONE = true ∧ s.bf F.QM_QSPI_CFG_MGMT_EN = true ∧
     ((0x3FFFFFC : BitVec 32).toNat % 4 = 0 ∧ (0x3FFFFFC : BitVec 32).toNat ≤ 0x3FFFFFF) ∧ ¬ (0x4000000 : BitVec 32).toNat ≤ 0x3FFFFFF) ∧
    (let s := withFrame r0 bytes60 []
     (s.newFrame (Frame.blank 9 bytes60) false).isSome = true ∧
     (st [(F.YRD_PORT_CFG_RSV 0, 32768), (F.YRD_PORT_CFG_RSV 9, 0)]).newFrame (Frame.blank 9 bytes60) false = none) ∧
    (bit (fieldB (txEnt 60 0) 1 1) 2 = true ∧ bit (fieldB [1] 1 1) 2 = false) ∧
    (let s := hostQ (pairOf 0) [(F.QM_CTL_EN, 0)]
     s.stopped = false ∧ s.qmRuns = false) ∧
    (let s := hostQ { pairOf 0 with ents := [⟨0, []⟩] } []
     s.qmRuns = true ∧ s.dmaOk = true ∧ s.yrdFenced = false ∧ (s.pairOf 4095).ents = [⟨0, []⟩] ∧ txEntryOk [] (s.pairOf 4095).cqWide = false) ∧
    (let s := (hostQ (pairOf 1) []).setSch { r0.sch with sel9 := some aToken }
     s.stopped = false ∧ s.qmRuns = true ∧ s.dmaOk = true ∧ s.sch.sel9 = some aToken ∧ s.frame aToken.frame = none) ∧
    (let s := mapped { pairOf 1 with ents := [⟨0, bufEnt⟩], cqP := 16 }
     ((s.fetchFor 4095 60 160).cleanBufs 4095 |>.pairOf 4095).cqFree = 0) ∧
    (let s := hostQ { pairOf 2 with d2h := [d2hReq] } []
     let p := s.pairOf 4095
     let q := ((s.fetchFor 4095 8 (2 ^ p.nSq)).cleanBufs 4095).pairOf 4095
     s.stopped = false ∧ s.qmRuns = true ∧ s.dmaOk = true ∧ s.dramUp = true ∧ s.dramIdle cQM = true ∧ p.kind = 2 ∧ p.state = 1 ∧ p.cqFree ≠ 0 ∧
     s.d2hOk d2hReq = true ∧ fieldB d2hReq 8 3 = 8 ∧ q.ents = [] ∧ q.state ≠ 2) ∧
    (let s := hostQ { pairOf 2 with d2h := [d2hReq], state := 2 } []
     let p := s.pairOf 4095
     let q := ((s.fetchFor 4095 8 (2 ^ p.nSq)).cleanBufs 4095).pairOf 4095
     q.ents = [] ∧ q.state = 2 ∧ q.sqP = q.sqC ∧ p.state = 2) ∧
    (let s := { st [(F.PWR_STAT_SH, 3)] with gctl := { r0.gctl with perst := false } }
     s.stopped = false ∧ 3 ≤ s.gf F.PWR_STAT_SH) ∧
    (let s := hostQ (pairOf 0) []
     let s := QmIs s { s.qm with posted := [(8, [1, 2])] }
     s.dmaOk = true ∧ s.qm.posted = [(8, [1, 2])]) ∧
    ((hostQ (pairOf 0) [(F.QM_PCIE_STAT_BME, 0)]).dmaOk = false) ∧
    (let s := st [(F.GCTL_BOOT_STAT_DONE, 1), (F.QM_QSPI_CFG_MGMT_EN, 1)]
     s.stopped = false ∧ s.vioA = true ∧ s.bf F.GCTL_BOOT_STAT_DONE = true ∧ s.bf F.QM_QSPI_CFG_MGMT_EN = true) := by
  unfold Runs; and_intros <;> decide +kernel

/-! ### Witnesses: sessions, faults, records -/

/-- SAX with a ready table of 256 sessions at 0, link 0 up; session `255` holds `v`. -/
def sessions (l : List (Fld × Nat)) (v : Sess) (f : SaxSt → SaxSt) : State :=
  let s := (st [(F.SAX_CTL_EN, 1), (F.SAX_STAT_READY, 1), (F.SAX_CFG_SIZE_LOG2, 8), (F.DMC_SIZE_USABLE, 64), (F.VOX_LINK_STAT_UP 0, 1)]).sfs l
  SaxIs (s.setSess 255 v) (f (s.setSess 255 v).sax)
def openSess : Sess := { Sess.blank with opn := true, ka := some 0, idle := some 0 }
/-- A session record with a header of index 255 and flags `b`. -/
def sessRec (b : Nat) : List Byte := [255, 0, 0, 0, BitVec.ofNat 8 b] ++ List.replicate 59 0

theorem wit_SessionTableOpensAndResets :
    (let s := (sessions [(F.SAX_CTL_EN, 0), (F.SAX_TBL_BASE_BASE, 0)] Sess.blank id)
     Sat s s ∧ s.safe = false ∧ s.bf F.SAX_CTL_EN = false ∧ s.saxRegion.1 + s.saxRegion.2 ≤ s.usable ∧ s.bf F.LFT_CTL_EN = false ∧
     s.bf F.EVR_SPILL_CTL_EN = false) ∧
    (let s := (sessions [(F.SAX_CTL_EN, 0), (F.DMC_SIZE_USABLE, 0)] Sess.blank id)
     Sat s s ∧ s.bf F.SAX_CTL_EN = false ∧ s.usable < s.saxRegion.1 + s.saxRegion.2) ∧
    (let s := sessions [] Sess.blank id
     Sat s s ∧ s.safe = false ∧ s.bf F.SAX_CTL_EN = true ∧ s.sax.clearing = false) ∧
    (let s := sessions [] Sess.blank (fun x => { x with clearing := true })
     Sat s s ∧ s.sax.clearing = true ∧ s.bf F.SAX_CTL_EN = true) ∧
    (let s := sessions [(F.SAX_CTL_EN, 0), (F.SAX_TBL_BASE_BASE, 0), (F.LFT_LOFT_BASE_BASE, 0), (F.LFT_CTL_EN, 1)] Sess.blank id
     Sat s s ∧ s.bf F.SAX_CTL_EN = false ∧ s.bf F.LFT_CTL_EN = true ∧ overlap s.saxRegion.1 s.saxRegion.2 s.loftRegion.1 s.loftRegion.2 = true) ∧
    (let s := sessions [(F.SAX_CTL_EN, 0), (F.SAX_TBL_BASE_BASE, 0), (F.EVR_SPILL_BASE_BASE, 0), (F.EVR_SPILL_CTL_EN, 1), (F.EVR_SPILL_CTL_SIZE_LOG2, 10)] Sess.blank id
     Sat s s ∧ s.bf F.EVR_SPILL_CTL_EN = true ∧
     overlap s.saxRegion.1 s.saxRegion.2 (s.gf F.EVR_SPILL_BASE_BASE * 2 ^ 13) (32 * s.spillSize) = true) ∧
    (let s := sessions [(F.SAX_CTL_EN, 0)] Sess.blank (fun x => { x with clearing := true })
     Sat s s ∧ s.safe = false ∧ s.bf F.SAX_CTL_EN = false ∧ s.sax.clearing = true) := by
  unfold Sat; and_intros <;> decide +kernel

theorem wit_SessionTimersAndRecords :
    (let s := sessions [] openSess id
     Sat s s ∧ (s.sess 255).ka = some 0 ∧ (s.sess 255).idle = some 0 ∧ Fires s 255 0 ∧ (s.sess 0).ka = none ∧ (s.sess 0).idle = none) ∧
    (let s := sessions [] openSess (fun x => { x with msCnt := 4096 })
     Sat s s ∧ s.saxReady = true ∧ s.saxHeld = false ∧ (s.sess 255).opn = true ∧ 0 ≤ s.tick ∧ s.sax.ms = s.tick / 250000 ∧ 4096 ≤ s.sax.msCnt ∧
     (s.sess 255).ka = some 0 ∧ (s.sess 255).idle = some 0) ∧
    (let s := sessions [] { openSess with opn := false } id
     Sat s s ∧ (s.sess 255).opn = false ∧ (s.sess 255).ka = some 0 ∧ (s.sess 255).idle = some 0) ∧
    ((r0.postEvent (r0.gf F.SAX_KA_Q_QUEUE) (255 + 1 * 2 ^ 17) 0x21).2 = true) ∧
    (let s := st [(F.QM_CTL_EN, 1)]
     (s.postEvent (s.gf F.SAX_KA_Q_QUEUE) (255 + 1 * 2 ^ 17) 0x21).2 = false) ∧
    (let s := sessions [(F.DMC_STAT_SREF, 1)] Sess.blank id
     Sat s s ∧ s.role ≠ rACTIVE ∧ s.saxReady = true ∧ s.linkUp 0 = true ∧ (sessRec 0).length = 64 ∧ s.saxHeld = true) ∧
    (let s := sessions [] Sess.blank id
     Sat s s ∧ s.role ≠ rACTIVE ∧ s.saxHeld = false ∧ s.saxReady = true ∧ bit ((sessRec 4).getD 4 0).toNat 2 = true ∧
     leNat (sliceB (sessRec 0) 0 4) < s.saxSize ∧ bit ((sessRec 2).getD 4 0).toNat 1 = true ∧ bit ((sessRec 1).getD 4 0).toNat 0 = true ∧
     bit ((sessRec 1).getD 4 0).toNat 1 = false) ∧
    (let s := sessions [(F.SAX_CFG_SIZE_LOG2, 0)] Sess.blank id
     Sat s s ∧ s.saxSize ≤ leNat (sliceB (sessRec 0) 0 4)) ∧
    (let s := sessions [(F.RED_ROLE_ROLE, 2)] Sess.blank (fun x => { x with active := true })
     Sat s s ∧ s.safe = false ∧ s.role = rACTIVE ∧ s.saxReady = true ∧ s.sax.resync = false) ∧
    (let s := sessions [(F.RED_ROLE_ROLE, 2)] openSess (fun x => { x with active := true, resync := true })
     Sat s s ∧ s.sax.resync = true ∧ s.saxHeld = false) ∧
    (let s := sessions [(F.SAX_STAT_READY, 0)] openSess id
     Sat s s ∧ s.saxReady = false ∧ (s.sess 255).ka = some 0 ∧ s.role ≠ rACTIVE) ∧
    (let s := sessions [(F.DMC_STAT_SREF, 1)] openSess id
     Sat s s ∧ s.saxHeld = true ∧ (s.sess 255).idle = some 0) ∧
    (let s := sessions [] { openSess with ka := some 1 } id
     Sat s s ∧ s.tick < 1 ∧ (s.sess 255).ka = some 1) ∧
    (let q := r0.gf F.SAX_KA_Q_QUEUE
     r0.heldOff q = true) ∧
    (let s := st [(F.QM_CTL_EN, 1)]
     let q := s.gf F.SAX_KA_Q_QUEUE
     s.heldOff q = false ∧ (∀ w ∈ s.qm.held, w.1 ≠ q) ∧ (s.deliverNow q (s.eventEntry (255 + 1 * 2 ^ 17) 0x8021)).2 = false) ∧
    (let s := (st [(F.QM_CTL_EN, 1)]).setIq 0 { Iq.none with made := true, event := true, log2N := 4 }
     let q := s.gf F.SAX_KA_Q_QUEUE
     s.heldOff q = false ∧ (∀ w ∈ s.qm.held, w.1 ≠ q) ∧ (s.deliverNow q (s.eventEntry (255 + 1 * 2 ^ 17) 0x8021)).2 = true) ∧
    (let s := sessions [] Sess.blank id
     Sat s s ∧ s.role ≠ rACTIVE ∧ s.saxReady = true ∧ s.linkUp 0 = true ∧ s.saxHeld = false ∧ (sessRec 1).length = 64 ∧ (sessRec 3).length = 64 ∧
     bit (leNat (sliceB (sessRec 0) 4 1)) 2 = false ∧ bit (leNat (sliceB (sessRec 0) 4 1)) 1 = false ∧ bit (leNat (sliceB (sessRec 0) 4 1)) 0 = false ∧
     bit (leNat (sliceB (sessRec 1) 4 1)) 2 = false ∧ bit (leNat (sliceB (sessRec 1) 4 1)) 1 = false ∧ bit (leNat (sliceB (sessRec 1) 4 1)) 0 = true ∧
     bit (leNat (sliceB (sessRec 3) 4 1)) 1 = true ∧ bit (leNat (sliceB (sessRec 7) 4 1)) 2 = true ∧ leNat (sliceB (sessRec 1) 0 4) = 255 ∧
     s.saxSize = 256 ∧ (s.sess 255).opn = false) ∧
    ((sessions [] openSess id).sess 255).opn = true ∧
    (let s := sessions [(F.VOX_LINK_STAT_UP 0, 0)] Sess.blank id
     Sat s s ∧ s.linkUp 0 = false) ∧
    (let s := sessions [(F.RED_ROLE_ROLE, 2)] openSess (fun x => { x with active := true, resync := true })
     s.linkUp 0 = true ∧ s.partnerLost = false ∧ s.sax.resync = true) ∧
    (let s := sessions [(F.RED_ROLE_ROLE, 2), (F.RED_ROLE_PARTNER_LOST, 1)] openSess (fun x => { x with active := true, resync := true })
     Sat s s ∧ s.saxHeld = false ∧ s.partnerLost = true) := by
  unfold Sat Fires; and_intros <;> decide +kernel

def aMsg : FaultMsg := ⟨63, 15, 2 ^ 48 - 1, true, 0⟩
def withFcu (s : State) (f : FcuSt → FcuSt) : State := FcuIs s (f s.fcu)
def aReact : React := ⟨55, 15, 1, true, true, 63, true, 1, 0⟩

theorem wit_FaultsAreTaken :
    (r0.stopped = false ∧ r0.fcu.inbox = []) ∧
    (let s := withFcu (st [(⟨R.FCU_CASCADE_MASK 0x30 1, 31, 0⟩, 2 ^ 31)]) (fun f => { f with inbox := [aMsg], inReset := [0x30] })
     NextFault s aMsg ∧ s.isCascade 63 = true) ∧
    (let s := withFcu r0 (fun f => { f with inbox := [aMsg] })
     NextFault s aMsg ∧ s.isCascade 63 = false ∧ s.bf F.FCU_FIRST_VALID = false ∧ realLater aMsg (leftOver s aMsg) = false) := by
  refine ⟨?_, ?_, ?_⟩ <;> ((try unfold NextFault); decide +kernel)

theorem wit_ReactionsStart :
    (r0.stopped = false ∧ (∀ r ∈ r0.fcu.react, r0.tick < r.due)) ∧
    (let s := withFcu r0 (fun f => { f with react := [aReact] })
     Reacts s aReact) ∧
    (r0.bf F.FCU_CFG_QEN = false ∧ fenceable 0x37 = true ∧ fenceable 0x3F = false ∧ r0.safe = false ∧ r0.gctl.frozen = false ∧ 3 < 4) ∧
    (let s := st [(F.FCU_STAT_SAFE, 1)]
     s.safe = true) ∧
    (let s := withFcu r0 (fun f => { f with react := [aReact, { aReact with kind := 14, byte := 0x28 }] })
     s.stopped = false ∧ 0 ≤ s.tick ∧ (∃ r ∈ s.fcu.react, r.due = 0) ∧ (∀ x ∈ s.fcu.react, x.due ≤ s.tick → 0 ≤ x.due)) ∧
    ((st [(F.FCU_FENCE_BITS 1, 2 ^ 23)]).fenced 0x37 = true ∧ r0.fenced 0x37 = false ∧ fenceable 0x17 = true ∧ r0.fenced 0x17 = false) := by
  unfold Reacts; and_intros <;> decide +kernel

theorem wit_FencesInjectionAndSafeState :
    (Runs r0 ∧ assignedSource (0x37 : BitVec 6).toNat = true ∧ assignedSource (0x3F : BitVec 6).toNat = false ∧
     assignedSource ((0x37 : BitVec 32).toNat % 256) = true ∧ assignedSource ((255 : BitVec 32).toNat % 256) = false) ∧
    (r0.stopped = false ∧ parityReg (0 : BitVec 26).toNat = false ∧ parityReg (BitVec.ofNat 26 (R.FCU_RCT 63 3)).toNat = true ∧ r0.fcu.pulseEnd = none ∧
     r0.fcu.pulseEnd.isSome = false) ∧
    (let s := withFcu r0 (fun f => { f with pulseEnd := some 1 })
     s.stopped = false ∧ s.fcu.pulseEnd = some 1 ∧ s.tick < 1 ∧ s.fcu.pulseEnd.isSome = true) ∧
    (let s := withFcu r0 (fun f => { f with pulseEnd := some 0 })
     s.fcu.pulseEnd = some 0 ∧ 0 ≤ s.tick ∧ s.fcu.holdOff = false) ∧
    (let s := withFcu r0 (fun f => { f with pulseEnd := some 0, holdOff := true })
     s.fcu.pulseEnd = some 0 ∧ s.fcu.holdOff = true) ∧
    (let s := st [(F.FCU_STAT_SAFE, 1)]
     s.stopped = false ∧ s.safe = true ∧ [Instr.evrBlockReset, .ftLookup, .icinv].contains .icinv = true) ∧
    (let s := st [(⟨R.FCU_FENCE 1, 31, 0⟩, 2 ^ 23), (⟨R.FCU_SRC_STAT 0x37, 31, 0⟩, 2), (⟨R.FCU_RCT 0x37 0, 31, 0⟩, 0x0808)]
     Runs s ∧ (0x37 : Fin 64).val / 32 = (1 : Fin 2).val ∧ bit (2 ^ 23 : BitVec 32).toNat ((0x37 : Fin 64).val % 32) = true ∧ s.fenceEvidence 0x37 = true) := by
  unfold Runs; and_intros <;> decide +kernel

def aRec (code : Nat) : ERec := ⟨0, 0, code, 63, 0, 1, 2⟩
def withEvr (s : State) (f : EvrSt → EvrSt) : State := EvrIs s (f s.evr)

theorem wit_RecordsAreAccepted :
    (r0.stopped = false ∧ r0.evr.offered = []) ∧
    (let s := withEvr (st [(F.EVR_RATE_LIMIT (codeIdx 0x1000), 0)]) (fun e => { e with offered := [aRec 0x1000] })
     Offers s (aRec 0x1000) ∧ s.rateOk (aRec 0x1000).code = false) ∧
    (let s := withEvr (st [(F.EVR_RATE_LIMIT (codeIdx 0x1000), 1)]) (fun e => { e with offered := [aRec 0x1000], head := 2 ^ 40 - 2, tail := 2 ^ 40 - 2 })
     Offers s (aRec 0x1000) ∧ s.rateOk (aRec 0x1000).code = true ∧ s.evr.tail ≤ s.evr.head ∧ s.evr.head + 1 < 2 ^ 40 ∧
     s.evr.resv.get (fun _ => none) s.evr.head = none) ∧
    (let s := st [(F.EVR_CFG_RATE_MS, 1)]
     s.stopped = false ∧ s.tick < s.evr.winStart + 250000 * max 1 (s.gf F.EVR_CFG_RATE_MS)) ∧
    (let s := at_ (st [(F.EVR_CFG_RATE_MS, 1)]) 250000
     s.stopped = false ∧ s.evr.winStart + 250000 * max 1 (s.gf F.EVR_CFG_RATE_MS) ≤ s.tick) := by
  refine ⟨?_, ?_, ?_, ?_, ?_⟩ <;> ((try unfold Offers); decide +kernel)

/-- One record on chip, at sequence 0. -/
def oneRec (s : State) : State := withEvr s (fun e => { e with head := 1, chip := e.chip.set (fun _ => none) 0 (some 7) })

theorem wit_SpillReservesAndMemoryFaults :
    (r0.stopped = false ∧ r0.bf F.EVR_SPILL_CTL_EN = false ∧ r0.evr.gap = none ∧ r0.bf F.LFT_CTL_EN = false) ∧
    (let s := oneRec (st [(F.EVR_SPILL_CTL_EN, 1)])
     s.stopped = false ∧ s.bf F.EVR_SPILL_CTL_EN = true ∧ s.bf F.DMC_STAT_SREF = false ∧ s.evr.spillNext < s.evr.head ∧ s.recAt s.evr.spillNext = some 7) ∧
    (let s := withEvr (st [(F.EVR_SPILL_CTL_EN, 1)]) (fun e => { e with head := 1 })
     s.bf F.EVR_SPILL_CTL_EN = true ∧ s.evr.spillNext < s.evr.head ∧ s.recAt s.evr.spillNext = none) ∧
    (let s := withEvr r0 (fun e => { e with gap := some (0, 1) })
     s.stopped = false ∧ s.evr.gap = some (0, 1) ∧ s.bf F.DMC_STAT_SREF = false) ∧
    (let s := st [(F.EVR_CTL_LOCK, 1)]
     Runs s ∧ s.bf F.EVR_CTL_LOCK = true) ∧
    (let s := st [(F.DMC_SIZE_USABLE, 64), (F.EVR_SPILL_BASE_BASE, 0)]
     Runs s ∧ s.bf F.EVR_CTL_LOCK = false ∧ s.spillOk (21 % 32) = true ∧ s.spillOk (22 % 32) = false) ∧
    (let s := st [(F.LFT_CTL_EN, 1), (F.SAX_CTL_EN, 1)]
     s.bf F.LFT_CTL_EN = true ∧ s.bf F.SAX_CTL_EN = true) ∧
    (let s := withFcu r0 (fun f => { f with inReset := [3] })
     Runs s ∧ 3 ∈ s.fcu.inReset) ∧
    (Runs r0 ∧ 3 ∉ r0.fcu.inReset ∧ (r0.sf F.EVR_STAT_TEST_BUSY 0).bf F.EVR_STAT_TEST_BUSY = false) ∧
    (let s := st [(F.EVR_STAT_TEST_BUSY, 1)]
     s.stopped = false ∧ s.bf F.EVR_STAT_TEST_BUSY = true) ∧
    (let s := st [(F.EVR_SPILL_CTL_EN, 1), (F.DMC_STAT_SREF, 1)]
     s.stopped = false ∧ s.dramUp = false) ∧
    (let s := oneRec (st [(F.EVR_SPILL_CTL_EN, 1)])
     s.stopped = false ∧ s.dramUp = true ∧ s.dramIdle cEVR = true ∧ s.evr.spillNext < s.evr.head ∧ s.recAt s.evr.spillNext = some 7) ∧
    (let s := withEvr r0 (fun e => { e with gap := some (0, 1) })
     s.dramUp = true ∧ s.evr.gap = some (0, 1)) ∧
    ((st [(F.EVR_STAT_RESERVE, 1)]).bf F.EVR_STAT_RESERVE = true ∧ (st [(F.EVR_STAT_RESERVE, 0)]).bf F.EVR_STAT_RESERVE = false) := by
  unfold Runs; and_intros <;> decide +kernel

theorem wit_CursorsMove :
    (r0.stopped = false ∧ r0.evr.cur.length = 4 ∧ r0.evr.head ≤ Cur r0 3 ∧ r0.evr.tail ≤ r0.evr.head ∧ Stands r0 r0.evr.tail) ∧
    (let s := oneRec r0
     s.stopped = false ∧ s.evr.cur.length = 4 ∧ Cur s 3 < s.evr.head ∧ Stands s (Cur s 3 + 1)) ∧
    (let s := withEvr r0 (fun e => { e with head := 2 })
     Cur s 3 < s.evr.head ∧ ¬ Stands s (Cur s 3 + 1) ∧ s.evr.tail ≤ s.evr.head ∧ ¬ Stands s s.evr.tail ∧ (s.recAt (Cur s 3)).isSome = false) ∧
    ((0 : BitVec 4) = 0 ∧ (9 : BitVec 4) ≠ 0 ∧ 6 < 7 ∧ 0x2C ≤ 0xFFF) ∧
    (let s := oneRec r0
     s.recAt (Cur s 3) = some 7 ∧ s.evr.tail ≤ s.evr.head ∧ Stands s s.evr.tail) ∧
    (let s := withEvr (oneRec r0) (fun e => { e with head := 2, cur := [0, 0, 0, 1] })
     s.evr.cur.length = 4 ∧ Cur s 3 < s.evr.head ∧ (s.recAt (Cur s 3)).isSome = false) := by
  unfold Stands; and_intros <;> decide +kernel

/-! ### Power -/

def withPwr (s : State) (f : PwrSt → PwrSt) : State := { s with pwr := f s.pwr }
/-- In power state 2 with the keepalive of an open session due at cycle `n`. -/
def ps2 (n : Nat) : State := (st [(F.PWR_STAT_PS, 2)]).setSess 5 { Sess.blank with opn := true, ka := some n }

theorem wit_PowerStatesAndWakes :
    (let s := withPwr r0 (fun p => { p with wakeDue := some 9 })
     s.stopped = false ∧ s.pwr.wakeDue.isSome = true) ∧
    (r0.stopped = false ∧ r0.pwr.wakeDue = none) ∧
    (let s := st [(F.PWR_STAT_PS, 2), (F.BRN_CTL_EN 0, 1)]
     s.stopped = false ∧ s.pwr.wakeDue = none ∧ s.psSelect ≤ s.gf F.PWR_STAT_PS) ∧
    (let s := st [(F.PWR_STAT_PS, 2), (F.PWR_CTL_PS_MAX, 1)]
     s.stopped = false ∧ s.pwr.wakeDue = none ∧ s.psSelect < s.gf F.PWR_STAT_PS) ∧
    (r0.gf F.PWR_STAT_PS = 0) ∧
    ((st [(F.PWR_STAT_PS, 4)]).gf F.PWR_STAT_PS ≠ 0) ∧
    (r0.stopped = false ∧ (r0.gf F.PWR_STAT_PS = 0 ∨ r0.nextTimed 0 = none)) ∧
    (let s := ps2 20000
     s.stopped = false ∧ s.nextTimed 2 = some 20000 ∧ wakeTicks 2 < 20000 ∧ s.gf F.PWR_STAT_PS = 2) ∧
    (let s := ps2 12500
     s.stopped = false ∧ s.nextTimed 2 = some 12500 ∧ s.gf F.PWR_STAT_PS = 2 ∧ 12500 ≤ wakeTicks 2) ∧
    (let s := withPwr r0 (fun p => { p with wakeDue := some 9 })
     s.stopped = false ∧ s.pwr.wakeDue = some 9 ∧ s.tick < 9) ∧
    (let s := withPwr (st [(F.PWR_STAT_SH, 2)]) (fun p => { p with wakeDue := some 0 })
     let u := ({ s with pwr := { s.pwr with wakeDue := none } } : State).powerBack.dramBack
     s.stopped = false ∧ s.pwr.wakeDue = some 0 ∧ 0 ≤ s.tick ∧ u.gf F.PWR_STAT_SH = 2 ∧ u.lftShed = false) ∧
    (let s := withPwr r0 (fun p => { p with wakeDue := some 0 })
     let u := ({ s with pwr := { s.pwr with wakeDue := none } } : State).powerBack.dramBack
     s.stopped = false ∧ s.pwr.wakeDue = some 0 ∧ 0 ≤ s.tick ∧ (u.gf F.PWR_STAT_SH ≠ 2 ∨ u.lftShed = true)) ∧
    Runs r0 ∧
    (let s := { st [] with sax := { SaxSt.init with dark := true } }
     s.gf F.PWR_STAT_SH < 3 ∧ s.gf F.PWR_STAT_PS < 3 ∧ s.sax.dark = true ∧ s.bf F.SAX_CTL_EN = false ∧
     (s.sf F.SAX_CTL_EN 1).bf F.SAX_CTL_EN = true ∧ r0.sax.dark = false) ∧
    (let s := st [(F.DMC_STAT_SREF, 1)]
     s.gf F.PWR_STAT_PS < 2 ∧ s.shedDram = false ∧ s.bf F.DMC_STAT_SREF = true) ∧
    ((st [(F.PWR_STAT_SH, 3)]).shedDram = true ∧ 15 < 16) := by
  unfold Runs; and_intros <;> decide +kernel

theorem wit_ShedLevelsFallAndReturn :
    (r0.stopped = false ∧ r0.gf (F.PWR_SH_THR_FALL 0) ≤ 3200) ∧
    (let s := st [(F.PWR_STAT_SH, 4)]
     s.stopped = false ∧ 4 < s.gf F.PWR_STAT_SH + 1) ∧
    (r0.stopped = false ∧ 3199 < r0.gf (F.PWR_SH_THR_FALL 0) ∧ r0.gf F.PWR_STAT_SH + 1 = 1) ∧
    (let s := st [(F.PWR_STAT_SH, 1)]
     s.stopped = false ∧ s.gf F.PWR_STAT_SH + 1 = 2 ∧ 2999 < s.gf (F.PWR_SH_THR_FALL 1) ∧ s.gf F.PWR_STAT_PS < 3) ∧
    (let s := st [(F.PWR_STAT_SH, 2)]
     s.stopped = false ∧ s.gf F.PWR_STAT_SH + 1 = 3 ∧ 2849 < s.gf (F.PWR_SH_THR_FALL 2)) ∧
    (let s := st [(F.PWR_STAT_SH, 3)]
     s.stopped = false ∧ s.gf F.PWR_STAT_SH = 3 ∧ 2719 < s.gf (F.PWR_SH_THR_FALL 3)) ∧
    (r0.gf F.PWR_STAT_SH ≠ 3) ∧
    (let s := st [(F.PWR_STAT_SH, 1)]
     s.stopped = false ∧ 3260 ≤ s.gf (F.PWR_SH_THR_FALL 0) + 60) ∧
    (let s := st [(F.PWR_STAT_SH, 1)]
     s.stopped = false ∧ s.gf F.PWR_STAT_SH = 1 ∧ s.gf (F.PWR_SH_THR_FALL 0) + 60 < 3261) ∧
    (let s := st [(F.PWR_STAT_SH, 2)]
     s.stopped = false ∧ s.gf F.PWR_STAT_SH = 2 ∧ s.gf (F.PWR_SH_THR_FALL 1) + 60 < 3061) ∧
    (let s := st [(F.PWR_STAT_SH, 3)]
     s.stopped = false ∧ s.gf F.PWR_STAT_SH = 3 ∧ s.gf (F.PWR_SH_THR_FALL 2) + 60 < 2911) ∧
    (let s := st [(F.PWR_STAT_SH, 2), (F.LFT_STAT_SHED, 1)]
     s.stopped = false ∧ 2 ≤ s.gf F.PWR_STAT_SH ∧ s.shedSealReady = true) ∧
    (r0.stopped = false ∧ r0.gf F.PWR_STAT_SH < 2 ∧ r0.shedSealReady = false) ∧
    (Runs r0 ∧ 2999 < r0.gf (F.PWR_SH_THR_FALL 1) ∧ r0.gf (F.PWR_SH_THR_FALL 0) ≤ 3200 ∧ 5440 < 5441) ∧
    (Runs r0 ∧ ¬ (3199 < r0.gf (F.PWR_SH_THR_FALL 1) ∨ r0.gf (F.PWR_SH_THR_FALL 0) ≤ 3199) ∧ ¬ 5440 < r0.gf (F.PWR_SH_THR_FALL 0)) ∧
    (let s := st [(F.PWR_STAT_SH, 4)]
     s.stopped = false ∧ s.gf F.PWR_STAT_SH = 4 ∧ s.gf (F.PWR_SH_THR_RISE 0) < 3261 ∧ 3260 ≤ s.gf (F.PWR_SH_THR_RISE 0)) ∧
    (r0.gctl.brown = false ∧ 2619 < 2620 ∧ 2620 ≤ 2620) ∧
    (let s : State := { r0 with gctl := { r0.gctl with brown := true } }
     s.gctl.brown = true ∧ 1799 < 1800 ∧ 3260 < 3261) ∧
    (let s := st [(F.PWR_STAT_SH, 3)]
     s.stopped = false ∧ s.gf F.PWR_STAT_SH = 3 ∧ waitingOf 0x8002 s.evr.offered < 4 ∧ s.gf F.PWR_STAT_PS ≠ 4) ∧
    (let s := st [(F.PWR_STAT_SH, 1), (F.ETH_CTL_NONCRIT 7, 1), (F.RED_TWIN_CFG_SHED_SWAP, 0)]
     s.stopped = false ∧ s.bf (F.ETH_CTL_NONCRIT 7) = true ∧ s.lftEn = false ∧ s.bf F.RED_TWIN_CFG_SHED_SWAP = false) ∧
    (let s := st [(F.PWR_STAT_SH, 0), (F.ETH_CTL_EN 7, 1), (F.ETH_MODE_MODE 7, 1)]
     s.bf (F.ETH_CTL_EN 7) = true ∧ s.gf (F.ETH_MODE_MODE 7) = 1 ∧ s.bf (F.ETH_CTL_NONCRIT 7) = false) ∧
    (let s := st [(F.PWR_STAT_SH, 1), (F.LFT_CTL_EN, 1), (F.RED_TWIN_CFG_SHED_SWAP, 1), (F.PWR_STAT_PS, 0)]
     s.stopped = false ∧ s.gf F.PWR_STAT_PS < 3 ∧ s.lftEn = true ∧ s.bf F.RED_TWIN_CFG_SHED_SWAP = true ∧ s.red.peerShed < 2) ∧
    (let s := twin 2 [(F.RED_TWIN_CFG_SHED_SWAP, 1), (F.PWR_STAT_SH, 1)] id
     s.stopped = false ∧ s.hoOk = true ∧ s.role = rACTIVE ∧ s.red.ho = 0 ∧ s.red.peerShed < 2) ∧
    ((st [(F.PWR_STAT_SH, 2), (F.VOX_LINK_STAT_UP 0, 1)]).linkUp 0 = true) := by
  unfold Runs; and_intros <;> decide +kernel

theorem wit_RailsAndTemperature :
    (r0.stopped = false ∧ (∀ i < 4, bit (r0.gf F.PWR_RAIL_STAT_GOOD) i = true → bit 15 i = true)) ∧
    (let s := st [(F.PWR_RAIL_STAT_GOOD, 15)]
     s.stopped = false ∧ bit (s.gf F.PWR_RAIL_STAT_GOOD) 1 = true ∧ bit 13 1 = false) ∧
    (let s : State := { r0 with gctl := { r0.gctl with inReset := true } }
     s.stopped = true) ∧
    (r0.stopped = false ∧ r0.pwr.hot = false ∧ r0.tjLimit ≤ (BitVec.toInt 2000#16) ∧ r0.bf F.PWR_CTL_THERM_SH1 = false) ∧
    (let s := withPwr (st [(F.PWR_CTL_THERM_SH1, 1)]) (fun p => { p with hot := true })
     s.stopped = false ∧ s.pwr.hot = true ∧ s.tjLimit ≤ (BitVec.toInt 2000#16) ∧ s.bf F.PWR_CTL_THERM_SH1 = true) ∧
    (BitVec.toInt 0#16 ≤ r0.tjLimit - 80) ∧
    (r0.tjLimit - 80 < r0.tjLimit - 40 ∧ r0.tjLimit - 40 < r0.tjLimit) ∧
    (let s := bus 4 320 [] (fun z => { z with tx := some (sending 310 400 590) })
     s.stopped = false ∧ s.ztt.tx = some (sending 310 400 590) ∧ bit (14 : BitVec 4).toNat 0 = false ∧ bit (13 : BitVec 4).toNat 1 = false) ∧
    (let s := st [(F.PWR_CTL_THERM_SH1, 1), (F.ETH_CTL_EN 7, 1), (F.ETH_MODE_MODE 7, 1)]
     s.stopped = false ∧ s.gf F.PWR_STAT_SH = 0 ∧ s.bf (F.ETH_CTL_EN 7) = true ∧ s.gf (F.ETH_MODE_MODE 7) = 1) := by
  and_intros <;> decide +kernel

/-! ### Resets, boot, debug and access -/

def withGctl (s : State) (f : GctlSt → GctlSt) : State := GctlIs s (f s.gctl)
def withSec (s : State) (f : SecSt → SecSt) : State := SecIs s (f s.sec)
def atTick (s : State) (n : Nat) : State := { s with tick := n }

theorem wit_ResetsHoldAndRelease :
    (r0.gctl.rstLow = none) ∧
    (let s := atTick (withGctl r0 (fun g => { g with rstLow := some 7 })) 257
     s.gctl.rstLow.isSome = true ∧ s.gctl.rstLow = some 7 ∧ 7 + 250 ≤ s.tick) ∧
    (let s := atTick (withGctl r0 (fun g => { g with rstLow := some 7 })) 256
     s.gctl.rstLow = some 7 ∧ s.tick < 7 + 250) ∧
    (¬ (r0.gctl.inReset = true)) ∧
    (let s := atTick (withSec (withGctl r0 (fun g => { g with inReset := true, relFrom := 5 })) (fun x => { x with relWait := true })) 25005
     s.gctl.inReset = true ∧ s.gctl.rstLow = none ∧ s.gctl.brown = false ∧ s.gctl.frzLow = false ∧ s.gctl.relFrom + 25000 ≤ s.tick ∧
     s.sec.relWait = true) ∧
    (Asks r0 (wakeBy .host r0) .host ∧ 0xA5000001 / 2 ^ 24 = 0xA5 ∧ 0xA4000001 / 2 ^ 24 ≠ 0xA5 ∧ Writer.host.mayControl r0 = true ∧
     (st [(F.GCTL_BOOT_STAT_DONE, 0)]).bf F.GCTL_BOOT_STAT_DONE = false) ∧
    (let s := st [(F.GCTL_BOOT_STAT_DONE, 1), (F.PWR_STAT_PS, 2)]
     Asks s (wakeBy .host s) .host ∧ Writer.host.mayControl s = true ∧ s.safe = false ∧ s.bf F.GCTL_BOOT_STAT_DONE = true) ∧
    (Asks run (wakeBy (.thread 0) run) (.thread 0) ∧ (Writer.thread 0).mayControl run = false) ∧
    (let s := st [(F.SEC_STAT_LEVEL, 1)]
     s.stopped = false ∧ s.asks .mgmt = false ∧ s.dbgLevel ≠ 2) ∧
    (r0.gctl.inReset = false ∧ r0.gctl.frozen = false) ∧
    (let s := withGctl r0 (fun g => { g with inReset := true })
     s.gctl.inReset = true) ∧
    (let s := withGctl r0 (fun g => { g with frozen := true })
     s.gctl.frozen = true ∧ s.gctl.inReset = false) ∧
    (r0.vioA = true ∧ r0.gctl.rstLow = none ∧ r0.ztt.tx = none ∧ waitingOf 0x8001 r0.evr.offered < 4 ∧ r0.gf F.PWR_STAT_PS ≠ 4 ∧
     waitingOf 0x8004 r0.evr.offered < 4) ∧
    ((st [(F.PWR_RAIL_STAT_GOOD, 0)]).vioA = false ∧ (st [(F.PWR_RAIL_STAT_GOOD, 0)]).gctl.inReset = false) ∧
    ((st [(F.SEC_STAT_LEVEL, 2)]).dbgLevel ≠ 0) ∧
    (let s := bus 4 320 [] (fun z => { z with tx := some (sending 310 400 590) })
     s.vioA = true ∧ s.gctl.inReset = false ∧ s.gctl.frozen = false ∧ s.ztt.tx = some (sending 310 400 590)) ∧
    (let s := slot r0 aLoad
     (s.thr 0).txns = [aLoad] ∧ aLoad.isAccess = true) ∧
    (let s := withSec (withGctl (atTick r0 25000) (fun g => { g with inReset := true, relFrom := 0 })) (fun x => { x with relWait := false })
     s.gctl.inReset = true ∧ s.gctl.rstLow = none ∧ s.gctl.brown = false ∧ s.gctl.frzLow = false ∧ s.gctl.relFrom + 25000 ≤ s.tick ∧ s.sec.relWait = false) := by
  unfold Asks; and_intros <;> decide +kernel

/-- A signed image of one empty code section: part, SVN, key slot, and the section's offset. -/
def image (part svn key off : Nat) : List Byte :=
  leBytes 4 0x314C4B58 ++ leBytes 2 1 ++ leBytes 2 1 ++ leBytes 4 448 ++ leBytes 2 part ++ leBytes 2 2 ++ leBytes 1 svn ++ leBytes 1 key ++
  leBytes 2 0 ++ leBytes 4 7 ++ List.replicate 104 0 ++ leBytes 4 1 ++ leBytes 4 off ++ List.replicate 312 0

/-- Fuses that hold the key of `l` in slot 0. -/
def fusesFor (l : List Byte) (svn : Nat) : Fuses :=
  { r0.gctl.fuses with keyHash := [Config.sha256 (sliceB l 32 64)], prog := 1, revoked := 0, svnMin := svn }

/-- Boot waits in phase `p`. -/
def b0 : State := st [(F.GCTL_BOOT_STAT_DONE, 0)]
def phase (p : Nat) : State := withGctl b0 (fun g => { g with phase := p })
def fitted (g : GctlSt) : GctlSt := { g with dramMiB := 2048, dramOk := true, fuses := { g.fuses with grade := 1 } }

theorem key_of (part svn off n : Nat) (h : imgN (image part svn 0 off) 17 1 = 0) :
    keyOk (fusesFor (image part svn 0 off) n) (image part svn 0 off) = true := by
  simp only [keyOk, h, fusesFor]
  simp [bit]

/-- The hash and the signature check are open constants: what an image's signature is decides which of the last clauses it meets. -/
theorem wit_BootRomAndImages :
    (let s := st [(F.GCTL_BOOT_STAT_DONE, 1)]
     s.stopped = false ∧ s.bf F.GCTL_BOOT_STAT_DONE = true) ∧
    (let s := withGctl b0 (fun g => { fitted g with phase := 0, fuses := { g.fuses with grade := 3 } })
     s.stopped = false ∧ ¬ (s.gctl.phase ≠ 0 ∨ s.gctl.reloadDue = true ∨ s.bf F.GCTL_BOOT_STAT_DONE = true) ∧ s.gctl.fuses.grade = 3) ∧
    (let s := withGctl (st [(F.GCTL_BOOT_STAT_DONE, 0), (F.GCTL_BOOT_STAT_BOOT_SEL, 3)]) (fun g => { fitted g with phase := 0 })
     s.stopped = false ∧ ¬ (s.gctl.phase ≠ 0 ∨ s.gctl.reloadDue = true ∨ s.bf F.GCTL_BOOT_STAT_DONE = true) ∧
     ¬ (s.gctl.fuses.grade = 0 ∨ s.gctl.fuses.grade = 3) ∧ s.gf F.GCTL_BOOT_STAT_BOOT_SEL = 3) ∧
    (let s := withGctl b0 (fun g => { fitted g with phase := 0, dramOk := false })
     s.stopped = false ∧ ¬ (s.gctl.phase ≠ 0 ∨ s.gctl.reloadDue = true ∨ s.bf F.GCTL_BOOT_STAT_DONE = true) ∧
     ¬ (s.gctl.fuses.grade = 0 ∨ s.gctl.fuses.grade = 3) ∧ s.gf F.GCTL_BOOT_STAT_BOOT_SEL ≠ 3 ∧ s.gctl.dramOk = false) ∧
    ((∀ sel < 3, (st [(F.GCTL_BOOT_STAT_BOOT_SEL, sel)]).gf F.GCTL_BOOT_STAT_BOOT_SEL = sel) ∧
     let s := withGctl b0 (fun g => { fitted g with phase := 0 })
     s.stopped = false ∧ ¬ (s.gctl.phase ≠ 0 ∨ s.gctl.reloadDue = true ∨ s.bf F.GCTL_BOOT_STAT_DONE = true) ∧
     ¬ (s.gctl.fuses.grade = 0 ∨ s.gctl.fuses.grade = 3) ∧ s.gctl.dramOk = true) ∧
    ((phase 3).stopped = false ∧ (phase 3).gctl.phase ≠ 1 ∧ (phase 3).gctl.phase ≠ 2 ∧ (phase 3).gctl.phase ≠ 4) ∧
    (∀ p, p = 1 ∨ p = 2 ∨ p = 4 → (phase p).stopped = false ∧ (phase p).gctl.phase = p ∧
      (phase p).bootJudge false none [] ≠ 0) ∧
    (headerOk [] = false ∧ ¬ (∀ n, some 449 = some n → n = imgLen (image 0x7128 3 0 384))) ∧
    (headerOk (image 0x7127 3 0 384) = true ∧ imgN (image 0x7127 3 0 384) 12 2 ≠ 0x7128) ∧
    (headerOk (image 0x7128 3 4 384) = true ∧ (∀ n, some 448 = some n → n = imgLen (image 0x7128 3 4 384)) ∧
     imgN (image 0x7128 3 4 384) 12 2 = 0x7128 ∧ bit (imgN (image 0x7128 3 4 384) 14 2) 1 = true ∧
     keyOk r0.gctl.fuses (image 0x7128 3 4 384) = false) ∧
    (let l := image 0x7128 3 0 384
     headerOk l = true ∧ imgN l 12 2 = 0x7128 ∧ bit (imgN l 14 2) 1 = true ∧ keyOk (fusesFor l 4) l = true ∧ imgN l 16 1 < (fusesFor l 4).svnMin) ∧
    (let l := image 0x7128 3 0 384
     headerOk l = true ∧ imgN l 12 2 = 0x7128 ∧ bit (imgN l 14 2) 1 = true ∧ keyOk (fusesFor l 3) l = true ∧
     (fusesFor l 3).svnMin ≤ imgN l 16 1 ∧ sectionsOk l = true ∧ (sigOk l = false ∨ sigOk l = true)) ∧
    (let l := image 0x7128 3 0 368
     headerOk l = true ∧ imgN l 12 2 = 0x7128 ∧ bit (imgN l 14 2) 1 = true ∧ keyOk (fusesFor l 3) l = true ∧
     (fusesFor l 3).svnMin ≤ imgN l 16 1 ∧ sectionsOk l = false ∧ (sigOk l = false ∨ sigOk l = true)) ∧
    (Runs (phase 0) ∧ (phase 0).gctl.phase ≠ 3) ∧
    (Runs (phase 3) ∧ (phase 3).gctl.phase = 3 ∧ (phase 3).gctl.perst = false ∧ (phase 3).bootJudge false (some 1) [] ≠ 0) ∧
    (r0.stopped = false ∧ r0.gctl.twinRetry = none) ∧
    (let s := withGctl (phase 4) (fun g => { g with twinRetry := some 8 })
     s.stopped = false ∧ s.gctl.twinRetry = some 8 ∧ s.gctl.phase = 4 ∧ s.tick < 8 ∧ 8 ≤ (atTick s 8).tick ∧ (atTick s 8).linkUp 0 = false) ∧
    (let s := withGctl (b0.sf (F.VOX_LINK_STAT_UP 0) 1) (fun g => { g with phase := 4, twinRetry := some 0 })
     s.stopped = false ∧ s.gctl.twinRetry = some 0 ∧ s.gctl.phase = 4 ∧ 0 ≤ s.tick ∧ s.linkUp 0 = true) ∧
    (let s := withGctl (st [(F.GCTL_BOOT_STAT_DONE, 1)]) (fun g => { g with imgFlags := 2 })
     s.stopped = false ∧ s.bf F.GCTL_BOOT_STAT_DONE = true ∧ bit s.gctl.imgFlags 1 = true) ∧
    (b0.bf F.GCTL_BOOT_STAT_DONE = false) ∧
    (r0.stopped = false ∧ r0.gctl.reloadDue = false) ∧
    (let s := withGctl b0 (fun g => { g with reloadDue := true, staged := true })
     s.stopped = false ∧ s.gctl.reloadDue = true ∧ s.gctl.staged = true ∧ (r0.bootJudge true none (r0.rdB r0.stagingAddr 384)) ≠ 0) ∧
    (let s := withGctl b0 (fun g => { g with reloadDue := true, staged := false })
     s.stopped = false ∧ s.gctl.reloadDue = true ∧ s.gctl.staged = false) := by
  refine ⟨?_, ?_, ?_, ?_, ?_, ?_, ?_, ?_, ?_, ?_, ⟨?_, ?_, ?_, key_of _ _ _ _ (by decide +kernel), ?_⟩,
    ⟨?_, ?_, ?_, key_of _ _ _ _ (by decide +kernel), ?_, ?_, (by cases sigOk _ <;> simp)⟩,
    ⟨?_, ?_, ?_, key_of _ _ _ _ (by decide +kernel), ?_, ?_, (by cases sigOk _ <;> simp)⟩,
    ?_, ?_, ?_, ?_, ?_, ?_, ?_, ?_, ?_, ?_⟩
  case refine_7 => rintro p (rfl | rfl | rfl) <;> decide +kernel
  case refine_8 => exact ⟨by decide +kernel, fun h => absurd (h 449 rfl) (by decide +kernel)⟩
  case refine_10 => exact ⟨by decide +kernel, fun n h => by cases h; decide +kernel, by decide +kernel⟩
  all_goals ((try unfold Runs); decide +kernel)

/-- What a boot passes on: sections of each type, records, and what they need of the state. -/
theorem wit_BootRomAndImages_parts :
    (let f : Fuses := { r0.gctl.fuses with prog := 1, revoked := 0, svnMin := 0 }
     bit f.prog 0 = true ∧ bit f.revoked 0 = false ∧ 0 < 4) ∧
    ((⟨1, 0, 384, 0⟩ : Section).typ = 1 ∧ (⟨2, 0, 384, 0⟩ : Section).typ = 2 ∧ (⟨3, 0, 384, 0⟩ : Section).typ = 3 ∧
     (⟨4, 0, 384, 0⟩ : Section).typ ≠ 1 ∧ (⟨4, 0, 384, 0⟩ : Section).typ ≠ 2 ∧ (⟨4, 0, 384, 0⟩ : Section).typ ≠ 3) ∧
    (0x7FFFF + [(1 : Byte)].length ≤ 0x80000 ∧ b0.ecc = []) ∧
    (b0.gctl.dramOk = false ∨ b0.gctl.dramOk = true) ∧
    ((b0.sf F.GCTL_BOOT_STAT_BOOT_SEL 2).gf F.GCTL_BOOT_STAT_BOOT_SEL = 2 ∧ (b0.sf F.GCTL_BOOT_STAT_BOOT_SEL 2).linkUp 0 = false ∧
     ((b0.sf F.GCTL_BOOT_STAT_BOOT_SEL 2).sf (F.VOX_LINK_STAT_UP 0) 1).linkUp 0 = true) ∧
    (R.EVR_CTL % 4 = 0 ∧ (lockRegs.contains R.EVR_CTL) = true ∧ bit 0x80000000 31 = true ∧ bit 0x7FFFFFFF 31 = false) ∧
    (∀ o ∈ b0.gctl.heldLocks, o ∈ lockRegs) ∧
    ((b0.thr 511).st = 0 ∧ b0.bf (F.BRN_STAT_RST_BUSY (barnOf 511)) = false ∧ bit (b0.gf (F.BRN_ENG_DIS_DIS (barnOf 511))) (engOf 511) = false) ∧
    (let s := withGctl (phase 3) (fun g => { g with perst := false })
     Runs s ∧ s.gctl.phase = 3 ∧ s.gctl.perst = false) := by
  unfold Runs; and_intros <;> decide +kernel

/-- Sixteen bytes that are not the answer to nonce `n`. -/
def wrongAnswer (s : State) (n : List Byte) : List Byte :=
  if s.dbgAnswer n = List.replicate 16 0 then List.replicate 16 1 else List.replicate 16 0

theorem wrong_answer (s t : State) (n : List Byte) (h : t.dbgAnswer n = s.dbgAnswer n) (d : t.sec.data = wrongAnswer s n) :
    ¬ t.dbgAnswer n = sliceB t.sec.data 0 16 := by
  rw [h, d]
  unfold wrongAnswer
  split
  · next e => rw [e]; decide
  · next e => exact e

/-- The answer is the first sixteen bytes of an HMAC, an open constant. -/
theorem right_answer (s : State) (n : List Byte) (h : (s.dbgAnswer n).length = 16) (d : s.sec.data = s.dbgAnswer n) :
    s.dbgAnswer n = sliceB s.sec.data 0 16 := by
  rw [d]
  simp [sliceB, h, List.take_of_length_le (Nat.le_of_eq h)]

/-- After reset, with no wait in force. -/
def d0 : State := withSec r0 (fun x => { x with waitEnd := none })

theorem wit_DebugAndFuses :
    (let s := withSec d0 (fun x => { x with waitEnd := some 9 })
     Debugs s .host ∧ Debugs s .jtag ∧ s.backoff = true) ∧
    (Debugs d0 .host ∧ d0.backoff = false ∧ d0.gctl.ownerHash.all (· == 0) = true) ∧
    (let s := withGctl d0 (fun g => { g with ownerHash := Config.sha256 (sliceB d0.sec.data 0 16) })
     s.backoff = false ∧ Config.sha256 (sliceB s.sec.data 0 16) = s.gctl.ownerHash) ∧
    (let s := withGctl d0 (fun g => { g with ownerHash := 1 :: Config.sha256 (sliceB d0.sec.data 0 16) })
     s.backoff = false ∧ ¬ s.gctl.ownerHash.all (· == 0) = true ∧ ¬ Config.sha256 (sliceB s.sec.data 0 16) = s.gctl.ownerHash) ∧
    (d0.backoff = false ∧ d0.nonceNow = none) ∧
    (let n := List.replicate 16 (0 : Byte)
     let s := withSec d0 (fun x => { x with nonce := some (n, 9), data := wrongAnswer d0 n })
     s.backoff = false ∧ s.nonceNow = some n ∧ ¬ s.dbgAnswer n = sliceB s.sec.data 0 16) ∧
    (∀ flags, flags = 16 ∨ flags = 0 → (d0.dbgAnswer []).length = 16 →
     let s := withGctl (withSec d0 (fun x => { x with nonce := some ([], 9), data := d0.dbgAnswer [] })) (fun g => { g with imgFlags := flags })
     s.backoff = false ∧ s.nonceNow = some [] ∧ s.dbgAnswer [] = sliceB s.sec.data 0 16 ∧ s.dbgDeny = decide (flags = 16)) ∧
    (Runs run ∧ run.ctlWr 0 = false ∧ (st [(F.BRN_PAD_CTL_CTL_WR 0, 1)]).ctlWr 0 = true) ∧
    (d0.gctl.inReset = false ∧ d0.sec.nonce = none ∧ d0.sec.waitEnd = none) ∧
    (let s := withSec r0 (fun x => { x with nonce := some ([], 9), waitEnd := some 9 })
     s.gctl.inReset = false ∧ s.sec.nonce = some ([], 9) ∧ s.tick < 9 ∧ s.sec.waitEnd = some 9) ∧
    (let s := withGctl (withSec r0 (fun x => { x with nonce := some ([], 0), waitEnd := some 0 })) (fun g => { g with frozen := true })
     s.gctl.frozen = true ∧ s.sec.nonce = some ([], 0) ∧ 0 ≤ s.tick ∧ s.sec.waitEnd = some 0) ∧
    (FuseAsked r0 (wakeBy .host r0) .host 0x5C000041 ∧ r0.gf F.GCTL_BOOT_STAT_SVN < 1) ∧
    (FuseAsked r0 (wakeBy .host r0) .host 0x5C000040 ∧ ¬ r0.gf F.GCTL_BOOT_STAT_SVN < 0 ∧ ¬ 0 < r0.gctl.fuses.svnMin ∧
     bit (0x5C000040 / 2 ^ 20 % 16) r0.gctl.keySlot = false) ∧
    (let s := withGctl (st [(F.GCTL_BOOT_STAT_DONE, 1)]) (fun g => { g with keySlot := 2 })
     FuseAsked s (wakeBy .host s) .host 0x5C400000 ∧ s.bf F.GCTL_BOOT_STAT_DONE = true ∧
     bit (0x5C400000 / 2 ^ 20 % 16) s.gctl.keySlot = true) ∧
    (let s := withSec r0 (fun x => { x with fuse := some (9, 0, 1, 2) })
     s.gctl.inReset = false ∧ s.sec.fuse = some (9, 0, 1, 2)) := by
  refine ⟨?_, ?_, ⟨?_, rfl⟩, ⟨?_, ?_, ?_⟩, ?_, ⟨?_, ?_, wrong_answer d0 _ _ rfl rfl⟩, ?_, ?_, ?_, ?_, ?_, ?_, ?_, ?_, ?_⟩
  case refine_6 => intro h; exact absurd h (by simp [withGctl, GctlIs])
  case refine_10 =>
    rintro flags (rfl | rfl) h
    · exact ⟨by decide, by decide, right_answer _ _ h rfl, by decide⟩
    · exact ⟨by decide, by decide, right_answer _ _ h rfl, by decide⟩
  all_goals ((try unfold Debugs Runs); (try unfold FuseAsked); (try unfold Runs); decide +kernel)

/-- Who may ask, and what the fuses and the timers wait for. -/
theorem wit_DebugAndFuses_parts :
    (Runs run ∧ run.mgmtOn = false ∧ [Instr.password, .challenge, .response, .debugClose].length = 4 ∧ r0.asks .mgmt = false) ∧
    (let u := wakeBy .host r0
     Runs r0 ∧ r0.asks .host = true ∧ (0x5B000000 : BitVec 32).toNat / 2 ^ 24 % 256 ≠ 0x5C ∧ u.sec.fuse = none) ∧
    (Runs run ∧ run.asks (.thread 0) = true ∧ fuseWriter (.thread 0) (wakeBy (.thread 0) run) = false) ∧
    (let s := withSec r0 (fun x => { x with fuse := some (0, 0, 1, 2) })
     Runs s ∧ s.asks .host = true ∧ (wakeBy .host s).sec.fuse ≠ none) ∧
    (r0.gctl.inReset = false ∧ r0.sec.fuse = none) := by
  unfold Runs; and_intros <;> decide +kernel

/-- The test port has power; debug is at level `n`. -/
def tap (n : Nat) (l : List (Fld × Nat)) : State := st ([(F.PWR_RAIL_STAT_GOOD, 1), (F.SEC_STAT_LEVEL, n)] ++ l)

theorem wit_JtagAndRegisterAccesses :
    ((st [(F.PWR_RAIL_STAT_GOOD, 0)]).tapOn = false) ∧
    (let s := withGctl (tap 0 []) (fun g => { g with rstLow := some 0 })
     s.tapOn = true ∧ s.gctl.rstLow.isSome = true) ∧
    ((tap 0 []).tapOn = true ∧ (tap 0 []).gctl.rstLow = none ∧ (tap 0 []).dbgLevel = 0 ∧ (tap 0 []).gctl.frozen = false) ∧
    ((tap 1 []).tapOn = true ∧ 1 ≤ (tap 1 []).dbgLevel ∧ (tap 1 []).dbgLevel < 2) ∧
    ((tap 2 []).tapOn = true ∧ 2 ≤ (tap 2 []).dbgLevel ∧ (tap 2 []).gctl.frozen = false) ∧
    (let s := withGctl (tap 2 []) (fun g => { g with frozen := true })
     s.tapOn = true ∧ 2 ≤ s.dbgLevel ∧ s.gctl.frozen = true) ∧
    (let m := Shifts (tap 2 []) 0x13
     0x3000000004 % 4 = 0 ∧ m.memReach 0x3000000004 = true ∧ m.saxTable 0x3000000004 = false) ∧
    (let m := Shifts (tap 2 []) 0x13
     m.memReach 0 = false ∧ 0x3000000005 % 4 ≠ 0) ∧
    (ctlBase ≤ ctlBase + 0x40000 ∧ ctlBase + 0x40000 - ctlBase = 0x40000 ∧ 0 < ctlBase ∧ 0x50000 ≤ ctlBase + 0x50000 - ctlBase) ∧
    (r0.stopped = false ∧ r0.reaches .mgmt = false ∧ r0.reaches .host = true) ∧
    (findReg 0x3FFFFFC = none ∧ (findReg R.GCTL_STAT).isSome = true ∧ (7#4 ≠ 15)) ∧
    (R.GCTL_STAT < 0x1000000 ∧ (0x1000000 ≤ 0x1004000)) ∧
    (ctlBase + 0x1003FFC < ctlBase + 0x1004000 ∧ (ctlBase + 0x1003FFC) % 4 = 0 ∧ (0x1003FFC : Nat) < 0x4000000) ∧
    ((0#4 = 0) ∧ (3#4 ≠ 0) ∧ findReg (R.GCTL_STAT) ≠ none ∧ (withGctl r0 (fun g => { g with inReset := true })).gctl.inReset = true) ∧
    (let s := sessions [(F.PWR_RAIL_STAT_GOOD, 1), (F.SEC_STAT_LEVEL, 2), (F.SAX_TBL_BASE_BASE, 0)] Sess.blank id
     s.tapOn = true ∧ 2 ≤ s.dbgLevel ∧ s.saxTable dramBase = true ∧ (Shifts s 0x13).memReach dramBase = true ∧ dramBase % 4 = 0) := by
  and_intros <;> decide +kernel

/-! ### The machine -/

theorem wit_StepRunsFront : ({ r0 with pending := [.boot, .idcode] } : State).pending = .boot :: [.idcode] := rfl

theorem wit_RequestsSettleAtEachStep : r0.irq.prev = irqSources.filter r0.irqLevel ∧ ∃ t, step r0 = .next t := ⟨by decide +kernel, _, rfl⟩

theorem wit_HeldDevicesIdleQueuesAndStops :
    ((withGctl r0 (fun g => { g with inReset := true })).stopped = true ∧ (withGctl r0 (fun g => { g with frozen := true })).stopped = true) ∧
    ((∀ b, Instr.boot ≠ .rstN b) ∧ (∀ a b, Instr.boot ≠ .resetRelease a b) ∧ (∀ b, Instr.boot ≠ .freeze b) ∧ (∀ b, Instr.boot ≠ .perst b) ∧
     (∀ a b d, Instr.boot ≠ .railChange a b d) ∧ (∀ v, Instr.boot ≠ .brownOut v) ∧ Instr.boot ≠ .nonceExpire ∧ Instr.boot ≠ .debugWaitEnd ∧
     (∀ b, Instr.boot ≠ .fuseDone b) ∧ Instr.boot ≠ .idcode ∧ (∀ v, Instr.boot ≠ .samplePreload v) ∧ Instr.boot ≠ .extest ∧
     Instr.boot ≠ .bypass ∧ (∀ a b d, Instr.boot ≠ .secAccess a b d) ∧ (∀ a, Instr.boot ≠ .diagRead a) ∧
     (∀ a b d, Instr.boot ≠ .regAccess a b d) ∧ (∀ a, Instr.boot ≠ .memRead a) ∧ (∀ a, Instr.boot ≠ .frzChain a)) ∧
    (r0.pending = [] ∧ r0.gctl.frozen = false ∧ r0.gctl.inReset = false) ∧
    exec (.rstN false) (withGctl r0 (fun g => { g with rstLow := some 0 })) = .fault .rstHeldTooShort ∧
    ((withGctl r0 (fun g => { g with frozen := true })).pending = [] ∧ (withGctl r0 (fun g => { g with frozen := true })).gctl.frozen = true ∧
     (withGctl r0 (fun g => { g with inReset := true, brown := true })).gctl.brown = true ∧ (withGctl r0 (fun g => { g with inReset := true })).gctl.brown = false ∧
     (withGctl r0 (fun g => { g with inReset := true })).gctl.frzLow = false ∧ r0.stopped = false ∧ r0.gf F.PWR_STAT_PS = 0) := by
  refine ⟨by decide +kernel, ?_, by decide +kernel, rfl, by decide +kernel⟩
  simp

theorem wit_UnlistedOffsetsReadZero :
    findReg 0x3FFFFFC = none ∧ 0x3FFFFFE / 4 * 4 = 0x3FFFFFC ∧ r0.stopped = false ∧ (0x3FFFFFD#26).toNat / 4 * 4 = 0x3FFFFFC ∧
    r0.reaches .host = true ∧ r0.reaches .mgmt = false := by
  decide +kernel

/-! ### Ill-formed commands are refused by the check -/

theorem test_illformed_reserved_add : wellFormed (.add (.reserved 0 0x0988_7008)) = false := by decide +kernel
theorem test_illformed_view : wellFormed (.viewRead 0xFFFFFF 2) = false := by decide +kernel
theorem test_illformed_replica_epoch : wellFormed (.replicaEpoch 0 ⟨[(2 ^ 25, 0)], true⟩) = false := by decide +kernel
theorem test_illformed_pfc : wellFormed (.pauseReceived 0 (.pfc 1 [])) = false := by decide +kernel
theorem test_illformed_handover : wellFormed (.handover [(4096, 0)]) = false := by decide +kernel
theorem test_illformed_digest : wellFormed (.digestReceived 0 (2 ^ 32) 0) = false := by decide +kernel
theorem test_illformed_health : wellFormed (.healthReport []) = false := by decide +kernel
theorem test_illformed_lanes : wellFormed (.voxLinkUp 0 0 0) = false := by decide +kernel
theorem test_illformed_peer : wellFormed (.peerMessage (.link 0 0 [])) = false := by decide +kernel
theorem test_illformed_session : wellFormed (.sessionRecord []) = false := by decide +kernel
theorem test_illformed_staging : wellFormed (.stagingWrite 0xFFFFFF [0, 0]) = false := by decide +kernel
theorem test_illformed_image : wellFormed (.imageFetched (List.replicate (2 ^ 24 + 1) 0)) = false := by
  simp only [wellFormed, List.length_replicate]
  decide
theorem test_wellformed : wellFormed (.add (.reserved 0 0)) = true ∧ wellFormed (.viewRead 0xFFFFFF 1) = true := by decide +kernel

/-! ### Words -/

/-- The table spells no command in bits. -/
theorem test_no_table_words : decodeTableWord 32 0x4D2C0040 = none ∧ r0.withFetchWord 32 0x4D2C0040 = r0 := ⟨rfl, rfl⟩

/-- The words of the worked encoding of chapter 03: none is reserved. -/
theorem test_worked_encoding : [0x10B00080, 0x21C53000, 0x21E53008, 0x4D000000, 0x09887008, 0x4D2C0040, 0x4D4C00C0, 0x096A10F0,
    0x15601008].any reservedWord = false := by decide +kernel

/-- LTX.PUT with its group at g29 runs past g31 (R55), a shift by 64 and opcode 0 are reserved (R54). -/
theorem test_reserved_words : [0x4D3D0040, 0x09887040, 0x00000000].all reservedWord = true := by decide +kernel

/-- The worked encoding of chapter 03, word for word. -/
theorem test_engine_words :
    engineWord 0 0x10B00080 = .luih ⟨0, 5, 0x80⟩ ∧ engineWord 0 0x21C53000 = .ld ⟨0, 14, 5, 0, false, false⟩ ∧
    engineWord 0 0x21E53008 = .ld ⟨0, 15, 5, 8, false, false⟩ ∧ engineWord 0 0x4D000000 = .ltxOpen ⟨0, 8, 0, 0⟩ ∧
    engineWord 0 0x09887008 = .srli ⟨0, 12, 8, 8⟩ ∧ engineWord 0 0x4D2C0040 = .ltxPut ⟨0, 9, 12, 0⟩ ∧
    engineWord 0 0x4D4C00C0 = .ltxCommit ⟨0, 10, 12, 0⟩ ∧ engineWord 0 0x096A10F0 = .andi ⟨0, 11, 10, 0xF0⟩ ∧
    engineWord 0 0x15601008 = .bne ⟨0, 11, 0, 8⟩ := by decide +kernel
/-- A reserved word is the reserved form of ADD (R54). -/
theorem test_engine_word_reserved : engineWord 511 0x4D3D0040 = .add (.reserved 511 0x4D3D0040) := by decide +kernel

/-! ### Single commands -/

/-- A thread whose registers 1 and 2 hold `a` and `b`. -/
def two (a b : Nat) : State := (runWith 1 a).setG 0 2 (BitVec.ofNat 64 b)
/-- What register 3 holds after a command. -/
def r3 (c : Instr) (s : State) : Option Nat := match exec c s with | .next t => some (t.g 0 3).toNat | _ => none

/-- What the divider of engine 0 will deliver after a command. -/
def quot (c : Instr) (s : State) : Option Nat :=
  match exec c s with | .next t => (t.brn.div.get (fun _ => none) 0).map (fun d => d.val) | _ => none

theorem test_add_wraps : r3 (.add (.op ⟨0, 3, 1, 2⟩)) (two (2 ^ 64 - 1) 1) = some 0 := by decide +kernel
theorem test_sub_order : r3 (.sub ⟨0, 3, 1, 2⟩) (two 1 3) = some (2 ^ 64 - 2) := by decide +kernel
/-- R59. -/
theorem test_div_by_zero : quot (.div ⟨0, 3, 1, 2⟩) (two 5 0) = some (2 ^ 64 - 1) ∧ quot (.rem ⟨0, 3, 1, 2⟩) (two 5 0) = some 5 := by decide +kernel
theorem test_div_overflow : quot (.div ⟨0, 3, 1, 2⟩) (two (2 ^ 63) (2 ^ 64 - 1)) = some (2 ^ 63) := by decide +kernel
theorem test_slt_signed : r3 (.slt ⟨0, 3, 1, 2⟩) (two (2 ^ 64 - 1) 0) = some 1 ∧ r3 (.sltu ⟨0, 3, 1, 2⟩) (two (2 ^ 64 - 1) 0) = some 0 := by
  decide +kernel
/-- g0 reads as zero and keeps nothing. -/
theorem test_g0 : (match exec (.add (.op ⟨0, 0, 1, 2⟩)) (two 1 2) with | .next t => (t.g 0 0).toNat | _ => 9) = 0 := by decide +kernel
/-- LUIH g3, 0x00080: the DRAM base (worked encoding of chapter 03). -/
theorem test_luih : r3 (.luih ⟨0, 3, 0x80⟩) run = some 0x8000000000 := by decide +kernel
/-- A byte that ends as another reads back (R15). -/
theorem test_write_read : ((poke r0 0x8000000000 2 0xBEEF).rdN 0x8000000000 2, (poke r0 0x8000000000 2 0xBEEF).rdN 0x8000000001 1) =
    (0xBEEF, 0xBE) := by decide +kernel
theorem test_id : (ctlRead R.GCTL_ID r0).2 = 0x5A771281 := by decide +kernel
/-- A held device takes no commands (R397). -/
theorem test_held : exec .boot (withGctl r0 (fun g => { g with inReset := true })) =
    .next (withGctl r0 (fun g => { g with inReset := true })) := rfl
/-- Ticks pass on an empty queue. -/
theorem test_tick : (match step r0 with | .next t => t.tick | _ => 0) = 1 := by decide +kernel

end Sys2Proof.Tests
end

section
/-! PROOFS. Offsets of the control space that hold no register (R9), and the one effect that an access by a port has beside: it wakes the
device (R386). -/
namespace Sys2Proof.Machine

/-! ### Waking leaves memory and faults alone -/

/-- `t` is `s` but for what a change of power state touches (R386, R387): registers, the recorder, the time accounts and the barns. -/
def PowerOnly (s t : State) : Prop := ∃ r e p b, t = { s with regs := r, evr := e, pwr := p, brn := b }

theorem PowerOnly.refl {s : State} : PowerOnly s s := ⟨s.regs, s.evr, s.pwr, s.brn, rfl⟩

theorem PowerOnly.trans {s t u : State} (h : PowerOnly s t) (k : PowerOnly t u) : PowerOnly s u := by
  obtain ⟨r, e, p, b, rfl⟩ := h
  obtain ⟨r', e', p', b', rfl⟩ := k
  exact ⟨r', e', p', b', rfl⟩

theorem PowerOnly.sf {s t : State} (h : PowerOnly s t) (f : Fld) (v : Nat) : PowerOnly s (t.sf f v) :=
  h.trans ⟨(t.sf f v).regs, t.evr, t.pwr, t.brn, rfl⟩

theorem PowerOnly.pwr {s t : State} (h : PowerOnly s t) (p : PwrSt) : PowerOnly s { t with pwr := p } :=
  h.trans ⟨t.regs, t.evr, p, t.brn, rfl⟩

theorem PowerOnly.brn {s t : State} (h : PowerOnly s t) (b : BrnSt) : PowerOnly s { t with brn := b } :=
  h.trans ⟨t.regs, t.evr, t.pwr, b, rfl⟩

theorem PowerOnly.logRec {s t : State} (h : PowerOnly s t) (src code a0 a1 : Nat) : PowerOnly s (t.logRec src code a0 a1) := by
  rcases logRec_cases t src code a0 a1 with hl | hl | hl <;> rw [hl]
  · exact h
  · exact h.sf _ _
  · exact h.trans ⟨t.regs, _, t.pwr, t.brn, rfl⟩

theorem powerOnly_enterPs (s : State) (k : Nat) : PowerOnly s (s.enterPs k) := by
  unfold State.enterPs
  dsimp only
  split
  · exact .refl
  · exact (((((PowerOnly.refl.pwr _).sf _ _).sf _ _).logRec _ _ _ _).brn _).sf _ _

theorem powerOnly_wake (s : State) (cause : Nat) : PowerOnly s (s.wake cause) := by
  unfold State.wake
  dsimp only
  split
  · exact .refl
  · exact ((((PowerOnly.refl.sf _ _).sf _ _).trans (powerOnly_enterPs _ 0)).sf _ _).pwr _

@[simp] theorem wake_mem (s : State) (cause : Nat) : (s.wake cause).mem = s.mem := by
  obtain ⟨r, e, p, b, h⟩ := powerOnly_wake s cause; rw [h]
@[simp] theorem wake_fcu (s : State) (cause : Nat) : (s.wake cause).fcu = s.fcu := by
  obtain ⟨r, e, p, b, h⟩ := powerOnly_wake s cause; rw [h]

/-- A writer either wakes the device, as the host and the management port do, or leaves its power state. -/
theorem wakeBy_cases (w : Writer) (s : State) : wakeBy w s = s.wake 3 ∨ wakeBy w s = s := by
  cases w
  case host | mgmt => exact .inl rfl
  case jtag | thread | rom | tbu => exact .inr rfl

@[simp] theorem wakeBy_mem (w : Writer) (s : State) : (wakeBy w s).mem = s.mem := by
  rcases wakeBy_cases w s with h | h <;> simp [h]
@[simp] theorem wakeBy_fcu (w : Writer) (s : State) : (wakeBy w s).fcu = s.fcu := by
  rcases wakeBy_cases w s with h | h <;> simp [h]

/-! ### The register operations at an offset without a register (R9) -/

/-- GCTL_BOOT_CMD, which `ctlWrite` serves before it looks up the table, stands in the table. -/
theorem ne_bootCmd_of_findReg_none {off : Nat} (h : findReg off = none) : off ≠ R.GCTL_BOOT_CMD := by
  rintro rfl
  exact absurd h (by decide)

theorem ctlRead_unlisted {off : Nat} (h : findReg off = none) (s : State) : ctlRead off s = (s, 0) := by
  have ht : ctlTouch off s = s := by rw [ctlTouch, h]
  have hv : s.ctlValue off = 0 := by rw [State.ctlValue, h]
  simp only [ctlRead, ht, hv]

theorem ctlStore_unlisted {off : Nat} (h : findReg off = none) (w : Writer) (v : Nat) (s : State) : ctlStore w off v s = s := by
  rw [ctlStore, h]

theorem ctlWrite_unlisted {off : Nat} (h : findReg off = none) (w : Writer) (v : Nat) (s : State) : ctlWrite w off v s = s := by
  rw [ctlWrite, if_neg (ne_bootCmd_of_findReg_none h), ctlStore_unlisted h]

theorem narrowWrite_unlisted {b : Nat} (h : findReg (b / 4 * 4) = none) (w : Writer) (be : Nat) (s : State) :
    narrowWrite w b be s = s := by
  rw [narrowWrite, h]

/-! ### REGISTER_WRITE -/

theorem lowBit_lt (be : Nat) : lowBit be < 4 := by
  unfold lowBit
  split_ifs <;> decide

/-- The first byte that a narrow write touches lies in the register's word. -/
theorem word_add_lowBit (o be : Nat) : (o / 4 * 4 + lowBit be) / 4 * 4 = o / 4 * 4 := by
  have h := lowBit_lt be
  omega

theorem registerWrite_not_reached {s : State} {w : Writer} (h : s.reaches w = false) (o v be : Nat) : registerWrite w o v be s = s := by
  simp [registerWrite, h]

/-- A write that reaches the control space where no register lies does no more than wake the device, be it whole or narrow. -/
theorem registerWrite_unlisted {s : State} {w : Writer} {o : Nat} (hr : s.reaches w = true) (h : findReg (o / 4 * 4) = none)
    (v be : Nat) : registerWrite w o v be s = wakeBy w s := by
  simp only [registerWrite, hr, Bool.not_true, Bool.false_eq_true, if_false]
  by_cases hbe : be = 15
  · rw [if_pos hbe, ctlWrite_unlisted h]
  · rw [if_neg hbe, narrowWrite_unlisted (by rw [word_add_lowBit, h])]

/-- A running device answers REGISTER_WRITE with the effect of `registerWrite` and the signalling of interrupts. -/
theorem exec_registerWrite {s : State} (hs : s.stopped = false) (w : Writer) (o : BitVec 26) (v : BitVec 32) (be : BitVec 4) :
    exec (.registerWrite w o v be) s = .next (registerWrite w o.toNat v.toNat be.toNat s).irqSync :=
  live_running _ hs

end Sys2Proof.Machine

namespace Sys2Proof.Claims
open Sys2Proof.Machine

/-- Settles O60: where the table has no row, each operation of the control space leaves the state; REGISTER_WRITE adds the wake of its
writer, which sends no fault message and touches no memory. -/
theorem unlistedOffsetsReadZero : Obligations.UnlistedOffsetsReadZero := by
  unfold Obligations.UnlistedOffsetsReadZero
  intro s off hoff
  refine ⟨ctlRead_unlisted hoff s, fun w v => ⟨ctlWrite_unlisted hoff w v s, ctlStore_unlisted hoff w v s⟩, ?_, ?_⟩
  · rintro w b be rfl
    exact narrowWrite_unlisted hoff w be s
  · rintro w o v be hs rfl
    refine ⟨_, exec_registerWrite hs w o v be, fun hr => ?_, fun hr => ?_⟩
    · rw [registerWrite_not_reached hr]
      exact ⟨rfl, rfl⟩
    · rw [registerWrite_unlisted hr hoff]
      exact ⟨wakeBy_fcu w s, rfl, wakeBy_mem w s⟩

end Sys2Proof.Claims
end

section
/-! PROOFS. What an instruction that issues starts from, what a result does to the registers in flight, and division on the engine's divider
(R24, R27, R59, R443). -/
namespace Sys2Proof.Machine

/-! ### Fields of barn state that a register write leaves -/

theorem State.setG_gpr_only (s : State) (t r : Nat) (v : Word) : ∃ g, s.setG t r v = s.setBrn { s.brn with gpr := g } := by
  unfold State.setG
  split
  · exact ⟨s.brn.gpr, rfl⟩
  · exact ⟨_, rfl⟩

@[simp] theorem State.setG_div (s : State) (t r : Nat) (v : Word) : (s.setG t r v).brn.div = s.brn.div := by
  obtain ⟨g, h⟩ := s.setG_gpr_only t r v
  rw [h]
  rfl

@[simp] theorem State.cycles_setG (s : State) (t r u : Nat) (v : Word) : (s.setG t r v).cycles u = s.cycles u := by
  obtain ⟨g, h⟩ := s.setG_gpr_only t r v
  rw [h]
  rfl

@[simp] theorem State.cycles_setThr (s : State) (t u : Nat) (x : Thread) : (s.setThr t x).cycles u = s.cycles u := rfl

/-- `s` with divider `e` holding `d`. -/
def State.setDiv (s : State) (e : Nat) (d : Option Divider) : State :=
  s.setBrn { s.brn with div := s.brn.div.set (fun _ => none) e d }

@[simp] theorem State.setDiv_div_same (s : State) (e : Nat) (d : Option Divider) :
    (s.setDiv e d).brn.div.get (fun _ => none) e = d :=
  SMap.get_set_same (fun _ => none) s.brn.div e d

theorem State.setDiv_div_ne (s : State) (e i : Nat) (d : Option Divider) (h : i ≠ e) :
    (s.setDiv e d).brn.div.get (fun _ => none) i = s.brn.div.get (fun _ => none) i :=
  SMap.get_set_ne (fun _ => none) s.brn.div e i d h

/-! ### A YLD that resumes (R75) -/

theorem State.thr_settleYield (s : State) (t : Nat) : (s.settleYield t).thr t = { s.thr t with yieldRd := none } := by
  unfold State.settleYield
  split
  · next h => rw [← h]
  · simp

@[simp] theorem State.cycles_settleYield (s : State) (t u : Nat) : (s.settleYield t).cycles u = s.cycles u := by
  unfold State.settleYield
  split <;> simp

/-! ### The cost of an issue (R23, R27, R44) -/

/-- What only counts leaves the barns, so threads, registers and dividers with them. -/
theorem Counts.brn {s u : State} (h : Counts s u) : u.brn = s.brn := by
  obtain ⟨r, f, rfl⟩ := h
  rfl

theorem counts_fetchCe (s : State) (t : Nat) : Counts s (s.fetchCe t) := by
  unfold State.fetchCe
  split
  · exact memError_only _ _ _
  · exact counts_refl s

theorem counts_chargeIssue (s : State) (t : Nat) : Counts s (s.chargeIssue t) :=
  counts_ite (counts_refl s) (counts_sf _ _ (counts_refl s))

/-- Beside counters, the issue advances INSTRET and notes the address. -/
theorem countIssue_fetchCe_brn (s : State) (t : Nat) :
    ((s.fetchCe t).countIssue t).brn =
      (s.setThr t { s.thr t with instret := (s.thr t).instret + 1, lastPc := (s.thr t).pc }).brn := by
  have h : ((s.fetchCe t).chargeIssue t).brn = s.brn := by
    rw [(counts_chargeIssue _ t).brn, (counts_fetchCe s t).brn]
  simp only [State.countIssue, State.setThr, State.setBrn, State.thr, h]

/-! ### A result supersedes an older one in flight (R24, log 25) -/

/-- The thread's accesses in flight for register `r` lose their destination. -/
def State.freeTxns (s : State) (t r : Nat) : State :=
  if r ≠ 0 ∧ (s.thr t).txns.any (fun x => x.rd == r) then
    s.setThr t { s.thr t with txns := (s.thr t).txns.map (fun x => if x.rd == r then { x with rd := 0 } else x) }
  else s

/-- A division of the thread in flight for register `r` loses its destination. -/
def State.freeDiv (s : State) (t r : Nat) : State :=
  match s.brn.div.get (fun _ => none) (t / 4) with
  | some d =>
    if d.th = t ∧ d.rd = r then s.setDiv (t / 4) (some { d with rd := 0 }) else s
  | none => s

theorem State.wrReg_eq (s : State) (t r : Nat) (v : Word) : s.wrReg t r v = ((s.freeTxns t r).freeDiv t r).setG t r v := rfl

theorem State.freeTxns_thr_only (s : State) (t r : Nat) : ∃ x, s.freeTxns t r = s.setBrn { s.brn with thr := x } := by
  unfold State.freeTxns
  split
  · exact ⟨_, rfl⟩
  · exact ⟨s.brn.thr, rfl⟩

theorem State.freeDiv_div_only (s : State) (t r : Nat) : ∃ d, s.freeDiv t r = s.setBrn { s.brn with div := d } := by
  unfold State.freeDiv
  split
  · split
    · exact ⟨_, rfl⟩
    · exact ⟨s.brn.div, rfl⟩
  · exact ⟨s.brn.div, rfl⟩

@[simp] theorem State.freeTxns_div (s : State) (t r : Nat) : (s.freeTxns t r).brn.div = s.brn.div := by
  obtain ⟨x, h⟩ := s.freeTxns_thr_only t r
  rw [h]
  rfl

@[simp] theorem State.g_freeTxns (s : State) (t r u q : Nat) : (s.freeTxns t r).g u q = s.g u q := by
  obtain ⟨x, h⟩ := s.freeTxns_thr_only t r
  rw [h]
  rfl

@[simp] theorem State.thr_freeDiv (s : State) (t r u : Nat) : (s.freeDiv t r).thr u = s.thr u := by
  obtain ⟨d, h⟩ := s.freeDiv_div_only t r
  rw [h]
  rfl

@[simp] theorem State.g_freeDiv (s : State) (t r u q : Nat) : (s.freeDiv t r).g u q = s.g u q := by
  obtain ⟨d, h⟩ := s.freeDiv_div_only t r
  rw [h]
  rfl

theorem State.thr_freeTxns_ne (s : State) (t r u : Nat) (h : u ≠ t) : (s.freeTxns t r).thr u = s.thr u := by
  unfold State.freeTxns
  split
  · exact s.thr_setThr_ne t u _ h
  · rfl

/-- Only the divider of the thread's own engine can hold a result of the thread. -/
theorem State.freeDiv_div_ne (s : State) (t r e : Nat) (h : e ≠ t / 4) :
    (s.freeDiv t r).brn.div.get (fun _ => none) e = s.brn.div.get (fun _ => none) e := by
  unfold State.freeDiv
  split
  · split
    · exact s.setDiv_div_ne _ _ _ h
    · rfl
  · rfl

theorem State.wrReg_only (s : State) (t r : Nat) (v : Word) :
    ∃ x g d, s.wrReg t r v = s.setBrn { s.brn with thr := x, gpr := g, div := d } := by
  obtain ⟨x, hx⟩ := s.freeTxns_thr_only t r
  obtain ⟨d, hd⟩ := (s.freeTxns t r).freeDiv_div_only t r
  obtain ⟨g, hg⟩ := ((s.freeTxns t r).freeDiv t r).setG_gpr_only t r v
  exact ⟨x, g, d, by rw [s.wrReg_eq, hg, hd, hx]; rfl⟩

theorem State.thr_wrReg_ne (s : State) (t r u : Nat) (v : Word) (h : u ≠ t) : (s.wrReg t r v).thr u = s.thr u := by
  simp [State.wrReg_eq, State.thr_freeTxns_ne, h]

theorem State.wrReg_div_ne (s : State) (t r e : Nat) (v : Word) (h : e ≠ t / 4) :
    (s.wrReg t r v).brn.div.get (fun _ => none) e = s.brn.div.get (fun _ => none) e := by
  simp [State.wrReg_eq, State.freeDiv_div_ne, h]

theorem State.g_wrReg (s : State) (t r u q : Nat) (v : Word) (hr : r < 32) (hq : q < 32) :
    (s.wrReg t r v).g u q = if u = t ∧ q = r ∧ r ≠ 0 then v else s.g u q := by
  simp [State.wrReg_eq, State.g_setG, hr, hq]

end Sys2Proof.Machine

namespace Sys2Proof.Claims
open Sys2Proof.Machine

/-! ### What an instruction that issues starts from -/

theorem freed_of_not_any {r : Nat} {l : List Txn} (h : ¬ (r ≠ 0 ∧ l.any (fun x => x.rd == r))) : Freed r l = l := by
  refine (List.map_congr_left fun x hx => if_neg fun ⟨h0, hr⟩ => h ⟨h0, ?_⟩).trans (List.map_id l)
  exact List.any_eq_true.2 ⟨x, hx, by simpa using hr⟩

/-- The model frees the accesses that the statements say are freed. -/
theorem thr_freeTxns (s : State) (t r : Nat) : (s.freeTxns t r).thr t = { s.thr t with txns := Freed r (s.thr t).txns } := by
  unfold State.freeTxns
  split
  · next h => simp [Freed, h.1]
  · next h => rw [freed_of_not_any h]

theorem thr_wrReg (s : State) (t r : Nat) (v : Word) :
    (s.wrReg t r v).thr t = { s.thr t with txns := Freed r (s.thr t).txns } := by
  simp [State.wrReg_eq, thr_freeTxns]

theorem counted_eq (s : State) (th : Nat) : Counted s th = ((Start s th).fetchCe th).countIssue th := by
  have hpc : ((Start s th).thr th).pc = Pc s th := by rw [Start, State.thr_settleYield]; rfl
  simp only [Counted, State.fetchCe, hpc]

theorem counted_brn (s : State) (th : Nat) : (Counted s th).brn = ((Start s th).setThr th
    { (Start s th).thr th with instret := ((Start s th).thr th).instret + 1, lastPc := ((Start s th).thr th).pc }).brn := by
  rw [counted_eq, countIssue_fetchCe_brn]

/-- Only the PC does not yet stand as after the instruction. -/
theorem thr_counted (s : State) (th : Nat) : (Counted s th).thr th = Ran s th (Pc s th) := by
  rw [State.thr, counted_brn, ← State.thr, State.thr_setThr_same, Start, State.thr_settleYield]
  rfl

theorem g_counted (s : State) (th u r : Nat) : (Counted s th).g u r = (Start s th).g u r := by
  rw [State.g, counted_brn]
  rfl

theorem cycles_counted (s : State) (th u : Nat) : (Counted s th).cycles u = s.cycles u := by
  rw [State.cycles, counted_brn, ← State.cycles, State.cycles_setThr, Start, State.cycles_settleYield]

/-- An instruction that issues, has no reserved form and needs no DRAM budget has its effect in the counted state. -/
theorem issue_of_issues {s : State} {th : Nat} {q : Req} (h : Issues s th q) (hwf : q.wf = true) (hd : q.dram = false)
    (body : State → State) : issue th q body s = body (Counted s th) := by
  obtain ⟨⟨-, hmay, hpay, hfence, hfetch⟩, herr, hheld⟩ := h
  rw [counted_eq]
  simp only [Start] at hfence hfetch herr hheld ⊢
  simp [issue, hmay, hpay, hfence, hfetch, herr, hheld, hwf, hd]

/-! ### A division issues -/

/-- A division occupies its engine's divider with `d`, and the thread goes on. -/
def launchDiv (o : RRR) (d : Divider) (s : State) : State :=
  ((s.wrReg o.th o.rd (s.g o.th o.rd)).setDiv (o.th / 4) (some d)).nextPc o.th

/-- The divider takes the result of the operands, due after the cycles of their magnitudes. -/
theorem divOp_eq (fn : Nat) (f : Word → Word → Word) (m : Word → Nat) (o : RRR) (s : State) :
    divOp fn f m o s = issue o.th
      { word := encA 1 o.rd o.rs1 o.rs2 fn, srcs := [o.rs1, o.rs2], stall := (Div s o.th).isSome }
      (fun t => launchDiv o ⟨o.th, o.rd, (f (t.g o.th o.rs1) (t.g o.th o.rs2)).toNat,
        t.cycles o.th + divCycles (m (t.g o.th o.rs1)) (m (t.g o.th o.rs2))⟩ t) s := rfl

theorem divOp_of_issues {s : State} {o : RRR} (h : IssuesReg s o.th [o.rs1, o.rs2]) (hfree : Div s o.th = none)
    (fn : Nat) (f : Word → Word → Word) (m : Word → Nat) :
    divOp fn f m o s = launchDiv o ⟨o.th, o.rd, (f (Rv s o.th o.rs1) (Rv s o.th o.rs2)).toNat,
      s.cycles o.th + divCycles (m (Rv s o.th o.rs1)) (m (Rv s o.th o.rs2))⟩ (Counted s o.th) := by
  have hissue : Issues s o.th { word := encA 1 o.rd o.rs1 o.rs2 fn, srcs := [o.rs1, o.rs2] } := h
  rw [divOp_eq, hfree, Option.isSome_none, issue_of_issues hissue rfl rfl]
  simp only [cycles_counted, g_counted, Rv]

/-- What a division that issues with result `v`, due after `m` cycles, leaves. -/
def Divides (s : State) (o : RRR) (v : Word) (m : Nat) (t : State) : Prop :=
  RegsStay s t o.th ∧ Div t o.th = some ⟨o.th, o.rd, v.toNat, s.cycles o.th + m⟩ ∧
  t.thr o.th = { Ran s o.th (Next s o.th) with txns := Freed o.rd (s.thr o.th).txns } ∧ From (Counted s o.th) t o.th

theorem g_launchDiv (o : RRR) (d : Divider) (s : State) (u : Nat) (r : Fin 32) : (launchDiv o d s).g u r = s.g u r := by
  have h : (launchDiv o d s).g u r = (s.wrReg o.th o.rd (s.g o.th o.rd)).g u r := rfl
  rw [h, s.g_wrReg _ _ _ _ _ o.rd.isLt r.isLt]
  split
  · next hr => rw [hr.1, hr.2.1]
  · rfl

theorem launchDiv_div (o : RRR) (d : Divider) (s : State) :
    (launchDiv o d s).brn.div = ((s.wrReg o.th o.rd (s.g o.th o.rd)).setDiv (o.th / 4) (some d)).brn.div := rfl

theorem div_launchDiv (o : RRR) (d : Divider) (s : State) : Div (launchDiv o d s) o.th = some d := by
  rw [Div, launchDiv_div, State.setDiv_div_same]

theorem thr_launchDiv (o : RRR) (d : Divider) (s : State) :
    (launchDiv o d s).thr o.th = { s.thr o.th with pc := (s.thr o.th).pc + 4, txns := Freed o.rd (s.thr o.th).txns } := by
  have h : (launchDiv o d s).thr o.th =
      { (s.wrReg o.th o.rd (s.g o.th o.rd)).thr o.th with pc := ((s.wrReg o.th o.rd (s.g o.th o.rd)).thr o.th).pc + 4 } :=
    State.thr_setThr_same _ _ _
  rw [h, thr_wrReg]

theorem from_launchDiv (o : RRR) (d : Divider) (s : State) : From s (launchDiv o d s).irqSync o.th := by
  refine ⟨?_, fun u hu => ?_, fun e he => ?_⟩
  · obtain ⟨x, g, v, h⟩ := s.wrReg_only o.th o.rd (s.g o.th o.rd)
    simp only [launchDiv, h]
    rfl
  · calc (launchDiv o d s).irqSync.thr u = (s.wrReg o.th o.rd (s.g o.th o.rd)).thr u := State.thr_setThr_ne _ _ _ _ hu
      _ = s.thr u := s.thr_wrReg_ne _ _ _ _ hu
  · rw [State.irqSync_brn, launchDiv_div, State.setDiv_div_ne _ _ _ _ he, s.wrReg_div_ne _ _ _ _ he]

/-- Each of the four instructions is `divOp` with its own result `f` and magnitude `m`. -/
theorem does_divOp {s : State} {o : RRR} (h : IssuesReg s o.th [o.rs1, o.rs2]) (hfree : Div s o.th = none)
    (f : Word → Word → Word) (m : Word → Nat) {c : Instr} {fn : Nat} (hc : exec c s = live s (divOp fn f m o))
    {v : Word} (hv : f (Rv s o.th o.rs1) (Rv s o.th o.rs2) = v) :
    Does c s (Divides s o v (divCycles (m (Rv s o.th o.rs1)) (m (Rv s o.th o.rs2)))) := by
  have hrun : s.stopped = false := h.1.1
  refine ⟨_, hc.trans (live_running _ hrun), ?_⟩
  rw [divOp_of_issues h hfree, hv]
  refine ⟨fun u r => ?_, div_launchDiv _ _ _, ?_, from_launchDiv _ _ _⟩
  · exact (g_launchDiv _ _ _ u r).trans (g_counted _ _ _ _)
  · refine (thr_launchDiv _ _ _).trans ?_
    rw [thr_counted]
    rfl

/-! ### Quotients and remainders (R59) -/

theorem divS_eq (a b : Word) : divS a b = if b = 0 then BitVec.allOnes 64 else BitVec.ofInt 64 (a.toInt.tdiv b.toInt) := by
  have h : a.sdiv b = BitVec.ofInt 64 (a.toInt.tdiv b.toInt) :=
    BitVec.eq_of_toInt_eq (by rw [BitVec.toInt_sdiv, BitVec.toInt_ofInt])
  rw [divS, h]

theorem divU_eq (a b : Word) : divU a b = if b = 0 then BitVec.allOnes 64 else BitVec.ofNat 64 (a.toNat / b.toNat) := by
  rw [divU, ← BitVec.udiv_def, BitVec.udiv_eq]

theorem remS_eq (a b : Word) : remS a b = if b = 0 then a else BitVec.ofInt 64 (a.toInt.tmod b.toInt) := by
  rw [remS, ← BitVec.toInt_srem, BitVec.ofInt_toInt]

theorem remU_eq (a b : Word) : remU a b = if b = 0 then a else BitVec.ofNat 64 (a.toNat % b.toNat) := by
  rw [remU, ← BitVec.umod_def, BitVec.umod_eq]

/-! ### A division ends (R443) -/

theorem divResult_due {s : State} {b : Fin 8} {e : Fin 16} {d : Divider}
    (hd : s.brn.div.get (fun _ => none) (b.val * 16 + e.val) = some d) (hdue : d.due ≤ s.cycles d.th) :
    divResult b e s = (s.setDiv (b.val * 16 + e.val) none).setG d.th d.rd (BitVec.ofNat 64 d.val) := by
  rw [divResult, hd]
  exact if_neg (by omega)

/-- Settles O2: the four divisions are one operation on the divider with four results, and a divider that is due writes its own. -/
theorem divisionResults : Obligations.DivisionResults := by
  unfold Obligations.DivisionResults
  refine ⟨fun s o h hfree => ?_, fun s b e d hrun hd hrd hdue => ?_⟩
  · exact ⟨does_divOp h hfree divS mag rfl (divS_eq _ _), does_divOp h hfree divU BitVec.toNat rfl (divU_eq _ _),
      does_divOp h hfree remS mag rfl (remS_eq _ _), does_divOp h hfree remU BitVec.toNat rfl (remU_eq _ _)⟩
  · refine ⟨_, live_running _ hrun, ?_⟩
    rw [divResult_due hd hdue]
    refine ⟨?_, fun i hi => ?_, fun u r => State.g_setG _ _ _ _ _ _ hrd r.isLt, ?_⟩
    · rw [State.irqSync_brn, State.setG_div, State.setDiv_div_same]
    · rw [State.irqSync_brn, State.setG_div, State.setDiv_div_ne _ _ _ _ hi]
    · obtain ⟨g, hg⟩ := (s.setDiv (b.val * 16 + e.val) none).setG_gpr_only d.th d.rd (BitVec.ofNat 64 d.val)
      rw [hg]
      rfl

end Sys2Proof.Claims
end

section
/-! PROOFS. Reads of a register that stands in the table, the increments of the nanosecond domains (R122) and the capture FIFOs (R135). -/
namespace Sys2Proof.Machine

/-! ### Reads of a register that stands in the table -/

/-- The name and the indices of the register at a control-space offset. -/
def regAt (off : Nat) : Option (RegName × List Nat) := (findReg off).map (fun p => (p.1.name, p.2))

theorem findReg_of_regAt {off : Nat} {n : RegName} {ix : List Nat} (h : regAt off = some (n, ix)) :
    ∃ r, findReg off = some (r, ix) ∧ r.name = n := by
  obtain ⟨⟨r, ix'⟩, hf, hp⟩ := Option.map_eq_some_iff.1 h
  obtain ⟨rfl, rfl⟩ := Prod.mk.inj hp
  exact ⟨r, hf, rfl⟩

/-- A read shows what the register's row makes of the state. -/
theorem ctlValue_of_regAt {off : Nat} {n : RegName} {ix : List Nat} (h : regAt off = some (n, ix)) (s : State) :
    s.ctlValue off = s.regView n ix off (s.reg off) % 2 ^ 32 := by
  obtain ⟨r, hf, rfl⟩ := findReg_of_regAt h
  rw [State.ctlValue, hf]

/-- A read touches nothing where it captures no high half and meets no memory. -/
theorem ctlTouch_of_regAt {off : Nat} {n : RegName} {ix : List Nat} (h : regAt off = some (n, ix)) (s : State)
    (hhi : s.hiOf n ix = none) (hmem : n ∉ [RegName.ZTT_REF_W, .ZTT_MB_DATA, .BRN_CS_DATA]) : ctlTouch off s = s := by
  obtain ⟨r, hf, rfl⟩ := findReg_of_regAt h
  simp only [ctlTouch, hf, hhi]
  split
  · next hn => simp [hn] at hmem
  · next hn => simp [hn] at hmem
  · next hn => simp [hn] at hmem
  · rfl

theorem regAt_incrLo (n : Fin 4) : regAt (R.TBU_DOM_INCR_LO n) = some (.TBU_DOM_INCR_LO, [n.val]) := by
  revert n; decide

theorem regAt_incrHi (n : Fin 4) : regAt (R.TBU_DOM_INCR_HI n) = some (.TBU_DOM_INCR_HI, [n.val]) := by
  revert n; decide

theorem regAt_capHead (i : Fin 8) : regAt (R.TBU_CAP_HEAD i) = some (.TBU_CAP_HEAD, [i.val]) := by
  revert i; decide

theorem regAt_capW (i w : Fin 8) : regAt (R.TBU_CAP_W i w) = some (.TBU_CAP_W, [i.val, w.val]) := by
  revert i w; decide

/-! ### Increments (R122) -/

/-- The pair that a write of `v` to INCR_HI stands for: its low eight bits above the held low half, or above the one in force. -/
def Dom.incrPair (d : Dom) (v : Nat) : Nat := v % 256 * 2 ^ 32 + d.low.getD (d.incr % 2 ^ 32)

theorem incrLo_of_lt {n : Nat} (hn : n < 4) (v : Nat) (s : State) :
    incrLo n v s = s.setDom n { s.dom n with low := some (v % 2 ^ 32) } :=
  if_neg (by omega)

theorem incrLo_of_ge {n : Nat} (hn : 4 ≤ n) (v : Nat) (s : State) : incrLo n v s = s := if_pos hn

theorem incrHi_of_ge {n : Nat} (hn : 4 ≤ n) (v : Nat) (s : State) : incrHi n v s = s := if_pos hn

/-- The pair is set where it lies within 4 ns ± 1000 ppm, else refused; the held half is gone either way. -/
theorem incrHi_of_lt {n : Nat} (hn : n < 4) (v : Nat) (s : State) :
    incrHi n v s =
      if 0x3FEF9DB23 ≤ (s.dom n).incrPair v ∧ (s.dom n).incrPair v ≤ 0x4010624DD then
        s.setDom n { s.dom n with low := none, incr := (s.dom n).incrPair v }
      else (s.setDom n { s.dom n with low := none }).sf (F.TBU_DOM_STAT_RATE_REFUSED n) 1 := by
  have hpair : bits v 7 0 * 2 ^ 32 + (s.dom n).low.getD ((s.dom n).incr % 2 ^ 32) = (s.dom n).incrPair v := rfl
  simp only [incrHi, if_neg (show ¬ 4 ≤ n by omega), hpair]
  split_ifs <;> rfl

theorem ctlValue_incrLo (s : State) (n : Fin 4) : s.ctlValue (R.TBU_DOM_INCR_LO n) = (s.dom n).incr % 2 ^ 32 := by
  rw [ctlValue_of_regAt (regAt_incrLo n)]
  have hrow : s.regView .TBU_DOM_INCR_LO [n.val] (R.TBU_DOM_INCR_LO n) (s.reg (R.TBU_DOM_INCR_LO n)) =
      (s.dom n).incr % 2 ^ 32 := if_pos n.isLt
  rw [hrow, Nat.mod_mod]

theorem ctlValue_incrHi (s : State) (n : Fin 4) :
    s.ctlValue (R.TBU_DOM_INCR_HI n) = (s.dom n).incr / 2 ^ 32 % 2 ^ 8 := by
  rw [ctlValue_of_regAt (regAt_incrHi n)]
  have hrow : s.regView .TBU_DOM_INCR_HI [n.val] (R.TBU_DOM_INCR_HI n) (s.reg (R.TBU_DOM_INCR_HI n)) =
      (s.dom n).incr / 2 ^ 32 % 2 ^ 8 := if_pos n.isLt
  rw [hrow]
  omega

theorem slewPart_zero (rate : Nat) : slewPart rate 0 = 0 := by
  unfold slewPart
  omega

/-- Without a slew, a tick adds the increment and no more. -/
theorem Dom.tickNs_of_slew_zero {d : Dom} (h : d.slew = 0) (rate : Nat) :
    d.tickNs rate = { d with val := (d.val + d.incr) % nsModulus } := by
  have hval : Dom.tickNs.wrapI ((d.val : Int) + d.incr + 0) nsModulus = (d.val + d.incr) % nsModulus := by
    rw [Dom.tickNs.wrapI, add_zero, ← Nat.cast_add, ← Int.natCast_mod, Int.toNat_natCast]
  simp only [Dom.tickNs, h, slewPart_zero, hval, sub_self]

theorem State.tickDom_of_lt {s : State} {n : Nat} (hn : n < 4) (hoff : s.domState n ≠ dOFF) (hun : s.domState n ≠ dUNLOCKED) :
    s.tickDom n = s.setDom n ((s.dom n).tickNs s.slewRate) := by
  simp only [State.tickDom, hoff, hun, or_self, if_false, if_pos hn]

/-! ### Capture FIFOs (R135) -/

theorem capturePop_of_empty {s : State} {i : Nat} (h : s.tbu.cap.getD i [] = []) (tag : Nat) : capturePop i tag s = s := by
  rw [capturePop, h]

theorem capturePop_of_cons {s : State} {i : Nat} {c : Capture} {cs : List Capture} (h : s.tbu.cap.getD i [] = c :: cs) (tag : Nat) :
    capturePop i tag s = if c.tag = tag % 256 then s.setTbu { s.tbu with cap := setAt s.tbu.cap i cs } else s := by
  rw [capturePop, h]

theorem ctlTouch_capHead (s : State) (i : Fin 8) : ctlTouch (R.TBU_CAP_HEAD i) s = s :=
  ctlTouch_of_regAt (regAt_capHead i) s rfl (by decide)

theorem ctlTouch_capW (s : State) (i w : Fin 8) : ctlTouch (R.TBU_CAP_W i w) s = s :=
  ctlTouch_of_regAt (regAt_capW i w) s rfl (by decide)

/-- The word that TBU_CAP_HEAD shows, beside `State.capWord` for TBU_CAP_W: VALID and the tag of the oldest entry. -/
def State.capHead (s : State) (i : Nat) : Nat :=
  match s.tbu.cap.getD i [] with
  | [] => 0
  | c :: _ => 2 ^ 31 + c.tag % 256

theorem ctlValue_capHead (s : State) (i : Fin 8) : s.ctlValue (R.TBU_CAP_HEAD i) = s.capHead i := by
  rw [ctlValue_of_regAt (regAt_capHead i)]
  have hrow : s.regView .TBU_CAP_HEAD [i.val] (R.TBU_CAP_HEAD i) (s.reg (R.TBU_CAP_HEAD i)) = s.capHead i := rfl
  rw [hrow, State.capHead]
  split
  · rfl
  · omega

theorem ctlValue_capW (s : State) (i w : Fin 8) : s.ctlValue (R.TBU_CAP_W i w) = s.capWord i w := by
  rw [ctlValue_of_regAt (regAt_capW i w)]
  have hrow : s.regView .TBU_CAP_W [i.val, w.val] (R.TBU_CAP_W i w) (s.reg (R.TBU_CAP_W i w)) = s.capWord i w := rfl
  rw [hrow, State.capWord]
  split
  · rfl
  · exact Nat.mod_mod _ _

end Sys2Proof.Machine

namespace Sys2Proof.Claims
open Sys2Proof.Machine

/-- A register write of a running device outside the safe state leads to its effect. -/
theorem into_of_wr {c : Instr} {s t : State} {f : State → State} (h : Runs s) (hc : exec c s = live s (wr f)) (hf : f s = t) :
    Into c s t := by
  obtain ⟨hrun, hsafe⟩ := h
  have hwr : wr f s = t := by rw [wr, if_neg (by simp [hsafe]), hf]
  rw [Into, hc, live_running _ hrun, hwr]

/-- Settles O16: the pair of a high write decides between the two outcomes, and a tick without slew adds the increment. -/
theorem timeDomainIncrements : Obligations.TimeDomainIncrements := by
  unfold Obligations.TimeDomainIncrements
  refine ⟨fun s n v h hn => ?_, fun s n v x h hn hx => ?_, fun s n => ?_, fun s n hoff hun hslew => ?_, fun s n v h hn => ?_⟩
  · refine into_of_wr h rfl ?_
    rw [incrLo_of_lt hn, Nat.mod_eq_of_lt v.isLt]
    rfl
  · have hpair : (s.dom n).incrPair v.toNat = x := hx.symm
    have heff := incrHi_of_lt hn v.toNat s
    rw [hpair] at heff
    exact ⟨fun hlo hhi => into_of_wr h rfl (heff.trans (if_pos ⟨hlo, hhi⟩)),
      fun hout => into_of_wr h rfl (heff.trans (if_neg (by omega)))⟩
  · exact ⟨ctlValue_incrLo s n, ctlValue_incrHi s n⟩
  · rw [State.tickDom_of_lt n.isLt hoff hun, Dom.tickNs_of_slew_zero hslew]
    rfl
  · exact ⟨into_of_wr h rfl (incrLo_of_ge hn _ s), into_of_wr h rfl (incrHi_of_ge hn _ s)⟩

/-- Settles O20: a pop compares the head's tag with the eight bits written, and the reads show the head. -/
theorem captureFifosPop : Obligations.CaptureFifosPop := by
  unfold Obligations.CaptureFifosPop
  refine ⟨fun s i c cs tag h hq => ?_, fun s i tag h hq => into_of_wr h rfl (capturePop_of_empty hq _), fun s i w => ?_⟩
  · have hpop := capturePop_of_cons hq tag.toNat
    rw [Nat.mod_eq_of_lt tag.isLt] at hpop
    exact ⟨fun heq => into_of_wr h rfl (hpop.trans (if_pos heq)), fun hne => into_of_wr h rfl (hpop.trans (if_neg hne))⟩
  · rw [ctlValue_capHead, ctlValue_capW, State.capHead, State.capWord]
    refine ⟨ctlTouch_capHead s i, ctlTouch_capW s i w, fun hq => ?_, fun c cs hq => ?_⟩
    · rw [hq]
      exact ⟨rfl, rfl⟩
    · rw [hq]
      exact ⟨rfl, rfl⟩

end Sys2Proof.Claims
end
